-- ==== Sys2Proof/Word.lean ====
section
/-! DEFINITION. The words the device moves and the plain types that name its parts: a 64-byte line, the write sources,
the kinds of register page, and the small enumerations that commands carry as operands. -/

namespace Sys2Proof

/-- The 64 data bytes of one line, byte 0 in bits [7:0] (R22, R235). -/
abbrev Line := BitVec 512

/-- A 64-bit register word. -/
abbrev Word := BitVec 64

/-- A write source of R30: 0 to 3 host ports A to D, 4 the BMC, 5 the management core. -/
abbrev Source := Fin 6

/-- A host port, A to D. -/
abbrev Port := Fin 4

/-- The kinds of register page of the BAR0 page index (R52), in its order. -/
inductive PageKind where
  | device | clock | hostPort | headgate | weir | allotment | tractTable | transCache | siphon | cistern
  | flume | levee | furrow | canal | crypto | rekey | culvert | turnout | shared | twin | sluice | power
  | gauge | dataMover | mailbox
deriving DecidableEq, Repr

/-- One register page: its kind and its instance number. -/
structure PageId where
  kind : PageKind
  inst : Nat
deriving DecidableEq, Repr

end Sys2Proof
end

