-- ==== Sys2Proof/Machine/Cmd.lean ====
section
/-! DEFINITION. The operand types of commands beside plain numbers. -/

namespace Sys2Proof

/-- What the SPD of a Canal's DIMMs reports (R269). -/
structure Spd where
  dimms : Nat
  gb : Nat
  width : Nat
  dens : Nat
  pkg : Nat
  log : Nat
deriving DecidableEq, Repr

/-- What the host programs in a function's configuration space, which has no command of its own: Bus Master Enable,
Max_Payload_Size and Max_Read_Request_Size in bytes, whether it has enabled the BI capability (R63, R117). -/
structure PortCfg where
  bme : Bool
  mps : Nat
  mrrs : Nat
  bi : Bool
deriving DecidableEq, Repr

/-- A row read and decoded: the bit errors that each sector read meets, and the row of R236 whose check fails on the way, or 0. -/
structure RowRead where
  errs : List (BitVec 640)
  intl : Fin 8
deriving DecidableEq, Repr

/-- What a compress engine has made: the encoder's LZ streams, and whether the check of Flume's boundary fails (R217, R236). -/
structure Encoded where
  streams : List (List Nat)
  bad : Bool
deriving DecidableEq, Repr

/-- A merge entry with the bit errors that the reads its drain needs meet. -/
structure EntryRead where
  entry : Nat
  errs : List (BitVec 640)
deriving DecidableEq, Repr

/-- A firmware image with its header (R498): its length, version and security version, its `COMMIT` flag, whether its signature
verifies and its header is in order, whether its digest matches. -/
structure FwImage where
  length : Nat
  version : Nat
  security : Nat
  commit : Bool
  sigOk : Bool
  digestOk : Bool
deriving DecidableEq, Repr

/-- An entry of the fabric ID table (R350). -/
structure IdEnt where
  id : Nat
  serial : Nat
  held : Bool
deriving DecidableEq, Repr

/-- A management message (R352). -/
inductive Mgmt where
  | claim (serial prio epoch : Nat)
  | idReq (serial pref : Nat)
  | idGrant (serial id epoch : Nat)
  | idTable (ents : List IdEnt)
  | linkState (id : Nat) (links : List (Nat × Nat × Nat))
  | leave (id reason : Nat)
  | spdm (last ok : Bool) (err : Nat)
  | keyUpdate (last : Bool)
deriving DecidableEq, Repr

/-- A transport unit (R358). A MGMT unit carries its message with its originator's serial number and message number. -/
structure FUnit where
  utype : Nat
  isLocal : Bool := false
  guar : Bool := false
  replay : Bool := false
  src : Nat := 0
  dst : Nat := 0
  allot : Nat := 0
  hops : Nat := 0
  fseq : Nat := 0
  line : Nat := 0
  xid : Nat := 0
  code : Nat := 0
  demoted : Bool := false
  be : Nat := 0
  fack : Nat := 0
  credRet : Nat := 0
  fackV : Bool := false
  data : Line := 0
  lc : Nat := 0
  mgmt : Option (Mgmt × Nat × Nat) := none
deriving DecidableEq, Repr

/-- What HELLO carries between the devices of a pair (R421). -/
structure Hello where
  serial : Nat
  role : Nat
  epoch : Nat
  content : Nat
  peerContent : Nat
  fresh : Bool
  st : Nat
  nlinks : Nat
  adm : Nat
  mir : Nat
  dpc : Nat
  raw : Nat
  sumOk : Bool
deriving DecidableEq, Repr

/-- A record of the twin stream (R401, R402). -/
structure TwRec where
  op : Nat
  line : Nat := 0
  arg : Nat := 0
  data : Line := 0
  lc : Nat := 0
  hello : Option Hello := none
  came : Nat := 0
deriving DecidableEq, Repr

/-- A Culvert control operation with its operands (R328). -/
structure Ctrl where
  op : Nat
  a : Nat := 0
  b : Nat := 0
  c : Nat := 0
deriving DecidableEq, Repr

/-- The body of a Culvert flit (R325, R328, R358, R401). -/
inductive FlitBody where
  | idle
  | units (us : List FUnit)
  | recs (fseq : Nat) (rs : List TwRec)
  | ctrl (c : Ctrl)
deriving DecidableEq, Repr

/-- The header of a received flit (R325), with whether its GCM tag verifies, the symbols RS corrected in it, and whether a
reserved type, operation or bit is set in it (R326). -/
structure FlitHdr where
  seq : Nat
  ack : Nat
  ackV : Bool
  phase : Nat
  gcm : Bool
  corr : Nat
  bad : Bool := false
deriving DecidableEq, Repr

end Sys2Proof
end

