-- ==== Sys2Proof/Syntax.lean ====
section
/-! DEFINITION. The commands of the block: one constructor per row of the table of operations and events, with the
operands the spec gives each. The first operand of every command, `t`, is the tide (ns) at which it happens (log
entry 2). -/

namespace Sys2Proof

/-- The commands (spec/opcode_table.json), each with the rule that governs it. -/
inductive Instr where
  /-- REG_WRITE, R29. -/
  | regWrite (t : Nat) (src : Source) (off size : Nat) (val : BitVec 64)
  /-- ISLAND_CLOCK_LOSS, R13. -/
  | islandClockLoss (t : Nat) (isl : Fin 40) (pll : Bool)
  /-- ISLAND_CLOCK_RETURN, R505. -/
  | islandClockReturn (t : Nat) (isl : Fin 40)
  /-- TURN_BOUNDARY, R15. -/
  | turnBoundary (t : Nat)
  /-- BEACON_ARRIVAL, R16. -/
  | beaconArrival (t : Nat) (isl : Fin 40) (offset : Nat) (fails : List (Fin 40))
  /-- HALF_TURN_POINT, R162. -/
  | halfTurnPoint (t : Nat)
  /-- FLOOR_HOLD_POINT, R136. -/
  | floorHoldPoint (t : Nat) (p : Port)
  /-- COMMIT_GO, R33. -/
  | commitGo (t : Nat) (src : Source) (p : PageId)
  /-- COMMIT_VALIDATE, R36. -/
  | commitValidate (t : Nat)
  /-- PAGE_HALT_REQUEST, R44. -/
  | pageHaltRequest (t : Nat) (src : Source) (p : PageId) (halt : Bool)
  /-- PAGE_HALTED, R44. -/
  | pageHalted (t : Nat) (p : PageId)
  /-- SOFT_CLEAR, R43. -/
  | softClear (t : Nat) (src : Source) (p : PageId)
  /-- PAGE_LOCK, R45. -/
  | pageLock (t : Nat) (src : Source) (p : PageId)
  /-- LOCK_ALL, R45. -/
  | lockAll (t : Nat) (src : Source)
  /-- SNAP_TAKE, R46. -/
  | snapTake (t : Nat) (src : Source) (p : PageId)
  /-- DEVICE_SNAP_TAKE, R47. -/
  | deviceSnapTake (t : Nat) (src : Source)
  /-- EVT_STATUS_CLEAR, R76. -/
  | evtStatusClear (t : Nat) (src : Source) (p : PageId) (mask : BitVec 64)
  /-- MSIX_UNMASK, R76. -/
  | msixUnmask (t : Nat) (p : Port) (vec : Fin 133)
  /-- LINK_TRAINING, R55. -/
  | linkTraining (t : Nat) (p : Port) (reason ltssm : Nat) (again : Bool) (eq : Option (Nat × Nat))
  /-- LINK_UP, R55. -/
  | linkUp (t : Nat) (p : Port) (rate width ltssm : Nat) (lo : Bool) (cfg : PortCfg)
  /-- LINK_RETRAIN, R56. -/
  | linkRetrain (t : Nat) (src : Source) (p : Port) (rate width : Nat) (lo : Bool) (eq : Option (Nat × Nat))
  /-- EQ128_RETRY, R56. -/
  | eq128Retry (t : Nat) (src : Source) (p : Port)
  /-- LINK_RATE_CHANGE, R58. -/
  | linkRateChange (t : Nat) (p : Port) (rate width : Nat)
  /-- IDE_INTEGRITY_FAILURE, R61. -/
  | ideIntegrityFailure (t : Nat) (p : Port) (mem : Bool) (flits : Nat)
  /-- DECODER_COMMIT, R63. -/
  | decoderCommit (t : Nat) (p : Port) (n : Fin 16) (base size ways gran : Nat) (bi : Bool)
  /-- DECODER_UNCOMMIT, R65. -/
  | decoderUncommit (t : Nat) (p : Port) (n : Fin 16)
  /-- LINK_DROP, R78. -/
  | linkDrop (t : Nat) (p : Port)
  /-- TAGS_FREED_AFTER_DROP, R78. -/
  | tagsFreedAfterDrop (t : Nat) (p : Port)
  /-- PORT_DISABLE, R84. -/
  | portDisable (t : Nat) (src : Source) (p : Port)
  /-- FLR, R80. -/
  | flr (t : Nat) (p : Port)
  /-- FLR_COMPLETE, R80. -/
  | flrComplete (t : Nat) (p : Port) (cfg : PortCfg)
  /-- HOT_RESET, R81. -/
  | hotReset (t : Nat) (p : Port)
  /-- PORT_PERST, R82. -/
  | portPerst (t : Nat) (p : Port) (asserted : Bool)
  /-- DEVICE_FUNDAMENTAL_RESET, R82. -/
  | deviceFundamentalReset (t : Nat)
  /-- DDT_REBUILD, R72. -/
  | ddtRebuild (t : Nat) (done : Bool)
  /-- IDENTIFY_MEMORY_DEVICE, R68. -/
  | identifyMemoryDevice (t : Nat) (p : Port)
  /-- GET_SUPPORTED_LOGS, R68. -/
  | getSupportedLogs (t : Nat) (p : Port)
  /-- GET_LOG, R68. -/
  | getLog (t : Nat) (p : Port) (effects : Bool)
  /-- GET_HEALTH_INFO, R68. -/
  | getHealthInfo (t : Nat) (p : Port)
  /-- GET_EVENT_RECORDS, R68. -/
  | getEventRecords (t : Nat) (p : Port)
  /-- CLEAR_EVENT_RECORDS, R68. -/
  | clearEventRecords (t : Nat) (p : Port) (n : Nat)
  /-- GET_POISON_LIST, R68. -/
  | getPoisonList (t : Nat) (p : Port)
  /-- GET_FW_INFO, R68. -/
  | getFwInfo (t : Nat) (p : Port)
  /-- GET_TIMESTAMP, R68. -/
  | getTimestamp (t : Nat) (p : Port)
  /-- SET_TIMESTAMP, R68. -/
  | setTimestamp (t : Nat) (p : Port) (v : BitVec 64)
  /-- MAILBOX_UNSUPPORTED, R68. -/
  | mailboxUnsupported (t : Nat) (p : Port) (op : BitVec 16)
  /-- DOE_DISCOVERY, R73. -/
  | doeDiscovery (t : Nat) (p : Port) (tt : Fin 4) (ready : Bool)
  /-- DOE_CMA_SPDM, R73. -/
  | doeCmaSpdm (t : Nat) (p : Port) (len : Nat) (ready : Bool)
  /-- DOE_SECURED_SPDM, R73. -/
  | doeSecuredSpdm (t : Nat) (p : Port) (len : Nat) (ready : Bool)
  /-- CDAT_TABLE_ACCESS, R74. -/
  | cdatTableAccess (t : Nat) (p : Port) (ready : Bool)
  /-- DOE_ABORT, R73. -/
  | doeAbort (t : Nat) (p : Port)
  /-- CXL_MEMRD, R90. -/
  | cxlMemrd (t : Nat) (p : Port) (hostTag hpa : Nat) (dataOnly : Bool) (want : Fin 3)
  /-- CXL_MEMSPECRD, R90. -/
  | cxlMemspecrd (t : Nat) (p : Port) (hpa : Nat) (fetch : Bool)
  /-- CXL_MEMWR, R90. -/
  | cxlMemwr (t : Nat) (p : Port) (hostTag hpa : Nat) (data : Line) (poison giveUp : Bool)
  /-- CXL_MEMWRPTL, R90. -/
  | cxlMemwrptl (t : Nat) (p : Port) (hostTag hpa : Nat) (data : Line) (be : BitVec 64) (poison giveUp : Bool)
  /-- CXL_MEMINV, R380. -/
  | cxlMeminv (t : Nat) (p : Port) (hostTag hpa : Nat) (nt : Bool)
  /-- CXL_MEMCLNEVCT, R380. -/
  | cxlMemclnevct (t : Nat) (p : Port) (hostTag hpa : Nat)
  /-- CXL_BICONFLICT, R388. -/
  | cxlBiconflict (t : Nat) (p : Port) (hostTag hpa : Nat)
  /-- BIRSP_RECEIVED, R386. -/
  | birspReceived (t : Nat) (p : Port) (line : Nat) (shared : Bool)
  /-- HEADGATE_RELEASE, R138. -/
  | headgateRelease (t : Nat) (p : Port)
  /-- POOL_GRANT, R139. -/
  | poolGrant (t : Nat) (asks : List Port) (a : Fin 16) (wrt : Bool) (n : Nat)
  /-- CALL_LEVEL_CHANGE, R142. -/
  | callLevelChange (t : Nat) (p : Port) (level : Fin 4)
  /-- READ_DATA_RETURN, R19. -/
  | readDataReturn (t : Nat) (p : Fin 6) (g : Nat) (errs : List (BitVec 640)) (cisBad : Bool) (victim intl : Nat)
  /-- READ_EGRESS_LIMIT, R19. -/
  | readEgressLimit (t : Nat) (p : Port) (g : Fin 4096)
  /-- RESPONSE_SENT, R91. -/
  | responseSent (t : Nat) (p : Port) (g : Fin 4096)
  /-- WRITE_LOCAL_COMMIT, R21. -/
  | writeLocalCommit (t : Nat) (p : Fin 6) (g : Nat) (bad : Fin 3)
  /-- MERGE_DRAIN, R250. -/
  | mergeDrain (t : Nat) (es bad : List Nat)
  /-- DRAIN_COMPLETE, R248. -/
  | drainComplete (t : Nat) (es fails lost : List Nat)
  /-- PARTIAL_FETCH_COMPLETE, R251. -/
  | partialFetchComplete (t : Nat) (e : Nat) (errs : List (BitVec 640)) (cisBad : Bool)
  /-- INTERNAL_OP_START, R95. -/
  | internalOpStart (t : Nat) (kind : Fin 5) (line : Nat) (slot : Fin 64)
  /-- INTERNAL_STEP_DEADLINE, R96. -/
  | internalStepDeadline (t : Nat) (n : Nat)
  /-- LATE_W0_READ, R101. -/
  | lateW0Read (t : Nat) (p : Port)
  /-- LATE_POP, R101. -/
  | latePop (t : Nat) (src : Source) (p : Port)
  /-- JOB_SUBMIT, R115. -/
  | jobSubmit (t : Nat) (src : Source) (dir : Fin 2) (port : Port) (allot : Fin 16) (intr : Bool) (tag : Nat)
  /-- JOB_START, R114. -/
  | jobStart (t : Nat)
  /-- DM_HOST_READ_COMPLETION, R117. -/
  | dmHostReadCompletion (t : Nat) (slot : Fin 64) (ok : Bool) (data : Line)
  /-- JOB_END, R117. -/
  | jobEnd (t : Nat) (slot : Fin 64)
  /-- JOB_ABORT, R120. -/
  | jobAbort (t : Nat) (src : Source) (slot : Fin 64)
  /-- JOB_RELEASE, R120. -/
  | jobRelease (t : Nat) (src : Source) (slot : Fin 64)
  /-- WEIR_RECOMPUTE, R166. -/
  | weirRecompute (t : Nat)
  /-- FRAME_DRAIN_COMPLETE, R178. -/
  | frameDrainComplete (t : Nat) (f : Nat)
  /-- TRANSLATION_FETCH_DONE, R190. -/
  | translationFetchDone (t : Nat) (plot ns : Nat) (bad copyBad next : Bool) (evict : List Nat)
  /-- TC_FLUSH, R192. -/
  | tcFlush (t : Nat) (src : Source)
  /-- TC_FLUSH_DONE, R192. -/
  | tcFlushDone (t : Nat)
  /-- SIPHON_PROMOTE, R196. -/
  | siphonPromote (t : Nat) (src : Source) (tag : Nat)
  /-- SIPHON_DEMOTE, R196. -/
  | siphonDemote (t : Nat) (src : Source) (tag : Nat)
  /-- SIPHON_COMPRESS, R196. -/
  | siphonCompress (t : Nat) (src : Source) (tag : Nat)
  /-- SIPHON_EXPAND, R196. -/
  | siphonExpand (t : Nat) (src : Source) (tag : Nat)
  /-- SIPHON_PIN, R196. -/
  | siphonPin (t : Nat) (src : Source) (tag : Nat)
  /-- SIPHON_UNPIN, R196. -/
  | siphonUnpin (t : Nat) (src : Source) (tag : Nat)
  /-- SIPHON_DISCARD, R196. -/
  | siphonDiscard (t : Nat) (src : Source) (tag : Nat)
  /-- SIPHON_TRACT_OUT, R201. -/
  | siphonTractOut (t : Nat) (src : Source) (slot : Fin 8) (peer tag : Nat)
  /-- SIPHON_TRACT_IN, R201. -/
  | siphonTractIn (t : Nat) (src : Source) (slot : Fin 8) (peer : Nat) (mode : Fin 4) (tag : Nat)
  /-- SIPHON_MOVE_STEP, R197. -/
  | siphonMoveStep (t : Nat) (errs : List (BitVec 640)) (cisBad : Bool)
  /-- TRACT_MOVE_END, R201. -/
  | tractMoveEnd (t : Nat)
  /-- SIPHON_DISABLE, R206. -/
  | siphonDisable (t : Nat) (src : Source)
  /-- DECAY_EPOCH_ADVANCE, R200. -/
  | decayEpochAdvance (t : Nat)
  /-- DIR_FETCH_DONE, R215. -/
  | dirFetchDone (t : Nat) (plot : Nat) (bad copyBad : Bool)
  /-- ROW_DECODE_DONE, R219. -/
  | rowDecodeDone (t : Nat) (plot : Nat) (row : Fin 4) (wait : Nat) (read : RowRead) (victims : List Nat)
  /-- COMPRESS_DONE, R222. -/
  | compressDone (t : Nat) (enc : Encoded)
  /-- REWRITE_START, R223. -/
  | rewriteStart (t : Nat) (e : EntryRead)
  /-- REWRITE_STORE, R223. -/
  | rewriteStore (t : Nat) (plot : Nat) (row : Fin 4) (enc : Encoded)
  /-- RECOVERY_REREAD_DONE, R238. -/
  | recoveryRereadDone (t : Nat) (k : Nat) (errs : List (BitVec 640))
  /-- STRIPE_RECOMPUTE_DONE, R255. -/
  | stripeRecomputeDone (t : Nat) (k : Nat) (errs : List (BitVec 640))
  /-- REPAIR_WRITE, R242. -/
  | repairWrite (t : Nat)
  /-- REPAIR_TIMEOUT, R242. -/
  | repairTimeout (t : Nat)
  /-- FLIP_ARM, R258. -/
  | flipArm (t : Nat) (src : Source)
  /-- FLIP_DISARM, R258. -/
  | flipDisarm (t : Nat) (src : Source)
  /-- FURROW_PASS_GO, R263. -/
  | furrowPassGo (t : Nat) (src : Source)
  /-- FURROW_PASS_STOP, R263. -/
  | furrowPassStop (t : Nat) (src : Source)
  /-- FURROW_DISABLE, R263. -/
  | furrowDisable (t : Nat) (src : Source)
  /-- FURROW_STEP_DONE, R260. -/
  | furrowStepDone (t : Nat) (errs : List (BitVec 640))
  /-- CANAL_TRAINING_START, R272. -/
  | canalTrainingStart (t : Nat) (c : Fin 16)
  /-- CANAL_TRAINING_DONE, R272. -/
  | canalTrainingDone (t : Nat) (c : Fin 16) (fail : Nat) (spd : Spd) (raw : List (List Nat))
  /-- CANAL_FILL_COMPLETE, R280. -/
  | canalFillComplete (t : Nat) (c : Fin 16)
  /-- REFRESH_DUE, R274. -/
  | refreshDue (t : Nat) (c : Fin 16) (rank : Nat) (busy drift : Bool)
  /-- DIMM_THERMAL_READ, R275. -/
  | dimmThermalRead (t : Nat) (c : Fin 16) (t0 t1 : Int)
  /-- CA_PARITY_ALERT, R278. -/
  | caParityAlert (t : Nat) (c : Fin 16) (again : Bool)
  /-- RCD_INTERNAL_ERROR, R279. -/
  | rcdInternalError (t : Nat) (c : Fin 16)
  /-- OOS_REQ, R282. -/
  | oosReq (t : Nat) (src : Source) (c : Fin 16) (force pair : Bool)
  /-- RETURN_GO, R286. -/
  | returnGo (t : Nat) (src : Source) (c : Fin 16) (pair : Bool)
  /-- REBUILD_LINE_DONE, R288. -/
  | rebuildLineDone (t : Nat) (c : Fin 16)
  /-- KEY_LOAD, R294. -/
  | keyLoad (t : Nat) (src : Source) (k : Fin 64) (lock : Bool)
  /-- KEY_GENERATE, R294. -/
  | keyGenerate (t : Nat) (src : Source) (k : Fin 64) (lock : Bool)
  /-- KEY_CLEAR, R294. -/
  | keyClear (t : Nat) (src : Source) (k : Fin 64)
  /-- KEY_ZEROISE, R305. -/
  | keyZeroise (t : Nat) (src : Source) (k : Fin 64)
  /-- KEY_CMD_DONE, R295. -/
  | keyCmdDone (t : Nat)
  /-- ALARM_CAUSE_CLEAR, R304. -/
  | alarmCauseClear (t : Nat) (src : Source) (mask : Nat)
  /-- REKEY_GO, R309. -/
  | rekeyGo (t : Nat) (src : Source) (n : Fin 65536) (k : Fin 64)
  /-- REKEY_STEP_DONE, R311. -/
  | rekeyStepDone (t : Nat) (errs : List (BitVec 640)) (cisBad : Bool)
  /-- IDE_QUERY, R314. -/
  | ideQuery (t : Nat) (p : Port) (mem : Bool)
  /-- IDE_KEY_PROG, R315. -/
  | ideKeyProg (t : Nat) (p : Port) (mem tx : Bool) (k : Fin 2)
  /-- IDE_K_SET_GO, R315. -/
  | ideKSetGo (t : Nat) (p : Port) (mem : Bool) (k : Fin 2)
  /-- IDE_K_SET_STOP, R315. -/
  | ideKSetStop (t : Nat) (p : Port) (mem : Bool) (k : Fin 2)
  /-- FLIT_SLOT_SEND, R329. -/
  | flitSlotSend (t : Nat) (l : Fin 8) (lost : Bool)
  /-- DATA_FLIT_RECEIVED, R331. -/
  | dataFlitReceived (t : Nat) (l : Fin 8) (h : FlitHdr) (b : FlitBody)
  /-- IDLE_FLIT_RECEIVED, R326. -/
  | idleFlitReceived (t : Nat) (l : Fin 8) (h : FlitHdr)
  /-- FAILED_FLIT, R333. -/
  | failedFlit (t : Nat) (l : Fin 8) (fec : Bool)
  /-- CTRL_NAK, R334. -/
  | ctrlNak (t : Nat) (l : Fin 8) (h : FlitHdr) (seq : Nat)
  /-- CTRL_RETRAIN_REQ, R342. -/
  | ctrlRetrainReq (t : Nat) (l : Fin 8) (h : FlitHdr) (reason : Nat)
  /-- CTRL_RESUME, R342. -/
  | ctrlResume (t : Nat) (l : Fin 8) (h : FlitHdr) (next wrap phase : Nat)
  /-- CTRL_SPARE_REQ, R339. -/
  | ctrlSpareReq (t : Nat) (l : Fin 8) (h : FlitHdr) (k : Nat)
  /-- CTRL_SPARE_ACK, R339. -/
  | ctrlSpareAck (t : Nat) (l : Fin 8) (h : FlitHdr) (k p : Nat)
  /-- CTRL_SPARE_DONE, R339. -/
  | ctrlSpareDone (t : Nat) (l : Fin 8) (h : FlitHdr) (k : Nat)
  /-- CTRL_SPAREBACK_REQ, R340. -/
  | ctrlSparebackReq (t : Nat) (l : Fin 8) (h : FlitHdr) (k : Nat)
  /-- CTRL_SPAREBACK_ACK, R340. -/
  | ctrlSparebackAck (t : Nat) (l : Fin 8) (h : FlitHdr) (k p : Nat)
  /-- CTRL_KEY_SWITCH, R338. -/
  | ctrlKeySwitch (t : Nat) (l : Fin 8) (h : FlitHdr) (seq phase : Nat)
  /-- CTRL_BROKEN, R344. -/
  | ctrlBroken (t : Nat) (l : Fin 8) (h : FlitHdr) (cause : Nat)
  /-- CTRL_HELLO, R343. -/
  | ctrlHello (t : Nat) (l : Fin 8) (h : FlitHdr) (serial link : Nat) (spare : Bool)
  /-- NAK_RETRY_TIMEOUT, R333. -/
  | nakRetryTimeout (t : Nat) (l : Fin 8)
  /-- AT_CAP_TIMEOUT, R336. -/
  | atCapTimeout (t : Nat) (l : Fin 8)
  /-- LANE_DEGRADED, R339. -/
  | laneDegraded (t : Nat) (l : Fin 8) (k : Fin 5) (corr : Nat) (lost : Bool)
  /-- SPARE_SWITCH, R339. -/
  | spareSwitch (t : Nat) (l : Fin 8) (rx : Bool)
  /-- SPAREBACK_QUALIFIED, R340. -/
  | sparebackQualified (t : Nat) (l : Fin 8) (k : Fin 5)
  /-- CULVERT_RETRAIN, R342. -/
  | culvertRetrain (t : Nat) (src : Source) (l : Fin 8)
  /-- RETRAIN_LANES_READY, R342. -/
  | retrainLanesReady (t : Nat) (l : Fin 8) (tx rx : List Nat)
  /-- RETRAIN_TIMEOUT, R342. -/
  | retrainTimeout (t : Nat) (l : Fin 8)
  /-- CULVERT_RESTART, R343. -/
  | culvertRestart (t : Nat) (src : Source) (l : Fin 8)
  /-- RESTART_TIMER, R343. -/
  | restartTimer (t : Nat) (l : Fin 8)
  /-- CULVERT_TRAINING_DONE, R343. -/
  | culvertTrainingDone (t : Nat) (l : Fin 8) (tx rx : List Nat)
  /-- CULVERT_KEYING_DONE, R353. -/
  | culvertKeyingDone (t : Nat) (l : Fin 8)
  /-- LINK_KEY_READY, R338. -/
  | linkKeyReady (t : Nat) (l : Fin 8)
  /-- CULVERT_DISABLE, R344. -/
  | culvertDisable (t : Nat) (src : Source) (l : Fin 8)
  /-- MGMT_CLAIM, R349. -/
  | mgmtClaim (t : Nat)
  /-- MGMT_ID_REQ, R350. -/
  | mgmtIdReq (t : Nat)
  /-- MGMT_ID_GRANT, R350. -/
  | mgmtIdGrant (t : Nat)
  /-- MGMT_ID_TABLE, R350. -/
  | mgmtIdTable (t : Nat)
  /-- MGMT_LINK_STATE, R352. -/
  | mgmtLinkState (t : Nat)
  /-- MGMT_LEAVE, R372. -/
  | mgmtLeave (t : Nat)
  /-- MGMT_SPDM, R353. -/
  | mgmtSpdm (t : Nat)
  /-- MGMT_KEY_UPDATE, R353. -/
  | mgmtKeyUpdate (t : Nat)
  /-- CLAIM_PERIODIC, R349. -/
  | claimPeriodic (t : Nat)
  /-- ELECTION_SETTLE, R349. -/
  | electionSettle (t : Nat)
  /-- LINK_STATE_PERIODIC, R352. -/
  | linkStatePeriodic (t : Nat)
  /-- ID_HOLD_EXPIRY, R350. -/
  | idHoldExpiry (t : Nat) (d : Fin 64)
  /-- KEYING_RETRY, R353. -/
  | keyingRetry (t : Nat) (l : Fin 8)
  /-- ROUTE_RECOMPUTE, R355. -/
  | routeRecompute (t : Nat)
  /-- FABRIC_LEAVE, R372. -/
  | fabricLeave (t : Nat) (src : Source)
  /-- UNIT_RD, R367. -/
  | unitRd (t : Nat) (l : Fin 8)
  /-- UNIT_WR, R367. -/
  | unitWr (t : Nat) (l : Fin 8)
  /-- UNIT_WRP, R367. -/
  | unitWrp (t : Nat) (l : Fin 8)
  /-- UNIT_RDRSP, R366. -/
  | unitRdrsp (t : Nat) (l : Fin 8)
  /-- UNIT_WRCMP, R366. -/
  | unitWrcmp (t : Nat) (l : Fin 8)
  /-- UNIT_DEMOTE, R368. -/
  | unitDemote (t : Nat) (l : Fin 8)
  /-- UNIT_FACK, R362. -/
  | unitFack (t : Nat) (l : Fin 8)
  /-- UNIT_RESYNC, R365. -/
  | unitResync (t : Nat) (l : Fin 8)
  /-- UNIT_RESYNC_ACK, R365. -/
  | unitResyncAck (t : Nat) (l : Fin 8)
  /-- UNIT_TRANSIT, R357. -/
  | unitTransit (t : Nat) (l : Fin 8)
  /-- UNIT_BAD, R359. -/
  | unitBad (t : Nat) (l : Fin 8)
  /-- FABRIC_RELEASE, R367. -/
  | fabricRelease (t : Nat) (d : Fin 64) (a : Fin 16)
  /-- OWNER_DEADLINE, R367. -/
  | ownerDeadline (t : Nat) (g : Fin 4096)
  /-- FACK_TIMER, R362. -/
  | fackTimer (t : Nat) (d : Fin 64) (a : Fin 16)
  /-- CRED_TIMEOUT, R364. -/
  | credTimeout (t : Nat) (d : Fin 64) (a : Fin 16)
  /-- COH_CRD, R389. -/
  | cohCrd (t : Nat) (l : Fin 8)
  /-- COH_EVICT, R389. -/
  | cohEvict (t : Nat) (l : Fin 8)
  /-- COH_BISNP, R389. -/
  | cohBisnp (t : Nat) (l : Fin 8)
  /-- COH_BIRSP, R389. -/
  | cohBirsp (t : Nat) (l : Fin 8)
  /-- COH_GRANT, R389. -/
  | cohGrant (t : Nat) (l : Fin 8)
  /-- COH_AGENT_DOWN, R392. -/
  | cohAgentDown (t : Nat) (l : Fin 8)
  /-- COH_FENCE, R392. -/
  | cohFence (t : Nat) (l : Fin 8)
  /-- COH_READY, R391. -/
  | cohReady (t : Nat) (l : Fin 8)
  /-- READY_RESEND, R391. -/
  | readyResend (t : Nat) (r : Fin 32)
  /-- HOLD_END, R385. -/
  | holdEnd (t : Nat) (line : Nat)
  /-- DIR_SWEEP, R382. -/
  | dirSweep (t : Nat)
  /-- BI_TIMEOUT, R392. -/
  | biTimeout (t : Nat) (line : Nat) (k : Fin 8)
  /-- REGION_TEAR, R392. -/
  | regionTear (t : Nat) (src : Source) (r : Fin 32)
  /-- REGION_REFORM, R394. -/
  | regionReform (t : Nat) (src : Source) (r : Fin 32)
  /-- TWIN_MIRROR, R408. -/
  | twinMirror (t : Nat)
  /-- TWIN_MIRROR_P, R408. -/
  | twinMirrorP (t : Nat)
  /-- TWIN_FWD, R408. -/
  | twinFwd (t : Nat)
  /-- TWIN_FWD_P, R408. -/
  | twinFwdP (t : Nat)
  /-- TWIN_MASK, R402. -/
  | twinMask (t : Nat)
  /-- TWIN_ORDERED, R408. -/
  | twinOrdered (t : Nat)
  /-- TWIN_ACK, R403. -/
  | twinAck (t : Nat)
  /-- TWIN_REFETCH_REQ, R411. -/
  | twinRefetchReq (t : Nat) (errs : List (BitVec 640)) (cisBad : Bool)
  /-- TWIN_REFETCH_RSP, R411. -/
  | twinRefetchRsp (t : Nat)
  /-- TWIN_REFETCH_FAIL, R411. -/
  | twinRefetchFail (t : Nat)
  /-- REFETCH_BUDGET_EXPIRY, R411. -/
  | refetchBudgetExpiry (t : Nat) (n : Nat)
  /-- TWIN_COPY, R424. -/
  | twinCopy (t : Nat)
  /-- TWIN_COPY_POISON, R424. -/
  | twinCopyPoison (t : Nat)
  /-- TWIN_COPY_BLANK, R424. -/
  | twinCopyBlank (t : Nat)
  /-- TWIN_DIR, R384. -/
  | twinDir (t : Nat)
  /-- TWIN_HELLO, R422. -/
  | twinHello (t : Nat)
  /-- TWIN_LEAVE, R416. -/
  | twinLeave (t : Nat)
  /-- TWIN_REVERSE, R424. -/
  | twinReverse (t : Nat)
  /-- TWIN_MAP, R422. -/
  | twinMap (t : Nat)
  /-- TWIN_PAIRED, R426. -/
  | twinPaired (t : Nat)
  /-- TWIN_COH, R429. -/
  | twinCoh (t : Nat)
  /-- TWIN_COH_DATA, R429. -/
  | twinCohData (t : Nat)
  /-- TWIN_BAD_RECORD, R402. -/
  | twinBadRecord (t : Nat)
  /-- DIVERSE_TIMEOUT, R405. -/
  | diverseTimeout (t : Nat)
  /-- LOSS_TIMEOUT, R416. -/
  | lossTimeout (t : Nat)
  /-- TWIN_HELLO_PERIODIC, R421. -/
  | twinHelloPeriodic (t : Nat)
  /-- TWIN_DETACH, R419. -/
  | twinDetach (t : Nat) (src : Source) (why : Fin 3)
  /-- RESILVER_GO, R422. -/
  | resilverGo (t : Nat) (src : Source)
  /-- RESILVER_FULL, R422. -/
  | resilverFull (t : Nat) (src : Source)
  /-- TWIN_UNFENCE, R418. -/
  | twinUnfence (t : Nat) (src : Source)
  /-- RESILVER_LINE_SEND, R424. -/
  | resilverLineSend (t : Nat) (errs : List (BitVec 640)) (cisBad : Bool)
  /-- PAIRED_HANDOVER_DONE, R426. -/
  | pairedHandoverDone (t : Nat)
  /-- SLUICE_SAMPLE, R436. -/
  | sluiceSample (t : Nat) (c : Fin 10) (prsnt : Bool) (code v vin : Nat) (tj : Int) (reg : Bool)
  /-- CURVE_TRIP, R438. -/
  | curveTrip (t : Nat) (c : Fin 10)
  /-- UV_TRIP, R442. -/
  | uvTrip (t : Nat) (c : Fin 10)
  /-- SC_COMPARATOR, R441. -/
  | scComparator (t : Nat) (c : Fin 10)
  /-- DEBOUNCE_COMPLETE, R443. -/
  | debounceComplete (t : Nat) (c : Fin 10)
  /-- INRUSH_TIMEOUT, R443. -/
  | inrushTimeout (t : Nat) (c : Fin 10)
  /-- PG_TIMEOUT, R443. -/
  | pgTimeout (t : Nat) (c : Fin 10)
  /-- COOLDOWN_END, R448. -/
  | cooldownEnd (t : Nat) (c : Fin 10)
  /-- REMOVAL_DECLARED, R446. -/
  | removalDeclared (t : Nat) (c : Fin 10)
  /-- PRESENCE_DETECTED, R446. -/
  | presenceDetected (t : Nat) (c : Fin 10)
  /-- GOOD_ON_TIME_10S, R449. -/
  | goodOnTime10s (t : Nat) (c : Fin 10)
  /-- SLUICE_MEAN_UPDATE, R436. -/
  | sluiceMeanUpdate (t : Nat) (c : Fin 10)
  /-- SLUICE_ON_REQ, R445. -/
  | sluiceOnReq (t : Nat) (src : Source) (c : Fin 10)
  /-- SLUICE_OFF_REQ, R451. -/
  | sluiceOffReq (t : Nat) (src : Source) (c : Fin 10) (force : Bool)
  /-- SLUICE_UNLATCH, R449. -/
  | sluiceUnlatch (t : Nat) (src : Source) (c : Fin 10)
  /-- CURVE_SWAP, R439. -/
  | curveSwap (t : Nat) (src : Source) (c : Fin 10)
  /-- ENERGY_CLR, R437. -/
  | energyClr (t : Nat) (src : Source) (c : Fin 10)
  /-- SLUICE_DISABLE, R452. -/
  | sluiceDisable (t : Nat) (src : Source) (c : Fin 10)
  /-- VOTE_SET, R460. -/
  | voteSet (t : Nat) (src : Source) (mask : Nat)
  /-- VOTE_CLR, R460. -/
  | voteClr (t : Nat) (src : Source) (mask : Nat)
  /-- SLACK_ENTER, R461. -/
  | slackEnter (t : Nat)
  /-- STATE_ENTRY_PREP, R465. -/
  | stateEntryPrep (t : Nat) (target : Fin 4)
  /-- VOTE_COMMIT, R465. -/
  | voteCommit (t : Nat)
  /-- ISOLATION, R465. -/
  | isolation (t : Nat)
  /-- WAKE, R468. -/
  | wake (t : Nat) (code : Fin 16)
  /-- WAKE_SEQ_ENTRY, R471. -/
  | wakeSeqEntry (t : Nat)
  /-- WAKE_HOLD_EXPIRY, R470. -/
  | wakeHoldExpiry (t : Nat)
  /-- TOKEN_REFILL, R480. -/
  | tokenRefill (t : Nat) (pg : PageId) (code : Nat)
  /-- RECORD_WRITE, R482. -/
  | recordWrite (t : Nat)
  /-- REPEAT_WINDOW_EXPIRY, R482. -/
  | repeatWindowExpiry (t : Nat)
  /-- FLASH_RECORD_WRITE, R485. -/
  | flashRecordWrite (t : Nat) (ok : Bool)
  /-- FLASH_ERASE_DONE, R485. -/
  | flashEraseDone (t : Nat) (ok : Bool)
  /-- CHECKPOINT, R479. -/
  | checkpoint (t : Nat)
  /-- READ_SEQ, R488. -/
  | readSeq (t : Nat) (src : Source) (seq : Nat)
  /-- FLASH_READ_DONE, R488. -/
  | flashReadDone (t : Nat)
  /-- CLEAR_REQ, R489. -/
  | clearReq (t : Nat) (src : Source)
  /-- CLEAR_RESP, R489. -/
  | clearResp (t : Nat) (src : Source) (v : Nat)
  /-- GB_CLEAR, R489. -/
  | gbClear (t : Nat) (src : Source) (secured mutualAuth chained : Bool)
  /-- CHALLENGE_EXPIRY, R489. -/
  | challengeExpiry (t : Nat)
  /-- CLEAR_BLOCK_ERASE, R490. -/
  | clearBlockErase (t : Nat)
  /-- POWER_ON, R503. -/
  | powerOn (t : Nat)
  /-- FW_AUTH_DONE, R498. -/
  | fwAuthDone (t : Nat) (errA errB : Bool) (bad : List (Fin 2))
  /-- RISER_ON_SCHEDULE, R503. -/
  | riserOnSchedule (t : Nat) (r : Fin 8)
  /-- RISER_PG_TIMEOUT, R504. -/
  | riserPgTimeout (t : Nat) (r : Fin 8)
  /-- MB_PING, R508. -/
  | mbPing (t : Nat) (src : Source)
  /-- MB_FW_STAGE, R508. -/
  | mbFwStage (t : Nat) (src : Source)
  /-- MB_FW_ACTIVATE, R507. -/
  | mbFwActivate (t : Nat) (src : Source)
  /-- MB_DEVICE_RESET, R508. -/
  | mbDeviceReset (t : Nat) (src : Source)
  /-- MB_PROVISION_ANCHOR, R502. -/
  | mbProvisionAnchor (t : Nat) (src : Source)
  /-- MB_PROVISION_CLEAR_KEY, R502. -/
  | mbProvisionClearKey (t : Nat) (src : Source)
  /-- MB_PROVISION_LOCK, R502. -/
  | mbProvisionLock (t : Nat) (src : Source)
  /-- MB_MGMT_RESTART, R507. -/
  | mbMgmtRestart (t : Nat) (src : Source)
  /-- MB_FW_REVERT, R508. -/
  | mbFwRevert (t : Nat) (src : Source)
  /-- MB_CMD_DONE, R508. -/
  | mbCmdDone (t : Nat) (ok : Bool) (img : FwImage) (data : Nat)
  /-- MGMT_RESTART_DONE, R507. -/
  | mgmtRestartDone (t : Nat)
  /-- PLDM_QUERY_DEVICE_IDENTIFIERS, R500. -/
  | pldmQueryDeviceIdentifiers (t : Nat)
  /-- PLDM_GET_FIRMWARE_PARAMETERS, R500. -/
  | pldmGetFirmwareParameters (t : Nat)
  /-- PLDM_REQUEST_UPDATE, R500. -/
  | pldmRequestUpdate (t : Nat)
  /-- PLDM_PASS_COMPONENT_TABLE, R500. -/
  | pldmPassComponentTable (t : Nat) (firmware : Bool)
  /-- PLDM_UPDATE_COMPONENT, R500. -/
  | pldmUpdateComponent (t : Nat) (firmware : Bool) (size : Nat)
  /-- PLDM_FIRMWARE_DATA, R500. -/
  | pldmFirmwareData (t : Nat) (img : FwImage)
  /-- PLDM_ACTIVATE_FIRMWARE, R500. -/
  | pldmActivateFirmware (t : Nat)
  /-- PLDM_GET_STATUS, R500. -/
  | pldmGetStatus (t : Nat)
  /-- PLDM_CANCEL_UPDATE_COMPONENT, R500. -/
  | pldmCancelUpdateComponent (t : Nat)
  /-- PLDM_CANCEL_UPDATE, R500. -/
  | pldmCancelUpdate (t : Nat)
  /-- PLDM_DATA_TIMEOUT, R500. -/
  | pldmDataTimeout (t : Nat)
  /-- RAIL_LOSS, R525. -/
  | railLoss (t : Nat)
  /-- VAON_LOSS, R525. -/
  | vaonLoss (t : Nat)
  /-- ALWAYS_ON_POWER_UP, R496. -/
  | alwaysOnPowerUp (t : Nat) (straps : Fin 16) (a b : Option FwImage) (uefi : Nat)
  /-- PAIR_ALIGNMENT_LOSS, R342. -/
  | pairAlignmentLoss (t : Nat) (l : Fin 8)
  /-- RESYNC_ACK_TIMEOUT, R365. -/
  | resyncAckTimeout (t : Nat) (d : Fin 64) (a : Fin 16)
  /-- LINK_REKEY_DUE, R353. -/
  | linkRekeyDue (t : Nat) (l : Fin 8)
  /-- HOST_READ_COMPLETION_TIMEOUT, R117. -/
  | hostReadCompletionTimeout (t : Nat) (job : Option (Fin 64))
  /-- BUS_MASTER_ENABLE_CLEARED, R117. -/
  | busMasterEnableCleared (t : Nat) (p : Port)
  /-- MCTP_SPDM_REQUEST, R73. -/
  | mctpSpdmRequest (t : Nat)
deriving DecidableEq, Repr

end Sys2Proof
end

