-- ==== Sys2Proof/Config.lean ====
section
/-! DEFINITION. What the spec leaves to an implementation or leaves open: free values. None has a body, so no proof can
rest on a number the spec does not give. Each is named in a row of notes/assumptions. -/

namespace Sys2Proof.Config

/-- A fresh value nothing constrains, indexed by the counter `Mach.free` that each use advances (random numbers of R294
and R489, new content identities of R421, values the spec leaves unstated). -/
opaque freeValue : Nat → BitVec 512

/-- The bit of `BLOCK_EVT` (R51) that a block-specific event code sets. The spec gives only Gauge Book bit 4. -/
opaque evtBit : Nat → Nat

/-- The Cistern slice (of 32) of a place in the Cistern: hot-tier frames first, then lines of the line cache. The spec gives
no mapping; only parameter 0 of event 0x1410 shows it (R208). -/
opaque cisSlice : Nat → Nat

/-- Among the Canals that count, the one that takes a spilled flit or unit, modulo their number (R335 spreads them evenly, without a map). -/
opaque spillCanal : Nat → Nat

/-- Kalest's PCI-SIG Vendor ID, which the spec names without its value (R54, R70). -/
opaque vendorId : BitVec 16

/-- The bytes of the UEFI driver image, which comes from outside the spec (R69). -/
opaque uefiByte : Nat → BitVec 8

/-- Which row a line access meets, by the page-policy hint it carries (R127) and an index that each use advances: modulo 3, an open row, no
open row, another row. The spec gives the row policy and no placement of rows in time (R291). -/
opaque rowMet : Nat → Nat → Nat

/-- The set of a key in the translation cache (0), the directory cache (1) or the line cache (2), modulo its number of sets: the spec names
a hash without its function (R190, R193, R215). -/
opaque cacheSet : Nat → Nat → Nat

/-- The key (256 bits) and the salt (32 bits above it) of the transmit direction of a link, by how many keys it has had: the SPDM session
exports them (R316, R353). -/
opaque linkKey : Nat → Nat → BitVec 288

/-- The data bytes of a management message or of HELLO, by the numbers it says: the spec names the fields and gives no places (R352, R421). -/
opaque msgBytes : List Nat → BitVec 512

end Sys2Proof.Config
end

