-- ==== Sys2Proof/Machine/PartsA.lean ====
section
/-! DEFINITION. The state the device holds beside its register fields, first part: events and the Gauge Book, commits,
turns and islands, host ports, tags, Headgate ledgers, the Late FIFO and the Data Mover. -/

namespace Sys2Proof.Machine

/-! ### Events and the Gauge Book (R476 to R495) -/

/-- An event on its way to the recorder: code, instance, parameters, the tide of its occurrence (R481). -/
structure Event where
  code : Nat
  inst : Nat
  p0 : Nat
  p1 : Nat
  p2 : Nat
  tide : Nat
deriving DecidableEq, Repr

/-- A record of R476; `VALID_N` is 0 for every record held here. -/
structure Rec where
  code : Nat
  seq : Nat
  p0 : Nat
  p1 : Nat
  p2 : Nat
  ops : Nat
  cycles : Nat
  rep : Nat
  sev : Nat
  inst : Nat
deriving DecidableEq, Repr

/-- A run of discards at a full recorder queue, waiting to be told by event 0x4414 (R481). -/
structure DropRun where
  head : Nat
  count : Nat
  tide : Nat
deriving DecidableEq, Repr

/-- One 64 KB flash block (R484): its erase count, whether it is retired, its records in sequence order. -/
structure FlashBlk where
  erases : Nat := 0
  retired : Bool := false
  recs : List Rec := []
deriving DecidableEq, Repr

/-- The Gauge Book beside its registers. -/
structure GaugeX where
  queue : List Event := []
  dropWait : Option DropRun := none
  dropSeen : Bool := false
  bucketUsed : List (Nat × Nat) := []
  ring : List (Nat × Rec) := []
  isOpen : Bool := false
  lastOcc : Nat := 0
  opBase : Nat := 0
  lastCheck : Nat := 0
  nBlk : Nat := 1024
  flash : List (Nat × FlashBlk) := []
  curBlk : Nat := 0
  eraseDue : Option Nat := none
  lostRun : Option (Nat × Nat) := none
  readWait : Option Nat := none
  chalEnd : Nat := 0
  lockEnd : Nat := 0
deriving DecidableEq, Repr

/-! ### Commits and turns (R13 to R16, R33 to R47) -/

/-- One commit that is PENDING: the page written, the included pages with their member numbers, the latched values by
register bit address, the included pages that were LOCKED at the latch (R45), those of which it changes a HALT field (R44),
the member that was already PENDING (R41),
whether validation has passed, the capacity (Canals in D, L_twin, frames of each pool) check 6 judged it by (R42), the frames set aside (R536), whether it applies at the boundary
whose beacon is on its way, the pages that have taken their part of it there (R38). -/
structure Commit where
  page : PageId
  pages : List (Nat × PageId)
  latch : List (Nat × Nat)
  locks : List PageId := []
  halts : List PageId := []
  clash : Option Nat := none
  passed : Bool := false
  judged : Option (Nat × Nat × List Nat) := none
  frames : List Nat := []
  applying : Bool := false
  took : List PageId := []
deriving DecidableEq, Repr

/-- Turns, islands and the beacon: whether turns run, the tide of the next boundary, the islands the latest beacon has not
reached, its first and last arrival in 100 ps units after the boundary with the island that was last, the islands lost, and
whether a device-fatal loss holds the host links down until a reset (R13, R15, R16). -/
structure ClockX where
  running : Bool := false
  nextTurn : Nat := 0
  beaconLeft : List Nat := []
  firstAt : Nat := 0
  lastAt : Nat := 0
  lastIsland : Nat := 0
  lost : Nat := 0
  holdDown : Bool := false
  resetWait : Bool := false
deriving DecidableEq, Repr

/-! ### Host ports, tags and Headgates -/

/-- The tag states of R91. -/
inductive TagState where
  | free | held | accepted | responding | draining
deriving DecidableEq, Repr

/-- The M2S requests of R90 that take a tag. -/
inductive MemOp where
  | memRd | memRdData | memWr | memWrPtl | memInv | memInvNT | memClnEvct
deriving DecidableEq, Repr

/-- The response forms of R98, R99 and R380: data with or without poison, a Cmp, or a Cmp that grants a state. -/
inductive Resp where
  | memData (data : Line) (poison : Bool) (granted : Nat)
  | cmp
  | cmpE
  | cmpS
  | cmpI
deriving DecidableEq, Repr

/-- The coherence side of a request to a shared region (R380, R389): the region, the member, the right it seeks (0 none,
1 SHARED, 2 OWNED, 3 write), whether it gives its right up, whether the right has been granted. -/
structure Coh where
  region : Nat
  member : Nat
  right : Nat
  giveUp : Bool := false
  granted : Bool := false
deriving DecidableEq, Repr

/-- One outstanding request: a CXL.mem request of a host port (R91), or at index 4 a unit served for the fabric, at index
5 a line access of the Data Mover. `hint`, `fill` and `diverse` are `PAGE_HINT`, `LINE_FILL_EN` and `DIVERSE_NS` at its acceptance (R8,
R127); `bestEff` says that the best-effort gate released it (R162). -/
structure Tag where
  st : TagState := .held
  op : MemOp := .memRd
  allot : Nat := 0
  hostTag : Nat := 0
  line : Nat := 0
  hpa : Nat := 0
  bi : Bool := false
  data : Line := 0
  be : BitVec 64 := 0
  poison : Bool := false
  lc : BitVec 32 := 0
  arrived : Nat := 0
  turns : Nat := 0
  accept : Nat := 0
  deadline : Nat := 0
  order : Nat := 0
  row : Nat := 7
  stage : Nat := 0
  guar : Bool := false
  demoted : Bool := false
  atRisk : Bool := false
  resp : Option Resp := none
  src : Nat := 0
  xid : Nat := 0
  coh : Option Coh := none
  want : Nat := 0
  fwd : Bool := false
  cls5 : Bool := false
  point : Bool := false
  entry : Nat := 0
  hint : Nat := 0
  fill : Bool := false
  diverse : Nat := 0
  bestEff : Bool := false
deriving DecidableEq, Repr

/-- An HDM decoder of a port (R62, R63). -/
structure Decoder where
  base : Nat
  size : Nat
  ways : Nat
  gran : Nat
  bi : Bool
deriving DecidableEq, Repr

/-- A Late FIFO entry: its two words (R100). -/
structure LateEnt where
  w0 : Nat
  w1 : Nat
deriving DecidableEq, Repr

/-- A request message in a DOE mailbox (R73). -/
inductive DoeReq where
  | discovery | cma | secured | cdat
deriving DecidableEq, Repr

/-- A host port beside its registers. -/
structure PortX where
  tags : List (Nat × Tag) := []
  queues : List (Nat × List Nat) := []
  floorRd : List (Nat × Nat) := []
  floorWr : List (Nat × Nat) := []
  grantRd : List (Nat × Nat) := []
  grantWr : List (Nat × Nat) := []
  cutLeft : Nat := 0
  wrrAt : Nat := 0
  wrrUsed : Nat := 0
  callPin : Nat := 0
  callSince : Nat := 0
  callNs : List (Nat × Nat) := []
  peerRate : Nat := 0
  peerWidth : Nat := 16
  peerLo : Bool := false
  eqHold : Bool := false
  l0pEn : Bool := true
  l1En : Bool := true
  late : List LateEnt := []
  lateLost : Bool := false
  lateEvt : Bool := false
  demotedTurn : List Nat := []
  decoders : List (Nat × Decoder) := []
  biEnabled : Bool := false
  bme : Bool := false
  mps : Nat := 128
  mrrs : Nat := 512
  vecOpen : List Nat := []
  vecPend : List Nat := []
  vecMsg : List (Nat × Nat × Nat) := []
  timestamp : Option (Nat × Nat) := none
  doeBusy : Option DoeReq := none
  doeReady : Bool := false
  mbDone : Bool := false
  evtLog : List Event := []
  perst : Bool := false
  perstSince : Nat := 0
  trainTries : Nat := 0
  holdQuiet : Bool := false
  flrSince : Option Nat := none
  hostPayload : Nat := 0
  drainTags : Nat := 0
  drainResp : Nat := 0
  cdatSeq : Nat := 0
  jobDone : Bool := false
  draining : Bool := false
  cdatSeen : List Nat := []
deriving DecidableEq, Repr

/-! ### The Data Mover and the internal operation tracker (R94 to R96, R114 to R120) -/

/-- A Data Mover job in its slot. -/
structure Job where
  dpa : Nat
  hpa : Nat
  len : Nat
  statusEn : Bool
  statusHpa : Nat
  dir : Nat
  port : Nat
  allot : Nat
  intr : Bool
  tag : Nat
  state : Nat := 1
  code : Nat := 0
  done : Nat := 0
  retries : Nat := 0
  orderNo : Nat := 0
  readOut : Option Nat := none
deriving DecidableEq, Repr

/-- An internal operation in the tracker: its kind, the line it works on, the tide of its deadline, whether it holds a
shared entry. -/
structure Track where
  kind : Nat
  line : Nat
  deadline : Nat
  shared : Bool
  claimed : Bool := false
deriving DecidableEq, Repr

/-- The Data Mover and the tracker beside their registers. -/
structure MoverX where
  jobs : List (Nat × Job) := []
  submitted : Nat := 0
  tracks : List (Nat × Track) := []
  nextTrack : Nat := 1
  steps : List (Nat × Nat) := []
  requeued : List (Nat × Nat) := []
  waiting : List (Nat × Nat) := []
deriving DecidableEq, Repr

end Sys2Proof.Machine
end

