-- ==== Sys2Proof/Machine/PartsB.lean ====
section
/-! DEFINITION. The state the device holds beside its register fields, second part: stored lines, frames, tracts, plots,
the Cistern, the sector pools, the merge buffer, the recovery chains, the Furrow, the Siphon, the Canals, the key slots
and the Sluice channels. -/

namespace Sys2Proof.Machine

/-! ### Stored lines, frames and tracts (R172 to R192, R232 to R257) -/

/-- A stored line as the DRAM holds it: 64 bytes and the 16 metadata bytes of R232. -/
structure Image where
  data : Line := 0
  lc : Nat := 0
  mac : Nat := 0
  ver : Nat := 0
  flg : Nat := 2
deriving DecidableEq, Repr

/-- A line on the die: 64 plaintext bytes, LC32, whether it is poisoned. -/
structure LineVal where
  data : Line := 0
  lc : Nat := 0
  poison : Bool := false
deriving DecidableEq, Repr

/-- Where a tract's storage lies: a DIRECT tract's frame, or the first frame of its stripe group and its slot; a MANAGED
tract's TABLE frame and block. Slot 15 stands for not striped. -/
structure Home where
  frame : Nat := 0
  slot : Nat := 15
  block : Nat := 0
deriving DecidableEq, Repr

/-- A raw frame that is not FREE: its role (R175), the pool or tract it belongs to; while DRAINING the acceptance order
before which every request must complete, and the role it takes once it is blank (R536). -/
structure Frame where
  role : Nat := 0
  pool : Nat := 0
  owner : Nat := 0
  order : Nat := 0
  next : Option Nat := none
deriving DecidableEq, Repr

/-- What a stripe group serves: striped DIRECT tracts, striped MANAGED plots, or a sector pool (R176, R209). -/
inductive GrpUse where
  | direct | plots | pool (k : Nat)
deriving DecidableEq, Repr

/-- A plot entry (R185). -/
structure Plot where
  tier : Nat := 0
  poison : Bool := false
  pinned : Bool := false
  migrating : Bool := false
  key : Nat := 0
  sectors : Nat := 0
  loc : Nat := 0
  cis : Nat := 0
  version : Nat := 0
  heat : Nat := 0
  epoch : Nat := 0
  clean : Nat := 0
deriving DecidableEq, Repr

/-- A directory entry of a COMPRESSED plot (R214). -/
structure Dir where
  kind : Nat := 0
  enc : List Nat := [0, 0, 0, 0]
  cnt : List Nat := [0, 0, 0, 0]
  version : Nat := 0
  sectors : Nat := 0
  loc : Nat := 0
  pool : Nat := 0
deriving DecidableEq, Repr

/-- A line of a table block that has been stored: its VER16, and what the flip facility has XORed into its image (R232, R258). -/
structure TabLine where
  ver : Nat
  mask : BitVec 640
deriving DecidableEq, Repr

/-- The raw DRAM, the tract table, the plots and the caches of their entries. -/
structure StoreX where
  rawGb : Nat := 0
  dram : List (Nat × Image) := []
  tracts : List (Nat × Nat) := []
  home : List (Nat × Home) := []
  frames : List (Nat × Frame) := []
  groups : List (Nat × GrpUse) := []
  plotFrames : List (Nat × Nat) := []
  plots : List (Nat × Plot) := []
  dirs : List (Nat × Dir) := []
  tc : List Nat := []
  dc : List Nat := []
  cisTier : List (Nat × LineVal) := []
  cisLines : List (Nat × LineVal) := []
  chunks : List (Nat × Nat) := []
  growSaid : List Nat := []
  waitFrames : List (Nat × Nat) := []
  refPop : Option (Nat × Spd) := none
  heatNew : List Nat := []
  tabs : List (Nat × TabLine) := []
deriving DecidableEq, Repr

/-! ### The merge buffer, the chains and the Furrow -/

/-- A write merged into an entry: its acceptance order, its bytes with their mask, whether it is poisoned. -/
structure WrLog where
  order : Nat
  data : Line
  mask : BitVec 64
  poison : Bool
deriving DecidableEq, Repr

/-- The states of a merge-buffer entry (R248); FREE entries are not listed. -/
inductive MergeState where
  | reserved | held | fetch | drain | flume
deriving DecidableEq, Repr

/-- What a drain of a striped line leaves for its row's parity (R256, R257, R285): the physical line, the old line as it was read and
whether it passed its checks, the new line, and whether no line was read because the Canal does not serve it. -/
structure Drained where
  pl : Nat
  old : Image
  ok : Bool
  new : Image
  away : Bool
deriving DecidableEq, Repr

/-- A merge-buffer entry (R247). -/
structure Merge where
  st : MergeState := .reserved
  line : Nat := 0
  allot : Nat := 0
  cls2 : Bool := false
  stripe : Bool := false
  hint : Nat := 0
  accept : Nat := 0
  order : Nat := 0
  logs : List WrLog := []
  base : Option LineVal := none
  ver : Option Nat := none
  broken : Bool := false
  drain : Option Drained := none
deriving DecidableEq, Repr

/-- An entry of the poison record (R246). -/
structure Prec where
  line : Nat
  cause : Nat
  tide : Nat
deriving DecidableEq, Repr

/-- Who runs a recovery chain: a host read's port and tag, a merge entry's fetch, or an internal reader. -/
inductive ChainFor where
  | read (port tag : Nat)
  | fetch (entry : Nat)
  | mover (slot : Nat)
  | furrow
  | siphon
  | rekey
  | rewrite (plot row : Nat)
  | rebuild (canal : Nat)
  | repair
deriving DecidableEq, Repr

/-- A recovery chain at work (R238): the step it waits for, whether a MAC64 failure was met, whether a flip caused the
failure, the failing read's acceptance order. `oos` stands for a line whose Canal does not serve it, `noRep` for a chain that makes no repair, `row` for a
row that does not decode (R229), `fix` for the resilver of a line that an internal check failure has spoiled (R237). -/
structure Chain where
  who : ChainFor
  line : Nat
  pl : Nat
  step : Nat
  mac : Bool := false
  flip : Bool := false
  order : Nat := 0
  start : Nat := 0
  oos : Bool := false
  noRep : Bool := false
  row : Bool := false
  fix : Bool := false
deriving DecidableEq, Repr

/-- What a chain found for an internal reader: the line, its value, the step that ended the chain, the code (R238). -/
structure ChainEnd where
  who : ChainFor
  line : Nat
  val : LineVal
  step : Nat
  code : Nat
  ver : Nat := 0
deriving DecidableEq, Repr

/-- A queued repair (R242). -/
structure Repair where
  line : Nat
  pl : Nat
  val : LineVal
  ver : Nat
  flg : Nat
  order : Nat
  turns : Nat := 0
deriving DecidableEq, Repr

/-- The armed flip facility (R258): the fields as they stood when it was armed. -/
structure Flip where
  mode : Nat
  side : Nat
  scope : Nat
  byPl : Bool
  canal : Nat
  line : Nat
  mask : BitVec 640
deriving DecidableEq, Repr

/-- The Levee and the Furrow beside their registers. `cls` is the class of R161, less 1, of the accesses of the command at work, `hint` their page-policy
hint (R127);
`furrowWas` the state to which a HALTED Furrow returns, `rowMac` that a line of the row read last failed its MAC64 (R241), `tab` and `tabDone`
the next table-block line of a pass with `TABLES` and the tract whose table lines it has read (R260). -/
structure LeveeX where
  merge : List (Nat × Merge) := []
  prec : List Prec := []
  chains : List (Nat × Chain) := []
  done : List ChainEnd := []
  nextChain : Nat := 0
  repairs : List Repair := []
  flip : Option Flip := none
  full : Bool := false
  lastStore : List (Nat × Nat) := []
  retry : List Nat := []
  flipped : List Nat := []
  passLeft : Nat := 0
  stopWant : Option Nat := none
  cls : Nat := 2
  hint : Nat := 0
  furrowWas : Nat := 0
  rowMac : Bool := false
  tab : Nat := 0
  tabDone : Option Nat := none
deriving DecidableEq, Repr

/-! ### Flume and the Siphon -/

/-- A row rewrite that an engine works on (R223): the plot, the row, the merge entries it took, the row's lines in Flume
staging (R224). -/
structure Rewrite where
  plot : Nat
  row : Nat
  entries : List Nat
  copy : List LineVal := []
deriving DecidableEq, Repr

/-- A Siphon command in its queue (R207). -/
structure SipCmd where
  op : Nat
  plot : Nat
  count : Nat
  slot : Nat
  peer : Nat
  mode : Nat
  tag : Nat
deriving DecidableEq, Repr

/-- A plot move the Siphon works on: its kind, the plot, the order of its first read, how often it was abandoned, the
line it has reached, whether a command or an automatic policy asked for it. -/
structure SipMove where
  op : Nat
  plot : Nat
  firstOrder : Nat := 0
  tries : Nat := 0
  atLine : Nat := 0
  newLoc : Nat := 0
  expanded : Bool := false
  written : Nat := 0
  vals : List LineVal := []
  auto : Bool := false
deriving DecidableEq, Repr

/-- The Siphon beside its registers: the queue, the running move, the plots left of the running command, and automatic
moves that wait. -/
structure SiphonX where
  queue : List SipCmd := []
  move : Option SipMove := none
  nextPlot : Nat := 0
  skipped : Bool := false
  again : List (Nat × Nat) := []
  auto : List (Nat × Nat × Nat) := []
  tmEnd : Option Nat := none
  tmPoison : Bool := false
  tcFlush : Bool := false
  tmRead : Option Nat := none
  tmLogs : List WrLog := []
  tmOut : List Nat := []
  tmAgain : List Nat := []
  atEnd : Bool := false
  rewrites : List Rewrite := []
  decayTurns : Nat := 0
deriving DecidableEq, Repr

/-! ### Canals -/

/-- A request to leave service that waits for the turn boundary: its cause, whether it is forced, the state before. -/
structure Leave where
  cause : Nat
  force : Bool
  was : Nat
deriving DecidableEq, Repr

/-- A Canal beside its registers: the SPD read, whether a return runs, a request to leave that waits for the boundary,
the tides of recent alerts and of recent check failures, whether the thermal reading is the first since training,
refreshes owed by rank, the freeboard lines its rebuild has used this turn, and the guaranteed lines of the turn. -/
structure CanalX where
  spd : Option Spd := none
  spdBytes : List (Nat × List Nat) := []
  returned : Bool := false
  leave : Option Leave := none
  alerts : List Nat := []
  fails : List Nat := []
  tempFirst : Bool := true
  owed : List (Nat × Nat) := []
  trainStart : Nat := 0
  fillStart : Nat := 0
  guarLines : Nat := 0
  fbUsed : Nat := 0
  plotLine : Nat := 0
  rbOrder : Nat := 0
deriving DecidableEq, Repr

/-- The counts of a Canal's accesses by what their row was: open, none open, another (R291). -/
structure RowCount where
  hits : Nat := 0
  empty : Nat := 0
  conflicts : Nat := 0
deriving DecidableEq, Repr

/-! ### The Weir (R152 to R169) -/

/-- The Weir beside its registers: the open freeboard lines (R163), whether the half-turn and floor-hold points of the
turn have passed, the cut lines of each port and those left for pool releases (R168), whether a Canal was over its share
in the turn before, the allotments with Late reads in the turn before, what a change of capacity waits to recompute, and what each port's
best-effort share holds beyond the 65,535 lines that its field shows (R162). -/
structure WeirX where
  fbOpen : Nat := 0
  halfDone : Bool := true
  holdDone : List Nat := []
  cutPort : List (Nat × Nat) := []
  cutPool : Nat := 0
  hotBefore : Bool := false
  lateNow : List (Nat × Nat) := []
  usedRd : List (Nat × Nat) := []
  usedWr : List (Nat × Nat) := []
  demotedNow : List Nat := []
  overNow : List Nat := []
  lTwin : Nat := 0
  lAvail2 : Nat := 0
  lastWin : List (Nat × Nat) := []
  lateBefore : List Nat := []
  beOver : List (Nat × Nat) := []
deriving DecidableEq, Repr

/-! ### Power states (R458 to R472) -/

/-- The power-state sequencer: the state, the tide it began, a preparation that runs with its target, the tide of the
vote commit, a level source latched in the window, the next entry of the wake delay table, the end of the wake hold. -/
structure PowerX where
  st : Nat := 0
  since : Nat := 0
  inNs : List (Nat × Nat) := []
  prep : Option Nat := none
  commit : Option Nat := none
  latched : Option Nat := none
  exitAt : Option Nat := none
  holdEnd : Option Nat := none
deriving DecidableEq, Repr

/-! ### Key slots and the Rekey engine (R293 to R315) -/

/-- A key slot (R293); an unlisted slot is EMPTY with epoch 0. -/
structure KeySlot where
  state : Nat := 0
  k1 : Nat := 0
  k2 : Nat := 0
  k3 : Nat := 0
  epoch : Nat := 0
  lock : Bool := false
  gen : Bool := false
  writes : Nat := 0
  advised : Bool := false
  sat : Bool := false
  macFails : Nat := 0
  loadTide : Nat := 0
  recent : List Nat := []
deriving DecidableEq, Repr

/-- A key command that runs (R294): its slot, its source, the result it will post, its tide. -/
structure KeyCmd where
  slot : Nat
  src : Nat
  code : Nat
  start : Nat
deriving DecidableEq, Repr

/-- One direction's key sets of an IDE stream: the sets programmed for receiving and for sending, whether it is in use. -/
structure IdeStream where
  rx : List Nat := []
  tx : List Nat := []
deriving DecidableEq, Repr

/-- The crypto block and the Rekey engine beside their registers: `rkRead` is the line whose step is under way, `rkOrder` the
acceptance order at its read, `rkUsed` the lines of the turn, `rkDone` says that every step is done. -/
structure CryptoX where
  slots : List (Nat × KeySlot) := []
  tableKey : KeySlot := {}
  cmd : Option KeyCmd := none
  ide : List (Nat × IdeStream) := []
  rkDone : Bool := false
  rkRead : Option Nat := none
  rkOrder : Nat := 0
  rkUsed : Nat := 0
  rkPaid : Option Nat := none
deriving DecidableEq, Repr

/-! ### Sluice channels (R433 to R456) -/

/-- A Sluice channel beside its registers: the sample just judged, the end of its cool-down, its debounce, the runs of
samples that removal and undervoltage count, the start of the attempt and its regulation time, the sub-microjoule
energy, the good on-time, a swap that waits, and the 1 ms mean. -/
structure SluiceX where
  present : Bool := false
  i : Nat := 0
  v : Nat := 0
  vin : Nat := 0
  tj : Int := 0
  cdEnd : Nat := 0
  cdOn : Bool := false
  debStart : Nat := 0
  debOn : Bool := false
  gone : Nat := 0
  uvRun : Nat := 0
  gateTide : Nat := 0
  regUs : Nat := 0
  nj : Nat := 0
  goodTide : Nat := 0
  swapWant : Bool := false
  scPend : Bool := false
  offWant : Bool := false
  goodSaid : Bool := false
  n : Nat := 0
  sumI : Nat := 0
  sumV : Nat := 0
  sumVin : Nat := 0
  sumTj : Int := 0
  sumP : Nat := 0
  onUs : Nat := 0
  reg : Bool := false
deriving DecidableEq, Repr

end Sys2Proof.Machine
end

