-- ==== Sys2Proof/Machine/PartsC.lean ====
section
/-! DEFINITION. The state the device holds beside its register fields, third part: Culvert links, Turnout and its flows,
the rights directory, the twin stream, bring-up and firmware. -/

namespace Sys2Proof.Machine

/-! ### Culvert links (R321 to R347) -/

/-- A DATA flit that is sent and not acknowledged (R330, R335). -/
structure Flit where
  seq : Nat
  phase : Nat
  body : FlitBody
  tide : Nat
  count : Nat := 0
  spill : Bool := false
  on : Nat := 0
  missing : Bool := false
deriving DecidableEq, Repr

/-- A flit that a transmitter has in hand: its header word, its body, its count for the IV, the number of its key (R316, R325, R327). -/
structure WireFlit where
  hdr : Nat
  body : FlitBody
  count : Nat
  key : Nat
deriving DecidableEq, Repr

/-- A link's transmitter (R316, R322, R323): how many keys it has had, the flits of the codeword pair that is not full yet, and what each
logical lane carried of the last full pair, in 10-bit symbols. -/
structure WireX where
  keyNo : Nat := 0
  slots : List WireFlit := []
  lanes : List (List Nat) := []
deriving DecidableEq, Repr

/-- A lane switch to S, or back, that waits for its pair (R339, R340). -/
structure LaneSwitch where
  lane : Nat
  pair : Nat
  back : Bool
deriving DecidableEq, Repr

/-- A Culvert link beside its registers. -/
structure LinkX where
  held : List Flit := []
  ctrlQ : List Ctrl := []
  transit : List FUnit := []
  queue : List FUnit := []
  recQ : List (Nat × TwRec) := []
  arr : List FUnit := []
  turn : Bool := false
  ackV : Bool := false
  nak : Option Nat := none
  naks : List Nat := []
  badRun : Nat := 0
  capAt : Nat := 0
  retrainAt : Nat := 0
  brokenAt : Nat := 0
  helloSent : Bool := false
  peerSerial : Nat := 0
  peerSpare : Bool := true
  keyed : Bool := false
  newKey : Bool := false
  switchSeq : Option Nat := none
  switchRx : Option Nat := none
  rxNew : Bool := false
  reason : Nat := 0
  ready : Bool := false
  txSwitch : Option LaneSwitch := none
  rxSwitch : Option LaneSwitch := none
  pairAt : Nat := 0
  keyAt : Nat := 0
  rekeyRun : Bool := false
  dropTold : Bool := false
deriving DecidableEq, Repr

/-! ### Turnout (R348 to R375) -/

/-- A send flow (R361 to R365). -/
structure TxFlow where
  next : Nat := 0
  acked : Nat := 2 ^ 32 - 1
  cred : Nat := 0
  out : Nat := 0
  st : Nat := 0
  epoch : Nat := 0
  held : List FUnit := []
  wait : List FUnit := []
  moved : Nat := 0
  resyncAt : Nat := 0
  seenAt : Nat := 0
  resyncs : Nat := 0
  timeouts : Nat := 0
  lastTide : Nat := 0
  refused : Bool := false
deriving DecidableEq, Repr

/-- A receive flow (R361 to R363). -/
structure RxFlow where
  next : Nat := 0
  known : Bool := false
  granted : Nat := 0
  held : Nat := 0
  ret : Nat := 0
  stale : Nat := 0
  due : Option Nat := none
deriving DecidableEq, Repr

/-- A request unit in the receive buffer, with its arrival (R363, R367). -/
structure RxReq where
  unit : FUnit
  arrived : Nat
deriving DecidableEq, Repr

/-- A root claim (R349), with the link on which it arrived. -/
structure Claim where
  serial : Nat
  prio : Nat
  epoch : Nat
  link : Option Nat
deriving DecidableEq, Repr

/-- An ID held for a device that is not reachable, until a tide (R350). -/
structure IdHold where
  id : Nat
  end_ : Nat
deriving DecidableEq, Repr

/-- Turnout and the fabric side of the management core beside their registers. -/
structure TurnX where
  tx : List (Nat × TxFlow) := []
  rx : List (Nat × RxFlow) := []
  buf : List RxReq := []
  slots : List Nat := []
  mgmt : List (Nat × Mgmt × Nat × Nat) := []
  seen : List (Nat × Nat) := []
  msgNo : Nat := 0
  best : Option Claim := none
  bestAt : Nat := 0
  settled : Bool := false
  topEpoch : Nat := 0
  table : List IdEnt := []
  holds : List IdHold := []
  back : List (Nat × Nat) := []
  lsdb : List (Nat × List (Nat × Nat × Nat)) := []
  keyFail : List (Nat × Nat) := []
  eligible : Bool := false
  asked : Bool := false
  owed : List (Nat × Nat) := []
deriving DecidableEq, Repr

/-! ### Shared regions (R376 to R397) -/

/-- A rights directory entry that is not FREE (R382), with the order of its last use. -/
structure DirEnt where
  state : Nat
  region : Nat
  holders : Nat
  own : Bool := false
  aged : Bool := false
  win : Nat := 0
  used : Nat := 0
deriving DecidableEq, Repr

/-- A back-invalidate that is outstanding (R386): the line, the member, whether it is BISnpInv, its tide, whether its
message has been sent. -/
structure Snoop where
  line : Nat
  member : Nat
  region : Nat
  inv : Bool
  tide : Nat
  sent : Bool
deriving DecidableEq, Repr

/-- A request that waits at the directory, in acceptance order (R385). -/
structure CohWait where
  line : Nat
  port : Nat
  tag : Nat
  order : Nat
  held : Bool := false
  conf : Bool := false
deriving DecidableEq, Repr

/-- What the page shows of a region beside its state (R396). -/
structure RegX where
  cause : Nat := 0
  agent : Nat := 0
  fenced : Nat := 0
  poisoned : Nat := 0
  poisonedNow : Nat := 0
  tearTide : Nat := 0
  activeTide : Nat := 0
  dead : List Nat := []
  ready : List Nat := []
  readyAt : Nat := 0
deriving DecidableEq, Repr

/-- A snoop of the home that a proxy passes to one of its ports (R389): the line at the port and at the home, whether it has
been sent, the dirty data written back so far. -/
structure PSnoop where
  line : Nat
  port : Nat
  region : Nat
  xid : Nat
  inv : Bool
  src : Nat
  hline : Nat
  sent : Bool := true
  data : Option Line := none
deriving DecidableEq, Repr

/-- The rights directory and the regions beside their registers. -/
structure SharedX where
  dir : List (Nat × DirEnt) := []
  snoops : List Snoop := []
  waits : List CohWait := []
  evict : List (Nat × Nat) := []
  regs : List (Nat × RegX) := []
  uses : Nat := 0
  proxy : List PSnoop := []
deriving DecidableEq, Repr

/-! ### The twin (R398 to R432) -/

/-- A record of the stream that is made or waits to be made: the token by which its acknowledgment is awaited, and `DIVERSE_NS` as it
stood when the record's write was accepted, or else when the record was made (R8). -/
structure TRec where
  tok : Nat
  r : TwRec
  seq : Nat := 0
  link : Nat := 0
  tide : Nat := 0
  diverse : Nat := 0
deriving DecidableEq, Repr

/-- What the acknowledgment of a record completes: a write's tag, a directory grant, or a merge entry alone. -/
inductive TokAct where
  | write (port tag : Nat)
  | grant (port tag : Nat)
  | handover
deriving DecidableEq, Repr

/-- A write forwarded to the order side and not yet ORDERED (R408). -/
structure FwdOut where
  port : Nat
  tag : Nat
  line : Nat
  entry : Nat
deriving DecidableEq, Repr

/-- A refetch that is outstanding (R411): its number, the chain it serves, the requests not yet answered. -/
structure Refetch where
  num : Nat
  chain : Nat
  tide : Nat
  left : Nat
deriving DecidableEq, Repr

/-- The Twin logic beside its registers. -/
structure TwinX where
  want : List TRec := []
  held : List TRec := []
  rx : List (Nat × TwRec) := []
  urx : List TwRec := []
  toks : List (Nat × TokAct) := []
  nextTok : Nat := 0
  nextLink : Nat := 0
  hello : Option Hello := none
  decided : Option (Nat × Bool) := none
  full : Bool := false
  started : Bool := false
  away : List Nat := []
  peerAway : List Nat := []
  mapLeft : Bool := false
  fwd : List FwdOut := []
  handover : Bool := false
  detaching : Option Nat := none
  refetch : List Refetch := []
  nextReq : Nat := 0
  wroteSince : Bool := false
  ackWant : Bool := false
  credRet : Nat := 0
  divTold : Bool := false
  waitTurn : Bool := false
  soloEpoch : Option Nat := none
  lapsed : Bool := false
  rsUsed : Nat := 0
  peerLink : Nat := 0
  pend : Option TwRec := none
  soloDone : Nat := 0
deriving DecidableEq, Repr

/-! ### Bring-up and firmware (R496 to R512) -/

/-- A firmware slot in flash (R497): its image, where it is not blank, and the boots it has completed (R501). -/
structure Slot where
  img : Option FwImage := none
  boots : Nat := 0
deriving DecidableEq, Repr

/-- A mailbox command that runs (R508). -/
structure MbCmd where
  op : Nat
  src : Nat
  arg0 : Nat
  arg1 : Nat
  arg2 : Nat
deriving DecidableEq, Repr

/-- A PLDM update (R500): its state (0 IDLE, 1 LEARN COMPONENTS, 2 READY XFER, 3 DOWNLOAD, 4 VERIFY, 6 ACTIVATE, as DSP0267 numbers
them), the bytes received, the size of the image, the tide of the request that waits. -/
structure Pldm where
  st : Nat := 0
  next : Nat := 0
  size : Nat := 0
  asked : Nat := 0
deriving DecidableEq, Repr

/-- Bring-up, firmware and the management core beside their registers: whether VAON and the monitored rails are present, whether the
Gauge Book counts await restore (R479), the tide of step 1 of R503, a device fundamental reset that is due with its cause, whether the
vote that holds has had its reset, the two slots and the preferred one, the slot that runs, the trust anchors refused at boot (R502),
the mailbox command that runs and whether a host read of it failed, the op for which the core restarts (R507), the PLDM update, the
length of the UEFI image, the tide of `ON_REQ` of each riser (R504), the DDT as last written. -/
structure BootX where
  vaon : Bool := true
  powered : Bool := true
  restoreDue : Bool := false
  startTide : Nat := 0
  resetDue : Option Nat := none
  voteDone : Bool := false
  slotA : Slot := {}
  slotB : Slot := {}
  preferred : Nat := 0
  running : Option Nat := none
  anchorBad : List Nat := []
  mb : Option MbCmd := none
  dmaFail : Bool := false
  restart : Option Nat := none
  pldm : Pldm := {}
  uefi : Nat := 0
  riserAt : List (Nat × Nat) := []
  ddt : List Nat := []
deriving DecidableEq, Repr

end Sys2Proof.Machine
end

