-- ==== Sys2Proof/Machine/PartsZ.lean ====
section
/-! DEFINITION. What the device sends out, and the device's own state beside the queue of waiting commands. -/

namespace Sys2Proof.Machine

/-- A message that has left the device. -/
inductive OutMsg where
  /-- An MSI-X message of a port's function: the vector (R76). -/
  | msix (port vec : Nat)
  /-- A CXL.mem response whose last bit has left the pins (R91). -/
  | resp (port hostTag : Nat) (r : Resp)
  /-- A posted CXL.io memory write: port, address, bytes, their number (R117, R119, R491). -/
  | hostWrite (port hpa : Nat) (data : Nat) (bytes : Nat)
  /-- A posted CXL.io memory read request of the Data Mover: port, address, lines (R117). -/
  | hostRead (port hpa lines : Nat)
  /-- A Culvert flit: the link, its header word (R325), its body. -/
  | flit (link hdr : Nat) (body : FlitBody)
  /-- A back-invalidate to a local member's host: port, line, whether BISnpInv (R386). -/
  | bisnp (port line : Nat) (inv : Bool)
  /-- BIConflictAck (R388). -/
  | biConflictAck (port hostTag : Nat)
  /-- The answer of a function's primary mailbox: the port, the command's opcode, its return code, the values reported. -/
  | mailbox (port op ret : Nat) (vals : List Nat)
  /-- An object of a function's DOE mailbox: the port, the protocol, the values. -/
  | doe (port protocol : Nat) (vals : List Nat)
  /-- An SPDM response over MCTP (R73). -/
  | mctp (vals : List Nat)
  /-- A PLDM response or a message the device sends as firmware device: the command, the completion code, the values. -/
  | pldm (cmd code : Nat) (vals : List Nat)
deriving DecidableEq, Repr

/-- What is fused for good: the hash of each trust anchor that is provisioned (0 management, 1 fabric), the clear key where it is
provisioned, the provisioning lock, and the least security version that may run (R489, R501, R502). -/
structure Fuses where
  anchors : List (Nat × Nat) := []
  clearKey : Option Nat := none
  locked : Bool := false
  secMin : Nat := 0
deriving DecidableEq, Repr

/-- The device: the tide counter, the register fields that differ from their Reset value, and each block's own state. -/
structure Mach where
  tide : Nat := 0
  regs : List (Nat × Nat) := []
  free : Nat := 0
  blkEvt : List (Nat × Nat) := []
  frozen : List (Nat × Nat) := []
  snapDev : Bool := false
  out : List OutMsg := []
  clk : ClockX := {}
  commits : List Commit := []
  gb : GaugeX := {}
  ports : List (Nat × PortX) := []
  memActive : Bool := false
  ddtGen : Nat := 0
  mover : MoverX := {}
  st : StoreX := {}
  lev : LeveeX := {}
  sip : SiphonX := {}
  canals : List (Nat × CanalX) := []
  rows : List (Nat × RowCount) := []
  weir : WeirX := {}
  pw : PowerX := {}
  cry : CryptoX := {}
  sluices : List (Nat × SluiceX) := []
  links : List (Nat × LinkX) := []
  wire : List (Nat × WireX) := []
  turn : TurnX := {}
  shared : SharedX := {}
  twin : TwinX := {}
  boot : BootX := {}
  straps : Nat := 0
  serial : Nat := 0
  order : Nat := 0
deriving DecidableEq, Repr

end Sys2Proof.Machine
end

