-- ==== Sys2Proof/Machine/Pages.lean ====
section
/-! DEFINITION. The BAR0 page index of R52: bases, instance counts, block types, event classes, islands and groups, and
the constants of each page's header. -/

namespace Sys2Proof.Machine

/-- Every kind of page, in page-index order. -/
def allKinds : List PageKind :=
  [.device, .clock, .hostPort, .headgate, .weir, .allotment, .tractTable, .transCache, .siphon, .cistern,
   .flume, .levee, .furrow, .canal, .crypto, .rekey, .culvert, .turnout, .shared, .twin, .sluice, .power,
   .gauge, .dataMover, .mailbox]

/-- The number of the kind's first page: its BAR0 base divided by 0x1000 (R52). -/
def pageBase : PageKind → Nat
  | .device => 0x000 | .clock => 0x001 | .hostPort => 0x010 | .headgate => 0x020 | .weir => 0x030
  | .allotment => 0x031 | .tractTable => 0x050 | .transCache => 0x051 | .siphon => 0x058 | .cistern => 0x060
  | .flume => 0x070 | .levee => 0x080 | .furrow => 0x088 | .canal => 0x090 | .crypto => 0x0A0
  | .rekey => 0x0A8 | .culvert => 0x0B0 | .turnout => 0x0C0 | .shared => 0x0D0 | .twin => 0x0E0
  | .sluice => 0x0F0 | .power => 0x100 | .gauge => 0x110 | .dataMover => 0x120 | .mailbox => 0x130

/-- How many instances the page has (R52). -/
def pageCount : PageKind → Nat
  | .hostPort | .headgate => 4
  | .allotment | .canal => 16
  | .culvert => 8
  | .sluice => 10
  | _ => 1

/-- `PAGE_ID.BLOCK_TYPE` (R52). -/
def blockType : PageKind → Nat
  | .device => 0x01 | .clock => 0x02 | .hostPort => 0x03 | .headgate => 0x04 | .weir => 0x05
  | .allotment => 0x06 | .tractTable => 0x07 | .transCache => 0x08 | .siphon => 0x09 | .cistern => 0x0A
  | .flume => 0x0B | .levee => 0x0C | .furrow => 0x0D | .canal => 0x0E | .crypto => 0x0F
  | .rekey => 0x10 | .culvert => 0x11 | .turnout => 0x12 | .shared => 0x13 | .twin => 0x14
  | .sluice => 0x15 | .power => 0x16 | .gauge => 0x17 | .dataMover => 0x18 | .mailbox => 0x19

/-- The event class of the page (R49, R52). -/
def evtClass : PageKind → Nat
  | .device | .clock | .mailbox => 19
  | .hostPort => 1 | .headgate => 2 | .weir | .allotment => 3
  | .tractTable | .transCache | .siphon => 4
  | .cistern => 5 | .flume => 6 | .levee => 7 | .furrow => 8 | .canal => 9
  | .crypto | .rekey => 10
  | .culvert => 11 | .turnout => 12 | .shared => 13 | .twin => 14 | .sluice => 15 | .power => 16
  | .gauge => 17 | .dataMover => 18

/-- The clock island that owns the page's block (R11, R52). -/
def islandOf : PageKind → Nat → Nat
  | .hostPort, i | .headgate, i => i
  | .cistern, _ => 12 | .flume, _ => 5
  | .levee, _ | .furrow, _ => 6
  | .canal, c => 13 + c
  | .crypto, _ | .rekey, _ => 8
  | .culvert, l => 29 + l
  | .turnout, _ | .shared, _ | .twin, _ => 7
  | .sluice, _ | .power, _ => 38
  | .gauge, _ | .mailbox, _ => 37
  | .device, _ | .clock, _ | .weir, _ | .allotment, _ | .tractTable, _ | .transCache, _ | .siphon, _
  | .dataMover, _ => 4

/-- The page's ordinal, which is also its MSI-X vector (R75). -/
def pageOrdinal : PageKind → Nat → Nat
  | .device, _ => 0 | .clock, _ => 1
  | .hostPort, i => 2 + i | .headgate, i => 6 + i
  | .weir, _ => 10 | .allotment, a => 11 + a
  | .tractTable, _ => 27 | .transCache, _ => 28 | .siphon, _ => 29 | .cistern, _ => 30
  | .flume, _ => 31 | .levee, _ => 32 | .furrow, _ => 33
  | .canal, c => 34 + c
  | .crypto, _ => 50 | .rekey, _ => 51
  | .culvert, l => 52 + l
  | .turnout, _ => 60 | .shared, _ => 61 | .twin, _ => 62
  | .sluice, c => 63 + c
  | .power, _ => 73 | .gauge, _ => 74 | .dataMover, _ => 75 | .mailbox, _ => 76

/-- The BAR0 offset of a page, the parameter 0 of the common page events (R50). -/
def pageOffset (p : PageId) : Nat := (pageBase p.kind + p.inst) * 0x1000

/-- Every page of BAR0, in page-index order (R52). -/
def allPages : List PageId :=
  allKinds.flatMap fun k => (List.range (pageCount k)).map fun i => ⟨k, i⟩

/-- The members of a page's group with their member numbers, the owner being member 0 (R39); empty where the page owns
no group. -/
def groupOf : PageKind → List PageId
  | .weir =>
    ⟨.weir, 0⟩ :: ((List.range 16).map fun a => ⟨.allotment, a⟩) ++ ((List.range 4).map fun p => ⟨.headgate, p⟩)
  | .tractTable =>
    [⟨.tractTable, 0⟩, ⟨.transCache, 0⟩, ⟨.cistern, 0⟩, ⟨.siphon, 0⟩, ⟨.flume, 0⟩, ⟨.levee, 0⟩, ⟨.crypto, 0⟩]
  | .turnout =>
    ⟨.turnout, 0⟩ :: ((List.range 8).map fun l => ⟨.culvert, l⟩) ++ [⟨.shared, 0⟩, ⟨.twin, 0⟩]
  | .power => ⟨.power, 0⟩ :: ((List.range 10).map fun c => ⟨.sluice, c⟩)
  | _ => []

/-- `PAGE_CAP.GROUP_OWNER` (R39). -/
def groupOwner (k : PageKind) : Bool := !(groupOf k).isEmpty

/-- `PAGE_CAP.GROUP_MEMBER` (R26, R39): the page belongs to a page group. DEDUCED: an owner belongs to its own group, as
member 0 of it (R39). -/
def groupMember : PageKind → Bool
  | .weir | .tractTable | .turnout | .power => true
  | .allotment | .headgate | .transCache | .cistern | .siphon | .flume | .levee | .crypto | .culvert | .shared
  | .twin | .sluice => true
  | _ => false

/-- `PAGE_CAP.HAS_HALT`, as each chapter gives it. -/
def hasHalt : PageKind → Bool
  | .hostPort | .siphon | .flume | .furrow | .canal | .rekey | .culvert | .turnout | .twin | .sluice => true
  | _ => false

/-- `PAGE_CAP.LOCKABLE`, as each chapter gives it. -/
def lockable : PageKind → Bool
  | .device | .hostPort | .levee | .crypto => true
  | _ => false

/-- `PAGE_CAP.HALT_US`, as each chapter gives it. -/
def haltUs : PageKind → Nat
  | .hostPort => 1100 | .siphon => 10 | .flume => 1 | .furrow => 20 | .canal => 66 | .rekey => 10
  | .culvert => 100 | .turnout => 100 | .twin => 100 | .sluice => 10
  | _ => 0

/-- Whether `PAGE_CTL.ENABLE` of the page takes writes; elsewhere it reads 1 and writes are ignored. -/
def enableWritable : PageKind → Bool
  | .hostPort | .dataMover | .siphon | .flume | .furrow | .canal | .rekey | .culvert | .turnout | .twin
  | .sluice => true
  | _ => false

/-- `PAGE_CAP.BLOCK_CAP` of instance `i`, as each chapter gives it; 0 where the chapter gives none. -/
def blockCap : PageKind → Nat → Nat
  | .hostPort, _ => 6 + 16 * 2 ^ 4 + 2 ^ 9 + 2 ^ 10 + 256 * 2 ^ 16
  | .headgate, _ => 4096
  | .dataMover, _ => 64 + 16 * 2 ^ 8
  | .allotment, _ => 16
  | .weir, _ => 256 + 2 * 2 ^ 16
  | .tractTable, _ => 65536 + 64 * 2 ^ 17
  | .transCache, _ => 1572864
  | .cistern, _ => 32 + 32768 * 2 ^ 16
  | .siphon, _ => 16
  | .flume, _ => 16 + 32 * 2 ^ 8 + 16 * 2 ^ 16
  | .levee, _ => 4096 + 256 * 2 ^ 16
  | .furrow, _ => 1024
  | .canal, _ => 512
  | .crypto, _ => 64
  | .culvert, _ => 4 + 2 ^ 4 + 2048 * 2 ^ 16
  | .turnout, _ => 64 + 16384 * 2 ^ 16
  | .shared, _ => 32 + 8 * 2 ^ 8 + 32 * 2 ^ 16
  | .twin, _ => 4 + 8192 * 2 ^ 16
  | .sluice, c => if c < 8 then 24000 * 2 ^ 16 else if c = 8 then 1 + 4000 * 2 ^ 16 else 1 + 8000 * 2 ^ 16
  | .power, _ => 14 + 28 * 2 ^ 8
  | .gauge, _ => 4096 + 1024 * 2 ^ 16
  | .mailbox, _ => 9
  | _, _ => 0

end Sys2Proof.Machine
end

