-- ==== Sys2Proof/Machine/Field.lean ====
section
/-! DEFINITION. What one register field is, where its bits lie in BAR0, and the value it has at reset. -/

namespace Sys2Proof.Machine

/-- The access types of R5. -/
inductive Access where
  | rw | ro | w1c | wo | rws | rwl
deriving DecidableEq, Repr

/-- The attributes of R8 to R10; fields outside the STAGE area have none. -/
inductive Attr where
  | none | live | turn | halt
deriving DecidableEq, Repr

/-- The Reset column of a field: one value, one per instance, one per index, or one per instance and index. -/
inductive Rst where
  | c (v : Nat)
  | inst (vs : List Nat)
  | idx (vs : List Nat)
  | instIdx (vs : List (List Nat))
deriving DecidableEq, Repr

/-- A register field: page, byte offset, least significant bit, width, the stride in bits of an indexed field and its
count, access, attribute, Reset value, whether it counts wrapping (R535), whether SOFT_CLEAR clears it (R43). -/
structure Field where
  page : PageKind
  off : Nat
  lsb : Nat
  width : Nat
  stride : Nat
  count : Nat
  access : Access
  attr : Attr
  rst : Rst
  wraps : Bool
  clears : Bool
deriving DecidableEq, Repr

/-- The value of the field of instance `i`, index `n`, after reset (R7). -/
def Field.resetAt (f : Field) (i n : Nat) : Nat :=
  match f.rst with
  | .c v => v
  | .inst vs => vs.getD i 0
  | .idx vs => vs.getD n 0
  | .instIdx vs => (vs.getD i []).getD n 0

/-- The bit of BAR0 at which the field of instance `i`, index `n`, starts: 8 bits to each byte of its offset. -/
def Field.addr (f : Field) (i n : Nat) : Nat :=
  (pageBase f.page + i) * 32768 + f.off * 8 + f.lsb + n * f.stride

/-- The ACTIVE copy of a TURN or HALT field, 0x500 above its STAGE offset (R27). -/
def Field.act (f : Field) : Field := { f with off := f.off + 0x500 }

/-- The first value past the field's largest. -/
def Field.lim (f : Field) : Nat := 2 ^ f.width

/-- Whether the field is in the STAGE area (R26). -/
def Field.staged (f : Field) : Bool := 0x100 ≤ f.off && f.off < 0x600

/-- Whether COMMIT validates and applies the field: TURN and HALT fields (R28). -/
def Field.commits (f : Field) : Bool := f.attr = .turn || f.attr = .halt

/-- The Reset currents of the curve by channel and point (R440). -/
def curveMaReset : List (List Nat) :=
  List.replicate 8 [12500, 13500, 15000, 16500, 18000, 20000, 22000, 24000] ++
  [[2083, 2250, 2500, 2750, 3000, 3333, 3666, 4000], [4166, 4500, 5000, 5500, 6000, 6666, 7333, 8000]]

/-- The Reset times of the curve by point (R440). -/
def curveUsReset : List Nat := [1000000, 200000, 50000, 10000, 2000, 500, 100, 10]

namespace Reg.Hdr

/-! The common header registers of every page (R26). -/

/-- A read-only header field with the value `v`. -/
def const (k : PageKind) (off lsb width : Nat) (r : Rst) : Field :=
  ⟨k, off, lsb, width, 0, 1, .ro, .none, r, false, false⟩

def BLOCK_TYPE (k : PageKind) : Field := const k 0x000 0 16 (.c (blockType k))
def INSTANCE (k : PageKind) : Field := const k 0x000 16 8 (.inst (List.range (pageCount k)))
def LAYOUT_VER (k : PageKind) : Field := const k 0x000 24 8 (.c 0x01)
def SILICON_REV (k : PageKind) : Field := const k 0x000 32 8 (.c 0xB0)
def GROUP_OWNER (k : PageKind) : Field := const k 0x008 0 1 (.c (groupOwner k).toNat)
def GROUP_MEMBER (k : PageKind) : Field := const k 0x008 1 1 (.c (groupMember k).toNat)
def HAS_HALT (k : PageKind) : Field := const k 0x008 2 1 (.c (hasHalt k).toNat)
def LOCKABLE (k : PageKind) : Field := const k 0x008 3 1 (.c (lockable k).toNat)
def HALT_US (k : PageKind) : Field := const k 0x008 16 16 (.c (haltUs k))
def BLOCK_CAP (k : PageKind) : Field := const k 0x008 32 32 (.inst ((List.range (pageCount k)).map (blockCap k)))
def ENABLE (k : PageKind) : Field := ⟨k, 0x010, 0, 1, 0, 1, .rw, .live, .c 1, false, false⟩
def HALT (k : PageKind) : Field := ⟨k, 0x010, 1, 1, 0, 1, .rw, .live, .c 0, false, false⟩
def SOFT_CLEAR (k : PageKind) : Field := ⟨k, 0x010, 2, 1, 0, 1, .wo, .live, .c 0, false, false⟩
def LOCK (k : PageKind) : Field := ⟨k, 0x010, 3, 1, 0, 1, .wo, .live, .c 0, false, false⟩
def FSM (k : PageKind) : Field := const k 0x018 0 8 (.c 0)
def HALTED (k : PageKind) : Field := const k 0x018 8 1 (.c 0)
def BUSY (k : PageKind) : Field := const k 0x018 9 1 (.c 0)
def LOCKED (k : PageKind) : Field := const k 0x018 10 1 (.c 0)
def STAGE_DIRTY (k : PageKind) : Field := const k 0x018 11 1 (.c 0)
def COMMIT_PENDING (k : PageKind) : Field := const k 0x018 12 1 (.c 0)
def SNAP_PENDING (k : PageKind) : Field := const k 0x018 13 1 (.c 0)
def ISLAND_DOWN (k : PageKind) : Field := const k 0x018 14 1 (.c 0)
def BLOCK_STATE (k : PageKind) : Field := const k 0x018 32 32 (.c 0)
def GO (k : PageKind) : Field := ⟨k, 0x020, 0, 1, 0, 1, .wo, .live, .c 0, false, false⟩
def CODE (k : PageKind) : Field := const k 0x028 0 4 (.c 0)
def WORD (k : PageKind) : Field := const k 0x028 8 8 (.c 0xFF)
def MEMBER (k : PageKind) : Field := const k 0x028 16 8 (.c 0xFF)
def TURN_LO (k : PageKind) : Field := const k 0x028 32 32 (.c 0)
/-- The common bits [3:0] of `EVT_ENABLE`. -/
def EVT_ENABLE (k : PageKind) : Field := ⟨k, 0x030, 0, 4, 0, 1, .rw, .live, .c 0, false, false⟩
/-- The block-specific bits [63:4] of `EVT_ENABLE`. -/
def BLOCK_EVT_ENABLE (k : PageKind) : Field := ⟨k, 0x030, 4, 60, 0, 1, .rw, .live, .c 0, false, false⟩
/-- The common bits [3:0] of `EVT_STATUS`: APPLIED, REJECTED, HALT_REACHED, SNAP_TAKEN. -/
def EVT_STATUS (k : PageKind) : Field := ⟨k, 0x038, 0, 4, 0, 1, .w1c, .live, .c 0, false, false⟩
/-- The block-specific bits [63:4] of `EVT_STATUS`; the state holds the set events by code. -/
def BLOCK_EVT (k : PageKind) : Field := ⟨k, 0x038, 4, 60, 0, 1, .w1c, .live, .c 0, false, false⟩
def TAKE (k : PageKind) : Field := ⟨k, 0x040, 0, 1, 0, 1, .wo, .live, .c 0, false, false⟩
def VIEW (k : PageKind) : Field := ⟨k, 0x040, 1, 1, 0, 1, .rw, .live, .c 0, false, false⟩
def SEQ (k : PageKind) : Field := ⟨k, 0x048, 0, 32, 0, 1, .ro, .none, .c 0, true, false⟩
def SNAP_TURN (k : PageKind) : Field := const k 0x048 32 32 (.c 0)
def SNAP_TIDE (k : PageKind) : Field := const k 0x050 0 64 (.c 0)
def SRC (k : PageKind) : Field := const k 0x058 0 4 (.c 0)

/-- Every header field of a page. -/
def fields (k : PageKind) : List Field :=
  [BLOCK_TYPE k, INSTANCE k, LAYOUT_VER k, SILICON_REV k, GROUP_OWNER k, GROUP_MEMBER k, HAS_HALT k, LOCKABLE k,
   HALT_US k, BLOCK_CAP k, ENABLE k, HALT k, SOFT_CLEAR k, LOCK k, FSM k, HALTED k, BUSY k, LOCKED k,
   STAGE_DIRTY k, COMMIT_PENDING k, SNAP_PENDING k, ISLAND_DOWN k, BLOCK_STATE k, GO k, CODE k, WORD k, MEMBER k,
   TURN_LO k, EVT_ENABLE k, BLOCK_EVT_ENABLE k, EVT_STATUS k, BLOCK_EVT k, TAKE k, VIEW k, SEQ k, SNAP_TURN k,
   SNAP_TIDE k, SRC k]

end Reg.Hdr

end Sys2Proof.Machine
end

