-- ==== Sys2Proof/Machine/RegsA.lean ====
section
/-! DEFINITION. The register fields of the pages Clock to Flume, one definition a field, as the register tables of the
spec give them: byte offset, least significant bit, width, stride in bits and count of an indexed field, access,
attribute, Reset value, whether the counter wraps, and whether SOFT_CLEAR clears it (R26 to R29, R535). -/

namespace Sys2Proof.Machine.Reg.Clock

/-- `PARK` at 0x100 [39:0], R25. -/
def PARK : Field :=
  ⟨.clock, 0x100, 0, 40, 0, 1, .rw, .turn, .c 0, false, false⟩

/-- `TIDE` at 0xB00 [63:0], R25. -/
def TIDE : Field :=
  ⟨.clock, 0xB00, 0, 64, 0, 1, .ro, .none, .c 0, false, false⟩

/-- `TURN_INDEX` at 0xB08 [63:0], R25. -/
def TURN_INDEX : Field :=
  ⟨.clock, 0xB08, 0, 64, 0, 1, .ro, .none, .c 0, false, false⟩

/-- `TURN_START` at 0xB10 [63:0], R25. -/
def TURN_START : Field :=
  ⟨.clock, 0xB10, 0, 64, 0, 1, .ro, .none, .c 0, false, false⟩

/-- `ISLAND_RUN` at 0xB18 [39:0], R25. -/
def ISLAND_RUN : Field :=
  ⟨.clock, 0xB18, 0, 40, 0, 1, .ro, .none, .c 0, false, false⟩

/-- `ISLAND_PARKED` at 0xB20 [39:0], R25. -/
def ISLAND_PARKED : Field :=
  ⟨.clock, 0xB20, 0, 40, 0, 1, .ro, .none, .c 0, false, false⟩

/-- `ISLAND_LOST` at 0xB28 [39:0], R25. -/
def ISLAND_LOST : Field :=
  ⟨.clock, 0xB28, 0, 40, 0, 1, .w1c, .none, .c 0, false, false⟩

/-- `BEACON_SKEW` at 0xB30 [7:0], R25. -/
def BEACON_SKEW : Field :=
  ⟨.clock, 0xB30, 0, 8, 0, 1, .ro, .none, .c 0, false, false⟩

/-- `SKEW_ISLAND` at 0xB30 [15:8], R25. -/
def SKEW_ISLAND : Field :=
  ⟨.clock, 0xB30, 8, 8, 0, 1, .ro, .none, .c 0, false, false⟩

/-- `CORE_LOCK` at 0xB38 [0], R25. -/
def CORE_LOCK : Field :=
  ⟨.clock, 0xB38, 0, 1, 0, 1, .ro, .none, .c 0, false, false⟩

/-- `CISTERN_LOCK` at 0xB38 [1], R25. -/
def CISTERN_LOCK : Field :=
  ⟨.clock, 0xB38, 1, 1, 0, 1, .ro, .none, .c 0, false, false⟩

/-- `MGMT_LOCK` at 0xB38 [2], R25. -/
def MGMT_LOCK : Field :=
  ⟨.clock, 0xB38, 2, 1, 0, 1, .ro, .none, .c 0, false, false⟩

/-- `DDR_LOCK` at 0xB38 [3], R25. -/
def DDR_LOCK : Field :=
  ⟨.clock, 0xB38, 3, 1, 0, 1, .ro, .none, .c 0, false, false⟩

/-- `CULVERT_LOCK` at 0xB38 [4], R25. -/
def CULVERT_LOCK : Field :=
  ⟨.clock, 0xB38, 4, 1, 0, 1, .ro, .none, .c 0, false, false⟩

/-- `XTAL_OK` at 0xB38 [5], R25. -/
def XTAL_OK : Field :=
  ⟨.clock, 0xB38, 5, 1, 0, 1, .ro, .none, .c 0, false, false⟩

/-- `CANAL_MHZ` at 0xB38 [31:16], R25. -/
def CANAL_MHZ : Field :=
  ⟨.clock, 0xB38, 16, 16, 0, 1, .ro, .none, .c 0, false, false⟩

/-- `CORE_MHZ` at 0xB38 [47:32], R25. -/
def CORE_MHZ : Field :=
  ⟨.clock, 0xB38, 32, 16, 0, 1, .ro, .none, .c 0, false, false⟩

/-- Every field of the page beside its header. -/
def fields : List Field :=
  [PARK, TIDE, TURN_INDEX, TURN_START, ISLAND_RUN, ISLAND_PARKED, ISLAND_LOST, BEACON_SKEW, SKEW_ISLAND, CORE_LOCK, CISTERN_LOCK, MGMT_LOCK, DDR_LOCK, CULVERT_LOCK, XTAL_OK, CANAL_MHZ, CORE_MHZ]

end Sys2Proof.Machine.Reg.Clock

namespace Sys2Proof.Machine.Reg.Device

/-- `PORT_WR` at 0x100 [3:0], R534. -/
def PORT_WR : Field :=
  ⟨.device, 0x100, 0, 4, 0, 1, .rwl, .live, .c 15, false, false⟩

/-- `BMC_WR` at 0x100 [4], R534. -/
def BMC_WR : Field :=
  ⟨.device, 0x100, 4, 1, 0, 1, .rwl, .live, .c 1, false, false⟩

/-- `LOCK_ALL` at 0x108 [0], R534. -/
def LOCK_ALL : Field :=
  ⟨.device, 0x108, 0, 1, 0, 1, .wo, .live, .c 0, false, false⟩

/-- `DEV_SNAP_SEQ` at 0xB00 [31:0], R534. -/
def DEV_SNAP_SEQ : Field :=
  ⟨.device, 0xB00, 0, 32, 0, 1, .ro, .none, .c 0, true, false⟩

/-- `DEV_SNAP_TURN` at 0xB00 [63:32], R534. -/
def DEV_SNAP_TURN : Field :=
  ⟨.device, 0xB00, 32, 32, 0, 1, .ro, .none, .c 0, false, false⟩

/-- `COMMITS_PENDING` at 0xB08 [7:0], R534. -/
def COMMITS_PENDING : Field :=
  ⟨.device, 0xB08, 0, 8, 0, 1, .ro, .none, .c 0, false, false⟩

/-- `PAGES_LOCKED` at 0xB08 [15:8], R534. -/
def PAGES_LOCKED : Field :=
  ⟨.device, 0xB08, 8, 8, 0, 1, .ro, .none, .c 0, false, false⟩

/-- `BAD_ACCESS` at 0xB10 [31:0], R534. -/
def BAD_ACCESS : Field :=
  ⟨.device, 0xB10, 0, 32, 0, 1, .ro, .none, .c 0, false, false⟩

/-- `BLOCKED_WRITES` at 0xB18 [31:0], R534. -/
def BLOCKED_WRITES : Field :=
  ⟨.device, 0xB18, 0, 32, 0, 1, .ro, .none, .c 0, false, false⟩

/-- `BLOCKED_SRC` at 0xB18 [35:32], R534. -/
def BLOCKED_SRC : Field :=
  ⟨.device, 0xB18, 32, 4, 0, 1, .ro, .none, .c 0, false, false⟩

/-- Every field of the page beside its header. -/
def fields : List Field :=
  [PORT_WR, BMC_WR, LOCK_ALL, DEV_SNAP_SEQ, DEV_SNAP_TURN, COMMITS_PENDING, PAGES_LOCKED, BAD_ACCESS, BLOCKED_WRITES, BLOCKED_SRC]

end Sys2Proof.Machine.Reg.Device

namespace Sys2Proof.Machine.Reg.HostPort

/-- `MAX_RATE` at 0x100 [2:0], R85. -/
def MAX_RATE : Field :=
  ⟨.hostPort, 0x100, 0, 3, 0, 1, .rw, .live, .c 6, false, false⟩

/-- `RETRAIN` at 0x100 [3], R85. -/
def RETRAIN : Field :=
  ⟨.hostPort, 0x100, 3, 1, 0, 1, .wo, .live, .c 0, false, false⟩

/-- `L0P_EN` at 0x100 [4], R85. -/
def L0P_EN : Field :=
  ⟨.hostPort, 0x100, 4, 1, 0, 1, .rw, .live, .c 1, false, false⟩

/-- `L1_EN` at 0x100 [5], R85. -/
def L1_EN : Field :=
  ⟨.hostPort, 0x100, 5, 1, 0, 1, .rw, .live, .c 1, false, false⟩

/-- `LOF_EN` at 0x100 [6], R85. -/
def LOF_EN : Field :=
  ⟨.hostPort, 0x100, 6, 1, 0, 1, .rw, .live, .c 1, false, false⟩

/-- `EQ128_RETRY` at 0x100 [7], R85. -/
def EQ128_RETRY : Field :=
  ⟨.hostPort, 0x100, 7, 1, 0, 1, .wo, .live, .c 0, false, false⟩

/-- `IDE_REQUIRED` at 0x108 [0], R85. -/
def IDE_REQUIRED : Field :=
  ⟨.hostPort, 0x108, 0, 1, 0, 1, .rwl, .halt, .c 0, false, false⟩

/-- `DEV_RESET_VOTER` at 0x110 [0], R85. -/
def DEV_RESET_VOTER : Field :=
  ⟨.hostPort, 0x110, 0, 1, 0, 1, .rw, .live, .c 1, false, false⟩

/-- `MSIX_ROUTE_LO` at 0x118 [63:0], R85. -/
def MSIX_ROUTE_LO : Field :=
  ⟨.hostPort, 0x118, 0, 64, 0, 1, .rw, .live, .c 0, false, false⟩

/-- `MSIX_ROUTE_HI` at 0x120 [12:0], R85. -/
def MSIX_ROUTE_HI : Field :=
  ⟨.hostPort, 0x120, 0, 13, 0, 1, .rw, .live, .c 0, false, false⟩

/-- `DPA_BASE` at 0x128 + 8n [45:28], R85. -/
def DPA_BASE : Field :=
  ⟨.hostPort, 0x128, 28, 18, 64, 16, .rw, .turn, .c 0, false, false⟩

/-- `LTSSM` at 0xB00 [7:0], R85. -/
def LTSSM : Field :=
  ⟨.hostPort, 0xB00, 0, 8, 0, 1, .ro, .none, .c 0, false, false⟩

/-- `RATE` at 0xB00 [10:8], R85. -/
def RATE : Field :=
  ⟨.hostPort, 0xB00, 8, 3, 0, 1, .ro, .none, .c 0, false, false⟩

/-- `WIDTH` at 0xB00 [15:11], R85. -/
def WIDTH : Field :=
  ⟨.hostPort, 0xB00, 11, 5, 0, 1, .ro, .none, .c 0, false, false⟩

/-- `FLIT_LO` at 0xB00 [16], R85. -/
def FLIT_LO : Field :=
  ⟨.hostPort, 0xB00, 16, 1, 0, 1, .ro, .none, .c 0, false, false⟩

/-- `IDE_IO` at 0xB00 [17], R85. -/
def IDE_IO : Field :=
  ⟨.hostPort, 0xB00, 17, 1, 0, 1, .ro, .none, .c 0, false, false⟩

/-- `IDE_MEM` at 0xB00 [18], R85. -/
def IDE_MEM : Field :=
  ⟨.hostPort, 0xB00, 18, 1, 0, 1, .ro, .none, .c 0, false, false⟩

/-- `IDE_INSECURE` at 0xB00 [19], R85. -/
def IDE_INSECURE : Field :=
  ⟨.hostPort, 0xB00, 19, 1, 0, 1, .ro, .none, .c 0, false, false⟩

/-- `MEM_ACTIVE` at 0xB00 [20], R85. -/
def MEM_ACTIVE : Field :=
  ⟨.hostPort, 0xB00, 20, 1, 0, 1, .ro, .none, .c 0, false, false⟩

/-- `DL_UP` at 0xB00 [21], R85. -/
def DL_UP : Field :=
  ⟨.hostPort, 0xB00, 21, 1, 0, 1, .ro, .none, .c 0, false, false⟩

/-- `EQ128_FAILED` at 0xB00 [22], R85. -/
def EQ128_FAILED : Field :=
  ⟨.hostPort, 0xB00, 22, 1, 0, 1, .ro, .none, .c 0, false, false⟩

/-- `ING_NS` at 0xB08 [15:0], R85. -/
def ING_NS : Field :=
  ⟨.hostPort, 0xB08, 0, 16, 0, 1, .ro, .none, .c 0, false, false⟩

/-- `EGR_DATA_NS` at 0xB08 [31:16], R85. -/
def EGR_DATA_NS : Field :=
  ⟨.hostPort, 0xB08, 16, 16, 0, 1, .ro, .none, .c 0, false, false⟩

/-- `EGR_NDR_NS` at 0xB08 [47:32], R85. -/
def EGR_NDR_NS : Field :=
  ⟨.hostPort, 0xB08, 32, 16, 0, 1, .ro, .none, .c 0, false, false⟩

/-- `RATE_ADDER_NS` at 0xB08 [63:48], R85. -/
def RATE_ADDER_NS : Field :=
  ⟨.hostPort, 0xB08, 48, 16, 0, 1, .ro, .none, .c 0, false, false⟩

/-- `PAYLOAD_MBPS` at 0xB10 [31:0], R85. -/
def PAYLOAD_MBPS : Field :=
  ⟨.hostPort, 0xB10, 0, 32, 0, 1, .ro, .none, .c 0, false, false⟩

/-- `TAGS_USED` at 0xB10 [44:32], R85. -/
def TAGS_USED : Field :=
  ⟨.hostPort, 0xB10, 32, 13, 0, 1, .ro, .none, .c 0, false, false⟩

/-- `TAGS_PEAK` at 0xB10 [60:48], R85. -/
def TAGS_PEAK : Field :=
  ⟨.hostPort, 0xB10, 48, 13, 0, 1, .ro, .none, .c 0, false, true⟩

/-- `LINK_DOWNS` at 0xB18 [31:0], R85. -/
def LINK_DOWNS : Field :=
  ⟨.hostPort, 0xB18, 0, 32, 0, 1, .ro, .none, .c 0, false, true⟩

/-- `RETRAINS` at 0xB18 [63:32], R85. -/
def RETRAINS : Field :=
  ⟨.hostPort, 0xB18, 32, 32, 0, 1, .ro, .none, .c 0, false, true⟩

/-- `DROPPED_RESP` at 0xB20 [31:0], R85. -/
def DROPPED_RESP : Field :=
  ⟨.hostPort, 0xB20, 0, 32, 0, 1, .ro, .none, .c 0, false, true⟩

/-- `DRAIN_WRITES` at 0xB20 [63:32], R85. -/
def DRAIN_WRITES : Field :=
  ⟨.hostPort, 0xB20, 32, 32, 0, 1, .ro, .none, .c 0, false, true⟩

/-- `UNMAPPED_REQ` at 0xB28 [31:0], R85. -/
def UNMAPPED_REQ : Field :=
  ⟨.hostPort, 0xB28, 0, 32, 0, 1, .ro, .none, .c 0, false, true⟩

/-- `EQ128_FAILS` at 0xB28 [47:32], R85. -/
def EQ128_FAILS : Field :=
  ⟨.hostPort, 0xB28, 32, 16, 0, 1, .ro, .none, .c 0, false, true⟩

/-- `TRAIN_FAIL_REASON` at 0xB28 [55:48], R85. -/
def TRAIN_FAIL_REASON : Field :=
  ⟨.hostPort, 0xB28, 48, 8, 0, 1, .ro, .none, .c 0, false, true⟩

/-- `LAST_UNMAPPED_HPA` at 0xB30 [63:0], R85. -/
def LAST_UNMAPPED_HPA : Field :=
  ⟨.hostPort, 0xB30, 0, 64, 0, 1, .ro, .none, .c 0, false, true⟩

/-- `FLR_COUNT` at 0xB38 [15:0], R85. -/
def FLR_COUNT : Field :=
  ⟨.hostPort, 0xB38, 0, 16, 0, 1, .ro, .none, .c 0, false, false⟩

/-- `HOT_RESET_COUNT` at 0xB38 [31:16], R85. -/
def HOT_RESET_COUNT : Field :=
  ⟨.hostPort, 0xB38, 16, 16, 0, 1, .ro, .none, .c 0, false, false⟩

/-- `PERST_COUNT` at 0xB38 [47:32], R85. -/
def PERST_COUNT : Field :=
  ⟨.hostPort, 0xB38, 32, 16, 0, 1, .ro, .none, .c 0, false, false⟩

/-- `LAST_RESET` at 0xB38 [50:48], R85. -/
def LAST_RESET : Field :=
  ⟨.hostPort, 0xB38, 48, 3, 0, 1, .ro, .none, .c 0, false, false⟩

/-- `DEC_COMMITTED` at 0xB40 [15:0], R85. -/
def DEC_COMMITTED : Field :=
  ⟨.hostPort, 0xB40, 0, 16, 0, 1, .ro, .none, .c 0, false, false⟩

/-- `DEC_ERR` at 0xB40 [31:16], R85. -/
def DEC_ERR : Field :=
  ⟨.hostPort, 0xB40, 16, 16, 0, 1, .ro, .none, .c 0, false, false⟩

/-- `REQ_ACCEPTED` at 0xB48 [63:0], R85. -/
def REQ_ACCEPTED : Field :=
  ⟨.hostPort, 0xB48, 0, 64, 0, 1, .ro, .none, .c 0, false, true⟩

/-- `RESP_SENT` at 0xB50 [63:0], R85. -/
def RESP_SENT : Field :=
  ⟨.hostPort, 0xB50, 0, 64, 0, 1, .ro, .none, .c 0, false, true⟩

/-- Every field of the page beside its header. -/
def fields : List Field :=
  [MAX_RATE, RETRAIN, L0P_EN, L1_EN, LOF_EN, EQ128_RETRY, IDE_REQUIRED, DEV_RESET_VOTER, MSIX_ROUTE_LO, MSIX_ROUTE_HI, DPA_BASE, LTSSM, RATE, WIDTH, FLIT_LO, IDE_IO, IDE_MEM, IDE_INSECURE, MEM_ACTIVE, DL_UP, EQ128_FAILED, ING_NS, EGR_DATA_NS, EGR_NDR_NS, RATE_ADDER_NS, PAYLOAD_MBPS, TAGS_USED, TAGS_PEAK, LINK_DOWNS, RETRAINS, DROPPED_RESP, DRAIN_WRITES, UNMAPPED_REQ, EQ128_FAILS, TRAIN_FAIL_REASON, LAST_UNMAPPED_HPA, FLR_COUNT, HOT_RESET_COUNT, PERST_COUNT, LAST_RESET] ++
  [DEC_COMMITTED, DEC_ERR, REQ_ACCEPTED, RESP_SENT]

end Sys2Proof.Machine.Reg.HostPort

namespace Sys2Proof.Machine.Reg.Headgate

/-- `LATE_POP` at 0x5F0 [0], R122. -/
def LATE_POP : Field :=
  ⟨.headgate, 0x5F0, 0, 1, 0, 1, .wo, .live, .c 0, false, false⟩

/-- `TAG_SEL` at 0x5F8 [11:0], R122. -/
def TAG_SEL : Field :=
  ⟨.headgate, 0x5F8, 0, 12, 0, 1, .rw, .live, .c 0, false, false⟩

/-- `LATE_W0` at 0xF00 [63:0], R122. -/
def LATE_W0 : Field :=
  ⟨.headgate, 0xF00, 0, 64, 0, 1, .ro, .none, .c 0, false, false⟩

/-- `LATE_W1` at 0xF08 [63:0], R122. -/
def LATE_W1 : Field :=
  ⟨.headgate, 0xF08, 0, 64, 0, 1, .ro, .none, .c 0, false, false⟩

/-- `LATE_DEPTH` at 0xF10 [10:0], R122. -/
def LATE_DEPTH : Field :=
  ⟨.headgate, 0xF10, 0, 11, 0, 1, .ro, .none, .c 0, false, false⟩

/-- `LATE_PEAK` at 0xF10 [26:16], R122. -/
def LATE_PEAK : Field :=
  ⟨.headgate, 0xF10, 16, 11, 0, 1, .ro, .none, .c 0, false, true⟩

/-- `LATE_LOST` at 0xF10 [63:32], R122. -/
def LATE_LOST : Field :=
  ⟨.headgate, 0xF10, 32, 32, 0, 1, .ro, .none, .c 0, false, true⟩

/-- `HELD_DISCARD` at 0xF18 [31:0], R122. -/
def HELD_DISCARD : Field :=
  ⟨.headgate, 0xF18, 0, 32, 0, 1, .ro, .none, .c 0, false, true⟩

/-- `TV_STATE` at 0xF20 [2:0], R122. -/
def TV_STATE : Field :=
  ⟨.headgate, 0xF20, 0, 3, 0, 1, .ro, .none, .c 0, false, false⟩

/-- `TV_WRITE` at 0xF20 [3], R122. -/
def TV_WRITE : Field :=
  ⟨.headgate, 0xF20, 3, 1, 0, 1, .ro, .none, .c 0, false, false⟩

/-- `TV_ALLOT` at 0xF20 [7:4], R122. -/
def TV_ALLOT : Field :=
  ⟨.headgate, 0xF20, 4, 4, 0, 1, .ro, .none, .c 0, false, false⟩

/-- `TV_HOST_TAG` at 0xF20 [23:8], R122. -/
def TV_HOST_TAG : Field :=
  ⟨.headgate, 0xF20, 8, 16, 0, 1, .ro, .none, .c 0, false, false⟩

/-- `TV_LINE` at 0xF20 [63:24], R122. -/
def TV_LINE : Field :=
  ⟨.headgate, 0xF20, 24, 40, 0, 1, .ro, .none, .c 0, false, false⟩

/-- `TV_DEADLINE` at 0xF28 [31:0], R122. -/
def TV_DEADLINE : Field :=
  ⟨.headgate, 0xF28, 0, 32, 0, 1, .ro, .none, .c 0, false, false⟩

/-- `TV_ACCEPT` at 0xF28 [63:32], R122. -/
def TV_ACCEPT : Field :=
  ⟨.headgate, 0xF28, 32, 32, 0, 1, .ro, .none, .c 0, false, false⟩

/-- `FLOOR_RD` at 0x100 + 8a [19:0], R150. -/
def FLOOR_RD : Field :=
  ⟨.headgate, 0x100, 0, 20, 64, 16, .rw, .turn, .c 0, false, false⟩

/-- `FLOOR_WR` at 0x100 + 8a [51:32], R150. -/
def FLOOR_WR : Field :=
  ⟨.headgate, 0x100, 32, 20, 64, 16, .rw, .turn, .c 0, false, false⟩

/-- `PORT_MBPS` at 0x180 [19:0], R150. -/
def PORT_MBPS : Field :=
  ⟨.headgate, 0x180, 0, 20, 0, 1, .rw, .turn, .c 230400, false, false⟩

/-- `FLOOR_HOLD` at 0x180 [36:32], R150. -/
def FLOOR_HOLD : Field :=
  ⟨.headgate, 0x180, 32, 5, 0, 1, .rw, .turn, .c 8, false, false⟩

/-- `CALL_KEEP` at 0x180 [42:40], R150. -/
def CALL_KEEP : Field :=
  ⟨.headgate, 0x180, 40, 3, 0, 1, .rw, .turn, .c 2, false, false⟩

/-- `CALL_EN` at 0x188 [0], R150. -/
def CALL_EN : Field :=
  ⟨.headgate, 0x188, 0, 1, 0, 1, .rw, .live, .c 1, false, false⟩

/-- `CALL_FORCE` at 0x188 [2:1], R150. -/
def CALL_FORCE : Field :=
  ⟨.headgate, 0x188, 1, 2, 0, 1, .rw, .live, .c 0, false, false⟩

/-- `FLOOR_LEFT_RD` at 0xB00 + 8a [19:0], R150. -/
def FLOOR_LEFT_RD : Field :=
  ⟨.headgate, 0xB00, 0, 20, 64, 16, .ro, .none, .c 0, false, false⟩

/-- `FLOOR_LEFT_WR` at 0xB00 + 8a [39:20], R150. -/
def FLOOR_LEFT_WR : Field :=
  ⟨.headgate, 0xB00, 20, 20, 64, 16, .ro, .none, .c 0, false, false⟩

/-- `HELD` at 0xB00 + 8a [52:40], R150. -/
def HELD : Field :=
  ⟨.headgate, 0xB00, 40, 13, 64, 16, .ro, .none, .c 0, false, false⟩

/-- `RELEASED` at 0xB80 + 8a [31:0], R150. -/
def RELEASED : Field :=
  ⟨.headgate, 0xB80, 0, 32, 64, 16, .ro, .none, .c 0, true, true⟩

/-- `OVERFLOW_REL` at 0xB80 + 8a [63:32], R150. -/
def OVERFLOW_REL : Field :=
  ⟨.headgate, 0xB80, 32, 32, 64, 16, .ro, .none, .c 0, false, true⟩

/-- `HOLD_PEAK_NS` at 0xC00 + 8a [31:0], R150. -/
def HOLD_PEAK_NS : Field :=
  ⟨.headgate, 0xC00, 0, 32, 64, 16, .ro, .none, .c 0, false, true⟩

/-- `CARRIED` at 0xC00 + 8a [63:32], R150. -/
def CARRIED : Field :=
  ⟨.headgate, 0xC00, 32, 32, 64, 16, .ro, .none, .c 0, false, true⟩

/-- `CALL_PIN` at 0xC80 [1:0], R150. -/
def CALL_PIN : Field :=
  ⟨.headgate, 0xC80, 0, 2, 0, 1, .ro, .none, .c 0, false, false⟩

/-- `CALL_USED` at 0xC80 [3:2], R150. -/
def CALL_USED : Field :=
  ⟨.headgate, 0xC80, 2, 2, 0, 1, .ro, .none, .c 0, false, false⟩

/-- `CALL_CHANGES` at 0xC80 [63:32], R150. -/
def CALL_CHANGES : Field :=
  ⟨.headgate, 0xC80, 32, 32, 0, 1, .ro, .none, .c 0, true, false⟩

/-- `TIME_AT_CALL` at 0xC88 + 8k [63:0], R150. -/
def TIME_AT_CALL : Field :=
  ⟨.headgate, 0xC88, 0, 64, 64, 4, .ro, .none, .c 0, false, false⟩

/-- `PORT_LEFT_RD` at 0xCA8 [19:0], R150. -/
def PORT_LEFT_RD : Field :=
  ⟨.headgate, 0xCA8, 0, 20, 0, 1, .ro, .none, .c 0, false, false⟩

/-- `CAPPED` at 0xCA8 [40], R150. -/
def CAPPED : Field :=
  ⟨.headgate, 0xCA8, 40, 1, 0, 1, .ro, .none, .c 0, false, false⟩

/-- `POOL_GRANTS` at 0xCB0 [31:0], R150. -/
def POOL_GRANTS : Field :=
  ⟨.headgate, 0xCB0, 0, 32, 0, 1, .ro, .none, .c 0, true, true⟩

/-- `POOL_DENIALS` at 0xCB0 [63:32], R150. -/
def POOL_DENIALS : Field :=
  ⟨.headgate, 0xCB0, 32, 32, 0, 1, .ro, .none, .c 0, false, true⟩

/-- `DEMOTED` at 0xCB8 [31:0], R150. -/
def DEMOTED : Field :=
  ⟨.headgate, 0xCB8, 0, 32, 0, 1, .ro, .none, .c 0, false, true⟩

/-- `CAPPED_TURNS` at 0xCB8 [63:32], R150. -/
def CAPPED_TURNS : Field :=
  ⟨.headgate, 0xCB8, 32, 32, 0, 1, .ro, .none, .c 0, false, true⟩

/-- Every field of the page beside its header. -/
def fields : List Field :=
  [LATE_POP, TAG_SEL, LATE_W0, LATE_W1, LATE_DEPTH, LATE_PEAK, LATE_LOST, HELD_DISCARD, TV_STATE, TV_WRITE, TV_ALLOT, TV_HOST_TAG, TV_LINE, TV_DEADLINE, TV_ACCEPT, FLOOR_RD, FLOOR_WR, PORT_MBPS, FLOOR_HOLD, CALL_KEEP, CALL_EN, CALL_FORCE, FLOOR_LEFT_RD, FLOOR_LEFT_WR, HELD, RELEASED, OVERFLOW_REL, HOLD_PEAK_NS, CARRIED, CALL_PIN, CALL_USED, CALL_CHANGES, TIME_AT_CALL, PORT_LEFT_RD, CAPPED, POOL_GRANTS, POOL_DENIALS, DEMOTED, CAPPED_TURNS]

end Sys2Proof.Machine.Reg.Headgate

namespace Sys2Proof.Machine.Reg.DataMover

/-- `RETRY_MAX` at 0x100 [3:0], R124. -/
def RETRY_MAX : Field :=
  ⟨.dataMover, 0x100, 0, 4, 0, 1, .rw, .live, .c 3, false, false⟩

/-- `MAX_ACTIVE` at 0x108 [4:0], R124. -/
def MAX_ACTIVE : Field :=
  ⟨.dataMover, 0x108, 0, 5, 0, 1, .rw, .turn, .c 8, false, false⟩

/-- `JOB_DPA` at 0x110 [45:6], R124. -/
def JOB_DPA : Field :=
  ⟨.dataMover, 0x110, 6, 40, 0, 1, .rw, .live, .c 0, false, false⟩

/-- `JOB_HPA` at 0x118 [63:6], R124. -/
def JOB_HPA : Field :=
  ⟨.dataMover, 0x118, 6, 58, 0, 1, .rw, .live, .c 0, false, false⟩

/-- `JOB_LEN` at 0x120 [23:0], R124. -/
def JOB_LEN : Field :=
  ⟨.dataMover, 0x120, 0, 24, 0, 1, .rw, .live, .c 0, false, false⟩

/-- `STATUS_EN` at 0x128 [0], R124. -/
def STATUS_EN : Field :=
  ⟨.dataMover, 0x128, 0, 1, 0, 1, .rw, .live, .c 0, false, false⟩

/-- `JOB_STATUS_HPA` at 0x128 [63:4], R124. -/
def JOB_STATUS_HPA : Field :=
  ⟨.dataMover, 0x128, 4, 60, 0, 1, .rw, .live, .c 0, false, false⟩

/-- `DIR` at 0x130 [0], R124. -/
def DIR : Field :=
  ⟨.dataMover, 0x130, 0, 1, 0, 1, .rw, .live, .c 0, false, false⟩

/-- `PORT` at 0x130 [2:1], R124. -/
def PORT : Field :=
  ⟨.dataMover, 0x130, 1, 2, 0, 1, .rw, .live, .c 0, false, false⟩

/-- `ALLOT` at 0x130 [6:3], R124. -/
def ALLOT : Field :=
  ⟨.dataMover, 0x130, 3, 4, 0, 1, .rw, .live, .c 0, false, false⟩

/-- `INTR` at 0x130 [7], R124. -/
def INTR : Field :=
  ⟨.dataMover, 0x130, 7, 1, 0, 1, .rw, .live, .c 0, false, false⟩

/-- `JOB_TAG` at 0x130 [23:8], R124. -/
def JOB_TAG : Field :=
  ⟨.dataMover, 0x130, 8, 16, 0, 1, .rw, .live, .c 0, false, false⟩

/-- `GO` at 0x130 [63], R124. -/
def GO : Field :=
  ⟨.dataMover, 0x130, 63, 1, 0, 1, .wo, .live, .c 0, false, false⟩

/-- `ABORT_SLOT` at 0x138 [5:0], R124. -/
def ABORT_SLOT : Field :=
  ⟨.dataMover, 0x138, 0, 6, 0, 1, .rw, .live, .c 0, false, false⟩

/-- `ABORT_GO` at 0x138 [63], R124. -/
def ABORT_GO : Field :=
  ⟨.dataMover, 0x138, 63, 1, 0, 1, .wo, .live, .c 0, false, false⟩

/-- `RELEASE_SLOT` at 0x140 [5:0], R124. -/
def RELEASE_SLOT : Field :=
  ⟨.dataMover, 0x140, 0, 6, 0, 1, .rw, .live, .c 0, false, false⟩

/-- `RELEASE_GO` at 0x140 [63], R124. -/
def RELEASE_GO : Field :=
  ⟨.dataMover, 0x140, 63, 1, 0, 1, .wo, .live, .c 0, false, false⟩

/-- `SLOTS_FREE` at 0xB00 [6:0], R124. -/
def SLOTS_FREE : Field :=
  ⟨.dataMover, 0xB00, 0, 7, 0, 1, .ro, .none, .c 64, false, false⟩

/-- `SLOTS_RUNNING` at 0xB00 [12:8], R124. -/
def SLOTS_RUNNING : Field :=
  ⟨.dataMover, 0xB00, 8, 5, 0, 1, .ro, .none, .c 0, false, false⟩

/-- `LAST_SLOT` at 0xB00 [23:16], R124. -/
def LAST_SLOT : Field :=
  ⟨.dataMover, 0xB00, 16, 8, 0, 1, .ro, .none, .c 255, false, false⟩

/-- `SUBMIT_REJECTS` at 0xB00 [63:32], R124. -/
def SUBMIT_REJECTS : Field :=
  ⟨.dataMover, 0xB00, 32, 32, 0, 1, .ro, .none, .c 0, false, false⟩

/-- `LINES_MOVED` at 0xB08 [63:0], R124. -/
def LINES_MOVED : Field :=
  ⟨.dataMover, 0xB08, 0, 64, 0, 1, .ro, .none, .c 0, false, true⟩

/-- `JOBS_OK` at 0xB10 [31:0], R124. -/
def JOBS_OK : Field :=
  ⟨.dataMover, 0xB10, 0, 32, 0, 1, .ro, .none, .c 0, false, true⟩

/-- `JOBS_FAILED` at 0xB10 [63:32], R124. -/
def JOBS_FAILED : Field :=
  ⟨.dataMover, 0xB10, 32, 32, 0, 1, .ro, .none, .c 0, false, true⟩

/-- `SLOT_STATE` at 0xC00 + 8s [1:0], R124. -/
def SLOT_STATE : Field :=
  ⟨.dataMover, 0xC00, 0, 2, 64, 64, .ro, .none, .c 0, false, false⟩

/-- `SLOT_CODE` at 0xC00 + 8s [4:2], R124. -/
def SLOT_CODE : Field :=
  ⟨.dataMover, 0xC00, 2, 3, 64, 64, .ro, .none, .c 0, false, false⟩

/-- `SLOT_PORT` at 0xC00 + 8s [6:5], R124. -/
def SLOT_PORT : Field :=
  ⟨.dataMover, 0xC00, 5, 2, 64, 64, .ro, .none, .c 0, false, false⟩

/-- `SLOT_DIR` at 0xC00 + 8s [7], R124. -/
def SLOT_DIR : Field :=
  ⟨.dataMover, 0xC00, 7, 1, 64, 64, .ro, .none, .c 0, false, false⟩

/-- `LINES_DONE` at 0xC00 + 8s [32:8], R124. -/
def LINES_DONE : Field :=
  ⟨.dataMover, 0xC00, 8, 25, 64, 64, .ro, .none, .c 0, false, false⟩

/-- `SLOT_TAG` at 0xC00 + 8s [48:33], R124. -/
def SLOT_TAG : Field :=
  ⟨.dataMover, 0xC00, 33, 16, 64, 64, .ro, .none, .c 0, false, false⟩

/-- `SLOT_ALLOT` at 0xC00 + 8s [52:49], R124. -/
def SLOT_ALLOT : Field :=
  ⟨.dataMover, 0xC00, 49, 4, 64, 64, .ro, .none, .c 0, false, false⟩

/-- `TRACK_USED` at 0xE00 + 8k [13:0], R124. -/
def TRACK_USED : Field :=
  ⟨.dataMover, 0xE00, 0, 14, 64, 5, .ro, .none, .c 0, false, false⟩

/-- `TRACK_PEAK` at 0xE00 + 8k [29:16], R124. -/
def TRACK_PEAK : Field :=
  ⟨.dataMover, 0xE00, 16, 14, 64, 5, .ro, .none, .c 0, false, true⟩

/-- `LATE_STEPS` at 0xE00 + 8k [63:32], R124. -/
def LATE_STEPS : Field :=
  ⟨.dataMover, 0xE00, 32, 32, 64, 5, .ro, .none, .c 0, false, true⟩

/-- `SHARED_USED` at 0xE28 [11:0], R124. -/
def SHARED_USED : Field :=
  ⟨.dataMover, 0xE28, 0, 12, 0, 1, .ro, .none, .c 0, false, false⟩

/-- `SHARED_PEAK` at 0xE28 [27:16], R124. -/
def SHARED_PEAK : Field :=
  ⟨.dataMover, 0xE28, 16, 12, 0, 1, .ro, .none, .c 0, false, true⟩

/-- `TRACK_WAITS` at 0xE28 [63:32], R124. -/
def TRACK_WAITS : Field :=
  ⟨.dataMover, 0xE28, 32, 32, 0, 1, .ro, .none, .c 0, false, true⟩

/-- Every field of the page beside its header. -/
def fields : List Field :=
  [RETRY_MAX, MAX_ACTIVE, JOB_DPA, JOB_HPA, JOB_LEN, STATUS_EN, JOB_STATUS_HPA, DIR, PORT, ALLOT, INTR, JOB_TAG, GO, ABORT_SLOT, ABORT_GO, RELEASE_SLOT, RELEASE_GO, SLOTS_FREE, SLOTS_RUNNING, LAST_SLOT, SUBMIT_REJECTS, LINES_MOVED, JOBS_OK, JOBS_FAILED, SLOT_STATE, SLOT_CODE, SLOT_PORT, SLOT_DIR, LINES_DONE, SLOT_TAG, SLOT_ALLOT, TRACK_USED, TRACK_PEAK, LATE_STEPS, SHARED_USED, SHARED_PEAK, TRACK_WAITS]

end Sys2Proof.Machine.Reg.DataMover

namespace Sys2Proof.Machine.Reg.Allotment

/-- `GUARANTEED` at 0x100 [0], R537. -/
def GUARANTEED : Field :=
  ⟨.allotment, 0x100, 0, 1, 0, 1, .rw, .turn, .c 0, false, false⟩

/-- `STRIPE_WR` at 0x100 [1], R537. -/
def STRIPE_WR : Field :=
  ⟨.allotment, 0x100, 1, 1, 0, 1, .rw, .turn, .c 0, false, false⟩

/-- `OVERFLOW_BE` at 0x100 [2], R537. -/
def OVERFLOW_BE : Field :=
  ⟨.allotment, 0x100, 2, 1, 0, 1, .rw, .turn, .c 0, false, false⟩

/-- `CEILING_US` at 0x100 [25:16], R537. -/
def CEILING_US : Field :=
  ⟨.allotment, 0x100, 16, 10, 0, 1, .rw, .turn, .c 64, false, false⟩

/-- `RES_RD` at 0x108 [19:0], R537. -/
def RES_RD : Field :=
  ⟨.allotment, 0x108, 0, 20, 0, 1, .rw, .turn, .c 0, false, false⟩

/-- `RES_WR` at 0x108 [51:32], R537. -/
def RES_WR : Field :=
  ⟨.allotment, 0x108, 32, 20, 0, 1, .rw, .turn, .c 0, false, false⟩

/-- `PAGE_HINT` at 0x110 [1:0], R537. -/
def PAGE_HINT : Field :=
  ⟨.allotment, 0x110, 0, 2, 0, 1, .rw, .live, .c 0, false, false⟩

/-- `WEIGHT` at 0x110 [7:4], R537. -/
def WEIGHT : Field :=
  ⟨.allotment, 0x110, 4, 4, 0, 1, .rw, .live, .c 1, false, false⟩

/-- `GRANT_RD` at 0xB00 [19:0], R537. -/
def GRANT_RD : Field :=
  ⟨.allotment, 0xB00, 0, 20, 0, 1, .ro, .none, .c 0, false, false⟩

/-- `GRANT_WR` at 0xB00 [39:20], R537. -/
def GRANT_WR : Field :=
  ⟨.allotment, 0xB00, 20, 20, 0, 1, .ro, .none, .c 0, false, false⟩

/-- `POOL_LEFT_RD` at 0xB08 [19:0], R537. -/
def POOL_LEFT_RD : Field :=
  ⟨.allotment, 0xB08, 0, 20, 0, 1, .ro, .none, .c 0, false, false⟩

/-- `POOL_LEFT_WR` at 0xB08 [39:20], R537. -/
def POOL_LEFT_WR : Field :=
  ⟨.allotment, 0xB08, 20, 20, 0, 1, .ro, .none, .c 0, false, false⟩

/-- `USED_RD_LAST` at 0xB10 [19:0], R537. -/
def USED_RD_LAST : Field :=
  ⟨.allotment, 0xB10, 0, 20, 0, 1, .ro, .none, .c 0, false, false⟩

/-- `USED_WR_LAST` at 0xB10 [39:20], R537. -/
def USED_WR_LAST : Field :=
  ⟨.allotment, 0xB10, 20, 20, 0, 1, .ro, .none, .c 0, false, false⟩

/-- `LATE_COUNT` at 0xB18 [63:0], R537. -/
def LATE_COUNT : Field :=
  ⟨.allotment, 0xB18, 0, 64, 0, 1, .ro, .none, .c 0, false, true⟩

/-- `ACCEPTED_RD` at 0xB20 [63:0], R537. -/
def ACCEPTED_RD : Field :=
  ⟨.allotment, 0xB20, 0, 64, 0, 1, .ro, .none, .c 0, false, true⟩

/-- `ACCEPTED_WR` at 0xB28 [63:0], R537. -/
def ACCEPTED_WR : Field :=
  ⟨.allotment, 0xB28, 0, 64, 0, 1, .ro, .none, .c 0, false, true⟩

/-- `DEMOTED` at 0xB30 [31:0], R537. -/
def DEMOTED : Field :=
  ⟨.allotment, 0xB30, 0, 32, 0, 1, .ro, .none, .c 0, false, true⟩

/-- `OVERFLOWED` at 0xB30 [63:32], R537. -/
def OVERFLOWED : Field :=
  ⟨.allotment, 0xB30, 32, 32, 0, 1, .ro, .none, .c 0, false, true⟩

/-- `LATE_LAST_TURN` at 0xB38 [31:0], R537. -/
def LATE_LAST_TURN : Field :=
  ⟨.allotment, 0xB38, 0, 32, 0, 1, .ro, .none, .c 0, false, true⟩

/-- `FABRIC_ACCEPTED` at 0xB38 [63:32], R537. -/
def FABRIC_ACCEPTED : Field :=
  ⟨.allotment, 0xB38, 32, 32, 0, 1, .ro, .none, .c 0, true, true⟩

/-- Every field of the page beside its header. -/
def fields : List Field :=
  [GUARANTEED, STRIPE_WR, OVERFLOW_BE, CEILING_US, RES_RD, RES_WR, PAGE_HINT, WEIGHT, GRANT_RD, GRANT_WR, POOL_LEFT_RD, POOL_LEFT_WR, USED_RD_LAST, USED_WR_LAST, LATE_COUNT, ACCEPTED_RD, ACCEPTED_WR, DEMOTED, OVERFLOWED, LATE_LAST_TURN, FABRIC_ACCEPTED]

end Sys2Proof.Machine.Reg.Allotment

namespace Sys2Proof.Machine.Reg.Weir

/-- `TURN_LEN` at 0x100 [8:0], R170. -/
def TURN_LEN : Field :=
  ⟨.weir, 0x100, 0, 9, 0, 1, .rw, .turn, .c 8, false, false⟩

/-- `FREEBOARD` at 0x100 [24:16], R170. -/
def FREEBOARD : Field :=
  ⟨.weir, 0x100, 16, 9, 0, 1, .rw, .turn, .c 80, false, false⟩

/-- `BE_PCT` at 0x100 [38:32], R170. -/
def BE_PCT : Field :=
  ⟨.weir, 0x100, 32, 7, 0, 1, .rw, .turn, .c 85, false, false⟩

/-- `FB_SHARE_MIG` at 0x108 [3:0], R170. -/
def FB_SHARE_MIG : Field :=
  ⟨.weir, 0x108, 0, 4, 0, 1, .rw, .turn, .c 4, false, false⟩

/-- `FB_SHARE_SCRUB` at 0x108 [7:4], R170. -/
def FB_SHARE_SCRUB : Field :=
  ⟨.weir, 0x108, 4, 4, 0, 1, .rw, .turn, .c 3, false, false⟩

/-- `FB_SHARE_RESILVER` at 0x108 [11:8], R170. -/
def FB_SHARE_RESILVER : Field :=
  ⟨.weir, 0x108, 8, 4, 0, 1, .rw, .turn, .c 4, false, false⟩

/-- `FB_SHARE_REKEY` at 0x108 [15:12], R170. -/
def FB_SHARE_REKEY : Field :=
  ⟨.weir, 0x108, 12, 4, 0, 1, .rw, .turn, .c 2, false, false⟩

/-- `FB_SHARE_REBUILD` at 0x108 [19:16], R170. -/
def FB_SHARE_REBUILD : Field :=
  ⟨.weir, 0x108, 16, 4, 0, 1, .rw, .turn, .c 3, false, false⟩

/-- `CANALS_IN` at 0xB00 [15:0], R170. -/
def CANALS_IN : Field :=
  ⟨.weir, 0xB00, 0, 16, 0, 1, .ro, .none, .c 0, false, false⟩

/-- `N_IN` at 0xB00 [20:16], R170. -/
def N_IN : Field :=
  ⟨.weir, 0xB00, 16, 5, 0, 1, .ro, .none, .c 0, false, false⟩

/-- `DC_MBPS` at 0xB00 [63:32], R170. -/
def DC_MBPS : Field :=
  ⟨.weir, 0xB00, 32, 32, 0, 1, .ro, .none, .c 0, false, false⟩

/-- `D_MBPS` at 0xB08 [31:0], R170. -/
def D_MBPS : Field :=
  ⟨.weir, 0xB08, 0, 32, 0, 1, .ro, .none, .c 0, false, false⟩

/-- `RESERVABLE_MBPS` at 0xB08 [63:32], R170. -/
def RESERVABLE_MBPS : Field :=
  ⟨.weir, 0xB08, 32, 32, 0, 1, .ro, .none, .c 0, false, false⟩

/-- `W_MBPS` at 0xB10 [31:0], R170. -/
def W_MBPS : Field :=
  ⟨.weir, 0xB10, 0, 32, 0, 1, .ro, .none, .c 0, false, false⟩

/-- `W_RD_MBPS` at 0xB10 [63:32], R170. -/
def W_RD_MBPS : Field :=
  ⟨.weir, 0xB10, 32, 32, 0, 1, .ro, .none, .c 0, false, false⟩

/-- `W_WR_MBPS` at 0xB18 [31:0], R170. -/
def W_WR_MBPS : Field :=
  ⟨.weir, 0xB18, 0, 32, 0, 1, .ro, .none, .c 0, false, false⟩

/-- `TWIN_LINK_MBPS` at 0xB18 [63:32], R170. -/
def TWIN_LINK_MBPS : Field :=
  ⟨.weir, 0xB18, 32, 32, 0, 1, .ro, .none, .c 0, false, false⟩

/-- `SHORT_MBPS` at 0xB20 [31:0], R170. -/
def SHORT_MBPS : Field :=
  ⟨.weir, 0xB20, 0, 32, 0, 1, .ro, .none, .c 0, false, false⟩

/-- `SHORT_CANAL_MBPS` at 0xB20 [63:32], R170. -/
def SHORT_CANAL_MBPS : Field :=
  ⟨.weir, 0xB20, 32, 32, 0, 1, .ro, .none, .c 0, false, false⟩

/-- `SHORT_SECTORS` at 0xB28 [31:0], R170. -/
def SHORT_SECTORS : Field :=
  ⟨.weir, 0xB28, 0, 32, 0, 1, .ro, .none, .c 0, false, false⟩

/-- `SHORT_POOL` at 0xB28 [39:32], R170. -/
def SHORT_POOL : Field :=
  ⟨.weir, 0xB28, 32, 8, 0, 1, .ro, .none, .c 255, false, false⟩

/-- `SHORT_COND` at 0xB28 [41:40], R170. -/
def SHORT_COND : Field :=
  ⟨.weir, 0xB28, 40, 2, 0, 1, .ro, .none, .c 0, false, false⟩

/-- `SHORT_TWIN_MBPS` at 0xB30 [31:0], R170. -/
def SHORT_TWIN_MBPS : Field :=
  ⟨.weir, 0xB30, 0, 32, 0, 1, .ro, .none, .c 0, false, false⟩

/-- `SHORT_TURN_LO` at 0xB30 [63:32], R170. -/
def SHORT_TURN_LO : Field :=
  ⟨.weir, 0xB30, 32, 32, 0, 1, .ro, .none, .c 0, false, false⟩

/-- `BE_ALLOW` at 0xB38 [19:0], R170. -/
def BE_ALLOW : Field :=
  ⟨.weir, 0xB38, 0, 20, 0, 1, .ro, .none, .c 0, false, false⟩

/-- `BE_LEFT` at 0xB38 [39:20], R170. -/
def BE_LEFT : Field :=
  ⟨.weir, 0xB38, 20, 20, 0, 1, .ro, .none, .c 0, false, false⟩

/-- `BE_SHARE_LEFT` at 0xB40 [15:0] + 16p, R170. -/
def BE_SHARE_LEFT : Field :=
  ⟨.weir, 0xB40, 0, 16, 16, 4, .ro, .none, .c 0, false, false⟩

/-- `FB_GRANT` at 0xB48 + 8k [19:0], R170. -/
def FB_GRANT : Field :=
  ⟨.weir, 0xB48, 0, 20, 64, 5, .ro, .none, .c 0, false, false⟩

/-- `FB_LEFT` at 0xB48 + 8k [39:20], R170. -/
def FB_LEFT : Field :=
  ⟨.weir, 0xB48, 20, 20, 64, 5, .ro, .none, .c 0, false, false⟩

/-- `CUT_ALLOT` at 0xB70 [3:0], R170. -/
def CUT_ALLOT : Field :=
  ⟨.weir, 0xB70, 0, 4, 0, 1, .ro, .none, .c 0, false, false⟩

/-- `DEGRADED` at 0xB70 [4], R170. -/
def DEGRADED : Field :=
  ⟨.weir, 0xB70, 4, 1, 0, 1, .ro, .none, .c 0, false, false⟩

/-- `NO_CUT` at 0xB70 [5], R170. -/
def NO_CUT : Field :=
  ⟨.weir, 0xB70, 5, 1, 0, 1, .ro, .none, .c 0, false, false⟩

/-- `CUT_LINES` at 0xB70 [27:8], R170. -/
def CUT_LINES : Field :=
  ⟨.weir, 0xB70, 8, 20, 0, 1, .ro, .none, .c 0, false, false⟩

/-- `DEGRADED_TURNS` at 0xB70 [63:32], R170. -/
def DEGRADED_TURNS : Field :=
  ⟨.weir, 0xB70, 32, 32, 0, 1, .ro, .none, .c 0, false, false⟩

/-- `AVAIL_LINES` at 0xB78 [19:0], R170. -/
def AVAIL_LINES : Field :=
  ⟨.weir, 0xB78, 0, 20, 0, 1, .ro, .none, .c 0, false, false⟩

/-- `LATE_TOTAL` at 0xB80 [63:0], R170. -/
def LATE_TOTAL : Field :=
  ⟨.weir, 0xB80, 0, 64, 0, 1, .ro, .none, .c 0, false, true⟩

/-- `AT_RISK_LATE` at 0xB88 [31:0], R170. -/
def AT_RISK_LATE : Field :=
  ⟨.weir, 0xB88, 0, 32, 0, 1, .ro, .none, .c 0, false, true⟩

/-- `CANAL_HOT_TURNS` at 0xB88 [63:32], R170. -/
def CANAL_HOT_TURNS : Field :=
  ⟨.weir, 0xB88, 32, 32, 0, 1, .ro, .none, .c 0, false, true⟩

/-- `RECALC_TIDE` at 0xB90 [63:0], R170. -/
def RECALC_TIDE : Field :=
  ⟨.weir, 0xB90, 0, 64, 0, 1, .ro, .none, .c 0, false, false⟩

/-- `RECALCS` at 0xB98 [31:0], R170. -/
def RECALCS : Field :=
  ⟨.weir, 0xB98, 0, 32, 0, 1, .ro, .none, .c 0, true, true⟩

/-- `OVERBOOK_REJECTS` at 0xB98 [63:32], R170. -/
def OVERBOOK_REJECTS : Field :=
  ⟨.weir, 0xB98, 32, 32, 0, 1, .ro, .none, .c 0, false, true⟩

/-- Every field of the page beside its header. -/
def fields : List Field :=
  [TURN_LEN, FREEBOARD, BE_PCT, FB_SHARE_MIG, FB_SHARE_SCRUB, FB_SHARE_RESILVER, FB_SHARE_REKEY, FB_SHARE_REBUILD, CANALS_IN, N_IN, DC_MBPS, D_MBPS, RESERVABLE_MBPS, W_MBPS, W_RD_MBPS, W_WR_MBPS, TWIN_LINK_MBPS, SHORT_MBPS, SHORT_CANAL_MBPS, SHORT_SECTORS, SHORT_POOL, SHORT_COND, SHORT_TWIN_MBPS, SHORT_TURN_LO, BE_ALLOW, BE_LEFT, BE_SHARE_LEFT, FB_GRANT, FB_LEFT, CUT_ALLOT, DEGRADED, NO_CUT, CUT_LINES, DEGRADED_TURNS, AVAIL_LINES, LATE_TOTAL, AT_RISK_LATE, CANAL_HOT_TURNS, RECALC_TIDE, RECALCS] ++
  [OVERBOOK_REJECTS]

end Sys2Proof.Machine.Reg.Weir

namespace Sys2Proof.Machine.Reg.TractTable

/-- `EDIT_COUNT` at 0x100 [6:0], R203. -/
def EDIT_COUNT : Field :=
  ⟨.tractTable, 0x100, 0, 7, 0, 1, .rw, .turn, .c 0, false, false⟩

/-- `E_TRACT` at 0x108 + 16e [15:0], R203. -/
def E_TRACT : Field :=
  ⟨.tractTable, 0x108, 0, 16, 128, 64, .rw, .turn, .c 0, false, false⟩

/-- `E_ENTRY` at 0x110 + 16e [63:0], R203. -/
def E_ENTRY : Field :=
  ⟨.tractTable, 0x110, 0, 64, 128, 64, .rw, .turn, .c 0, false, false⟩

/-- `PEER_ID` at 0x508 + 8(s−1) [5:0], R203. -/
def PEER_ID : Field :=
  ⟨.tractTable, 0x508, 0, 6, 64, 7, .rw, .turn, .c 0, false, false⟩

/-- `PEER_VALID` at 0x508 + 8(s−1) [6], R203. -/
def PEER_VALID : Field :=
  ⟨.tractTable, 0x508, 6, 1, 64, 7, .rw, .turn, .c 0, false, false⟩

/-- `FRAME_RESERVE` at 0x540 [20:0], R203. -/
def FRAME_RESERVE : Field :=
  ⟨.tractTable, 0x540, 0, 21, 0, 1, .rw, .turn, .c 32768, false, false⟩

/-- `TRACT_SEL` at 0x548 [15:0], R203. -/
def TRACT_SEL : Field :=
  ⟨.tractTable, 0x548, 0, 16, 0, 1, .rw, .live, .c 0, false, false⟩

/-- `FRAME_SEL` at 0x548 [29:16], R203. -/
def FRAME_SEL : Field :=
  ⟨.tractTable, 0x548, 16, 14, 0, 1, .rw, .live, .c 0, false, false⟩

/-- `TV_ENTRY` at 0xB00 [63:0], R203. -/
def TV_ENTRY : Field :=
  ⟨.tractTable, 0xB00, 0, 64, 0, 1, .ro, .none, .c 0, false, false⟩

/-- `TV_FRAME` at 0xB08 [13:0], R203. -/
def TV_FRAME : Field :=
  ⟨.tractTable, 0xB08, 0, 14, 0, 1, .ro, .none, .c 0, false, false⟩

/-- `TV_SLOT` at 0xB08 [17:14], R203. -/
def TV_SLOT : Field :=
  ⟨.tractTable, 0xB08, 14, 4, 0, 1, .ro, .none, .c 15, false, false⟩

/-- `TV_TABLE` at 0xB08 [33:18], R203. -/
def TV_TABLE : Field :=
  ⟨.tractTable, 0xB08, 18, 16, 0, 1, .ro, .none, .c 0, false, false⟩

/-- `TV_MOVING` at 0xB08 [34], R203. -/
def TV_MOVING : Field :=
  ⟨.tractTable, 0xB08, 34, 1, 0, 1, .ro, .none, .c 0, false, false⟩

/-- `FV_ROLE` at 0xB10 [2:0], R203. -/
def FV_ROLE : Field :=
  ⟨.tractTable, 0xB10, 0, 3, 0, 1, .ro, .none, .c 0, false, false⟩

/-- `FV_POOL` at 0xB10 [6:3], R203. -/
def FV_POOL : Field :=
  ⟨.tractTable, 0xB10, 3, 4, 0, 1, .ro, .none, .c 0, false, false⟩

/-- `FV_OWNER` at 0xB10 [22:7], R203. -/
def FV_OWNER : Field :=
  ⟨.tractTable, 0xB10, 7, 16, 0, 1, .ro, .none, .c 0, false, false⟩

/-- `FV_USED` at 0xB10 [41:23], R203. -/
def FV_USED : Field :=
  ⟨.tractTable, 0xB10, 23, 19, 0, 1, .ro, .none, .c 0, false, false⟩

/-- `N_DIRECT` at 0xB18 [16:0], R203. -/
def N_DIRECT : Field :=
  ⟨.tractTable, 0xB18, 0, 17, 0, 1, .ro, .none, .c 0, false, false⟩

/-- `N_MANAGED` at 0xB18 [33:17], R203. -/
def N_MANAGED : Field :=
  ⟨.tractTable, 0xB18, 17, 17, 0, 1, .ro, .none, .c 0, false, false⟩

/-- `N_REMOTE` at 0xB18 [50:34], R203. -/
def N_REMOTE : Field :=
  ⟨.tractTable, 0xB18, 34, 17, 0, 1, .ro, .none, .c 0, false, false⟩

/-- `F_FREE` at 0xB20 [14:0], R203. -/
def F_FREE : Field :=
  ⟨.tractTable, 0xB20, 0, 15, 0, 1, .ro, .none, .c 0, false, false⟩

/-- `F_DIRECT` at 0xB20 [29:15], R203. -/
def F_DIRECT : Field :=
  ⟨.tractTable, 0xB20, 15, 15, 0, 1, .ro, .none, .c 0, false, false⟩

/-- `F_STRIPE` at 0xB20 [44:30], R203. -/
def F_STRIPE : Field :=
  ⟨.tractTable, 0xB20, 30, 15, 0, 1, .ro, .none, .c 0, false, false⟩

/-- `F_PLOT` at 0xB20 [59:45], R203. -/
def F_PLOT : Field :=
  ⟨.tractTable, 0xB20, 45, 15, 0, 1, .ro, .none, .c 0, false, false⟩

/-- `F_SECTOR` at 0xB28 [14:0], R203. -/
def F_SECTOR : Field :=
  ⟨.tractTable, 0xB28, 0, 15, 0, 1, .ro, .none, .c 0, false, false⟩

/-- `F_TABLE` at 0xB28 [29:15], R203. -/
def F_TABLE : Field :=
  ⟨.tractTable, 0xB28, 15, 15, 0, 1, .ro, .none, .c 0, false, false⟩

/-- `F_RESERVED` at 0xB28 [44:30], R203. -/
def F_RESERVED : Field :=
  ⟨.tractTable, 0xB28, 30, 15, 0, 1, .ro, .none, .c 1, false, false⟩

/-- `F_DRAINING` at 0xB28 [59:45], R203. -/
def F_DRAINING : Field :=
  ⟨.tractTable, 0xB28, 45, 15, 0, 1, .ro, .none, .c 0, false, false⟩

/-- `PLOT_FREE` at 0xB30 [32:0], R203. -/
def PLOT_FREE : Field :=
  ⟨.tractTable, 0xB30, 0, 33, 0, 1, .ro, .none, .c 0, false, false⟩

/-- `WRITE_HOLD` at 0xB30 [33], R203. -/
def WRITE_HOLD : Field :=
  ⟨.tractTable, 0xB30, 33, 1, 0, 1, .ro, .none, .c 0, false, false⟩

/-- `SPAN_GB` at 0xB38 [31:0], R203. -/
def SPAN_GB : Field :=
  ⟨.tractTable, 0xB38, 0, 32, 0, 1, .ro, .none, .c 0, false, false⟩

/-- `MANAGED_GB` at 0xB38 [63:32], R203. -/
def MANAGED_GB : Field :=
  ⟨.tractTable, 0xB38, 32, 32, 0, 1, .ro, .none, .c 0, false, false⟩

/-- `NONE_READS` at 0xB40 [31:0], R203. -/
def NONE_READS : Field :=
  ⟨.tractTable, 0xB40, 0, 32, 0, 1, .ro, .none, .c 0, false, true⟩

/-- `NONE_WRITES` at 0xB40 [63:32], R203. -/
def NONE_WRITES : Field :=
  ⟨.tractTable, 0xB40, 32, 32, 0, 1, .ro, .none, .c 0, false, true⟩

/-- `HOLD_TURNS` at 0xB48 [31:0], R203. -/
def HOLD_TURNS : Field :=
  ⟨.tractTable, 0xB48, 0, 32, 0, 1, .ro, .none, .c 0, false, true⟩

/-- `ENTRY_LOST` at 0xB48 [63:32], R203. -/
def ENTRY_LOST : Field :=
  ⟨.tractTable, 0xB48, 32, 32, 0, 1, .ro, .none, .c 0, false, true⟩

/-- `RAW_GB` at 0xB50 [31:0], R203. -/
def RAW_GB : Field :=
  ⟨.tractTable, 0xB50, 0, 32, 0, 1, .ro, .none, .c 0, false, false⟩

/-- Every field of the page beside its header. -/
def fields : List Field :=
  [EDIT_COUNT, E_TRACT, E_ENTRY, PEER_ID, PEER_VALID, FRAME_RESERVE, TRACT_SEL, FRAME_SEL, TV_ENTRY, TV_FRAME, TV_SLOT, TV_TABLE, TV_MOVING, FV_ROLE, FV_POOL, FV_OWNER, FV_USED, N_DIRECT, N_MANAGED, N_REMOTE, F_FREE, F_DIRECT, F_STRIPE, F_PLOT, F_SECTOR, F_TABLE, F_RESERVED, F_DRAINING, PLOT_FREE, WRITE_HOLD, SPAN_GB, MANAGED_GB, NONE_READS, NONE_WRITES, HOLD_TURNS, ENTRY_LOST, RAW_GB]

end Sys2Proof.Machine.Reg.TractTable

namespace Sys2Proof.Machine.Reg.TransCache

/-- `FLUSH` at 0x100 [0], R204. -/
def FLUSH : Field :=
  ⟨.transCache, 0x100, 0, 1, 0, 1, .wo, .live, .c 0, false, false⟩

/-- `PREFETCH_EN` at 0x100 [1], R204. -/
def PREFETCH_EN : Field :=
  ⟨.transCache, 0x100, 1, 1, 0, 1, .rw, .live, .c 1, false, false⟩

/-- `HITS` at 0xB00 [63:0], R204. -/
def HITS : Field :=
  ⟨.transCache, 0xB00, 0, 64, 0, 1, .ro, .none, .c 0, false, true⟩

/-- `MISSES` at 0xB08 [63:0], R204. -/
def MISSES : Field :=
  ⟨.transCache, 0xB08, 0, 64, 0, 1, .ro, .none, .c 0, false, true⟩

/-- `VALID` at 0xB10 [20:0], R204. -/
def VALID : Field :=
  ⟨.transCache, 0xB10, 0, 21, 0, 1, .ro, .none, .c 0, false, false⟩

/-- `LOCKED` at 0xB10 [41:21], R204. -/
def LOCKED : Field :=
  ⟨.transCache, 0xB10, 21, 21, 0, 1, .ro, .none, .c 0, false, false⟩

/-- `MISS_PEAK_NS` at 0xB18 [15:0], R204. -/
def MISS_PEAK_NS : Field :=
  ⟨.transCache, 0xB18, 0, 16, 0, 1, .ro, .none, .c 0, false, true⟩

/-- `COPY_FETCHES` at 0xB18 [47:16], R204. -/
def COPY_FETCHES : Field :=
  ⟨.transCache, 0xB18, 16, 32, 0, 1, .ro, .none, .c 0, false, true⟩

/-- `WRITEBACKS` at 0xB20 [63:0], R204. -/
def WRITEBACKS : Field :=
  ⟨.transCache, 0xB20, 0, 64, 0, 1, .ro, .none, .c 0, false, true⟩

/-- Every field of the page beside its header. -/
def fields : List Field :=
  [FLUSH, PREFETCH_EN, HITS, MISSES, VALID, LOCKED, MISS_PEAK_NS, COPY_FETCHES, WRITEBACKS]

end Sys2Proof.Machine.Reg.TransCache

namespace Sys2Proof.Machine.Reg.Cistern

/-- `TIER_FRAMES` at 0x100 [15:0], R205. -/
def TIER_FRAMES : Field :=
  ⟨.cistern, 0x100, 0, 16, 0, 1, .rw, .turn, .c 8192, false, false⟩

/-- `PIN_MAX` at 0x100 [46:32], R205. -/
def PIN_MAX : Field :=
  ⟨.cistern, 0x100, 32, 15, 0, 1, .rw, .turn, .c 4096, false, false⟩

/-- `LINE_FILL_EN` at 0x108 [0], R205. -/
def LINE_FILL_EN : Field :=
  ⟨.cistern, 0x108, 0, 1, 0, 1, .rw, .live, .c 1, false, false⟩

/-- `TIER_USED` at 0xB00 [15:0], R205. -/
def TIER_USED : Field :=
  ⟨.cistern, 0xB00, 0, 16, 0, 1, .ro, .none, .c 0, false, false⟩

/-- `PINNED_USED` at 0xB00 [31:16], R205. -/
def PINNED_USED : Field :=
  ⟨.cistern, 0xB00, 16, 16, 0, 1, .ro, .none, .c 0, false, false⟩

/-- `LINES_VALID` at 0xB00 [53:32], R205. -/
def LINES_VALID : Field :=
  ⟨.cistern, 0xB00, 32, 22, 0, 1, .ro, .none, .c 0, false, false⟩

/-- `HITS` at 0xB08 [63:0], R205. -/
def HITS : Field :=
  ⟨.cistern, 0xB08, 0, 64, 0, 1, .ro, .none, .c 0, false, true⟩

/-- `MISSES` at 0xB10 [63:0], R205. -/
def MISSES : Field :=
  ⟨.cistern, 0xB10, 0, 64, 0, 1, .ro, .none, .c 0, false, true⟩

/-- `CHECK_FAILS` at 0xB18 [31:0], R205. -/
def CHECK_FAILS : Field :=
  ⟨.cistern, 0xB18, 0, 32, 0, 1, .ro, .none, .c 0, false, true⟩

/-- `DEMOTED_BY_SHRINK` at 0xB18 [63:32], R205. -/
def DEMOTED_BY_SHRINK : Field :=
  ⟨.cistern, 0xB18, 32, 32, 0, 1, .ro, .none, .c 0, false, true⟩

/-- `SLICE_OK` at 0xB20 [31:0], R205. -/
def SLICE_OK : Field :=
  ⟨.cistern, 0xB20, 0, 32, 0, 1, .ro, .none, .c 0, false, false⟩

/-- Every field of the page beside its header. -/
def fields : List Field :=
  [TIER_FRAMES, PIN_MAX, LINE_FILL_EN, TIER_USED, PINNED_USED, LINES_VALID, HITS, MISSES, CHECK_FAILS, DEMOTED_BY_SHRINK, SLICE_OK]

end Sys2Proof.Machine.Reg.Cistern

namespace Sys2Proof.Machine.Reg.Siphon

/-- `AUTO_EN` at 0x100 [0], R207. -/
def AUTO_EN : Field :=
  ⟨.siphon, 0x100, 0, 1, 0, 1, .rw, .live, .c 0, false, false⟩

/-- `AUTO_PROMOTE` at 0x100 [1], R207. -/
def AUTO_PROMOTE : Field :=
  ⟨.siphon, 0x100, 1, 1, 0, 1, .rw, .live, .c 1, false, false⟩

/-- `AUTO_COMPRESS` at 0x100 [2], R207. -/
def AUTO_COMPRESS : Field :=
  ⟨.siphon, 0x100, 2, 1, 0, 1, .rw, .live, .c 1, false, false⟩

/-- `HOT_THRESH` at 0x108 [7:0], R207. -/
def HOT_THRESH : Field :=
  ⟨.siphon, 0x108, 0, 8, 0, 1, .rw, .turn, .c 64, false, false⟩

/-- `WARM_THRESH` at 0x108 [15:8], R207. -/
def WARM_THRESH : Field :=
  ⟨.siphon, 0x108, 8, 8, 0, 1, .rw, .turn, .c 16, false, false⟩

/-- `DECAY_TURNS` at 0x108 [31:16], R207. -/
def DECAY_TURNS : Field :=
  ⟨.siphon, 0x108, 16, 16, 0, 1, .rw, .turn, .c 5000, false, false⟩

/-- `CMD_PLOT` at 0x110 [33:0], R207. -/
def CMD_PLOT : Field :=
  ⟨.siphon, 0x110, 0, 34, 0, 1, .rw, .live, .c 0, false, false⟩

/-- `CMD_COUNT` at 0x118 [17:0], R207. -/
def CMD_COUNT : Field :=
  ⟨.siphon, 0x118, 0, 18, 0, 1, .rw, .live, .c 0, false, false⟩

/-- `CMD_OP` at 0x120 [3:0], R207. -/
def CMD_OP : Field :=
  ⟨.siphon, 0x120, 0, 4, 0, 1, .rw, .live, .c 0, false, false⟩

/-- `CMD_PEER_SLOT` at 0x120 [6:4], R207. -/
def CMD_PEER_SLOT : Field :=
  ⟨.siphon, 0x120, 4, 3, 0, 1, .rw, .live, .c 0, false, false⟩

/-- `CMD_PEER_TRACT` at 0x120 [22:7], R207. -/
def CMD_PEER_TRACT : Field :=
  ⟨.siphon, 0x120, 7, 16, 0, 1, .rw, .live, .c 0, false, false⟩

/-- `CMD_MODE` at 0x120 [24:23], R207. -/
def CMD_MODE : Field :=
  ⟨.siphon, 0x120, 23, 2, 0, 1, .rw, .live, .c 0, false, false⟩

/-- `CMD_TAG` at 0x120 [40:25], R207. -/
def CMD_TAG : Field :=
  ⟨.siphon, 0x120, 25, 16, 0, 1, .rw, .live, .c 0, false, false⟩

/-- `CMD_GO` at 0x120 [63], R207. -/
def CMD_GO : Field :=
  ⟨.siphon, 0x120, 63, 1, 0, 1, .wo, .live, .c 0, false, false⟩

/-- `QUEUE_DEPTH` at 0xB00 [4:0], R207. -/
def QUEUE_DEPTH : Field :=
  ⟨.siphon, 0xB00, 0, 5, 0, 1, .ro, .none, .c 0, false, false⟩

/-- `CMD_REJECTS` at 0xB00 [63:32], R207. -/
def CMD_REJECTS : Field :=
  ⟨.siphon, 0xB00, 32, 32, 0, 1, .ro, .none, .c 0, false, false⟩

/-- `LAST_TAG` at 0xB08 [15:0], R207. -/
def LAST_TAG : Field :=
  ⟨.siphon, 0xB08, 0, 16, 0, 1, .ro, .none, .c 0, false, false⟩

/-- `LAST_RESULT` at 0xB08 [18:16], R207. -/
def LAST_RESULT : Field :=
  ⟨.siphon, 0xB08, 16, 3, 0, 1, .ro, .none, .c 0, false, false⟩

/-- `CMDS_DONE` at 0xB08 [63:32], R207. -/
def CMDS_DONE : Field :=
  ⟨.siphon, 0xB08, 32, 32, 0, 1, .ro, .none, .c 0, true, false⟩

/-- `MOVES_DONE` at 0xB10 [63:0], R207. -/
def MOVES_DONE : Field :=
  ⟨.siphon, 0xB10, 0, 64, 0, 1, .ro, .none, .c 0, false, true⟩

/-- `ABANDONED` at 0xB18 [31:0], R207. -/
def ABANDONED : Field :=
  ⟨.siphon, 0xB18, 0, 32, 0, 1, .ro, .none, .c 0, false, true⟩

/-- `HOT_SKIPS` at 0xB18 [63:32], R207. -/
def HOT_SKIPS : Field :=
  ⟨.siphon, 0xB18, 32, 32, 0, 1, .ro, .none, .c 0, false, true⟩

/-- `TM_TRACT` at 0xB20 [15:0], R207. -/
def TM_TRACT : Field :=
  ⟨.siphon, 0xB20, 0, 16, 0, 1, .ro, .none, .c 0, false, false⟩

/-- `TM_ACTIVE` at 0xB20 [16], R207. -/
def TM_ACTIVE : Field :=
  ⟨.siphon, 0xB20, 16, 1, 0, 1, .ro, .none, .c 0, false, false⟩

/-- `TM_DIR` at 0xB20 [17], R207. -/
def TM_DIR : Field :=
  ⟨.siphon, 0xB20, 17, 1, 0, 1, .ro, .none, .c 0, false, false⟩

/-- `TM_BOUNDARY` at 0xB20 [41:18], R207. -/
def TM_BOUNDARY : Field :=
  ⟨.siphon, 0xB20, 18, 24, 0, 1, .ro, .none, .c 0, false, false⟩

/-- `DECAY_EPOCH` at 0xB28 [31:0], R207. -/
def DECAY_EPOCH : Field :=
  ⟨.siphon, 0xB28, 0, 32, 0, 1, .ro, .none, .c 0, true, false⟩

/-- Every field of the page beside its header. -/
def fields : List Field :=
  [AUTO_EN, AUTO_PROMOTE, AUTO_COMPRESS, HOT_THRESH, WARM_THRESH, DECAY_TURNS, CMD_PLOT, CMD_COUNT, CMD_OP, CMD_PEER_SLOT, CMD_PEER_TRACT, CMD_MODE, CMD_TAG, CMD_GO, QUEUE_DEPTH, CMD_REJECTS, LAST_TAG, LAST_RESULT, CMDS_DONE, MOVES_DONE, ABANDONED, HOT_SKIPS, TM_TRACT, TM_ACTIVE, TM_DIR, TM_BOUNDARY, DECAY_EPOCH]

end Sys2Proof.Machine.Reg.Siphon

namespace Sys2Proof.Machine.Reg.Flume

/-- `KEEP_MAX` at 0x100 [5:0], R230. -/
def KEEP_MAX : Field :=
  ⟨.flume, 0x100, 0, 6, 0, 1, .rw, .turn, .c 48, false, false⟩

/-- `ROW_FILL` at 0x108 [0], R230. -/
def ROW_FILL : Field :=
  ⟨.flume, 0x108, 0, 1, 0, 1, .rw, .live, .c 1, false, false⟩

/-- `POOL_FIRST` at 0x110 + 16k [15:0], R230. -/
def POOL_FIRST : Field :=
  ⟨.flume, 0x110, 0, 16, 128, 16, .rw, .turn, .idx (0 :: List.replicate 15 0xFFFF), false, false⟩

/-- `POOL_LAST` at 0x110 + 16k [31:16], R230. -/
def POOL_LAST : Field :=
  ⟨.flume, 0x110, 16, 16, 128, 16, .rw, .turn, .c 0, false, false⟩

/-- `POOL_MAX_FRAMES` at 0x110 + 16k [45:32], R230. -/
def POOL_MAX_FRAMES : Field :=
  ⟨.flume, 0x110, 32, 14, 128, 16, .rw, .turn, .c 0, false, false⟩

/-- `RESERVE_CH` at 0x118 + 16k [19:0], R230. -/
def RESERVE_CH : Field :=
  ⟨.flume, 0x118, 0, 20, 128, 16, .rw, .turn, .c 3072, false, false⟩

/-- `GROW_WATER` at 0x118 + 16k [51:32], R230. -/
def GROW_WATER : Field :=
  ⟨.flume, 0x118, 32, 20, 128, 16, .rw, .turn, .c 8192, false, false⟩

/-- `POOL_STRIPE` at 0x210 [15:0], R230. -/
def POOL_STRIPE : Field :=
  ⟨.flume, 0x210, 0, 16, 0, 1, .rw, .halt, .c 0, false, false⟩

/-- `DIR_SEL` at 0x218 [33:0], R230. -/
def DIR_SEL : Field :=
  ⟨.flume, 0x218, 0, 34, 0, 1, .rw, .live, .c 0, false, false⟩

/-- `CE_BUSY` at 0xB00 [4:0], R230. -/
def CE_BUSY : Field :=
  ⟨.flume, 0xB00, 0, 5, 0, 1, .ro, .none, .c 0, false, false⟩

/-- `DE_BUSY` at 0xB00 [13:8], R230. -/
def DE_BUSY : Field :=
  ⟨.flume, 0xB00, 8, 6, 0, 1, .ro, .none, .c 0, false, false⟩

/-- `REWRITES_WAITING` at 0xB00 [31:16], R230. -/
def REWRITES_WAITING : Field :=
  ⟨.flume, 0xB00, 16, 16, 0, 1, .ro, .none, .c 0, false, false⟩

/-- `PLOTS_COMPRESSED` at 0xB08 [63:0], R230. -/
def PLOTS_COMPRESSED : Field :=
  ⟨.flume, 0xB08, 0, 64, 0, 1, .ro, .none, .c 0, false, true⟩

/-- `INCOMPRESSIBLE` at 0xB10 [31:0], R230. -/
def INCOMPRESSIBLE : Field :=
  ⟨.flume, 0xB10, 0, 32, 0, 1, .ro, .none, .c 0, false, true⟩

/-- `POISON_SKIPS` at 0xB10 [63:32], R230. -/
def POISON_SKIPS : Field :=
  ⟨.flume, 0xB10, 32, 32, 0, 1, .ro, .none, .c 0, false, true⟩

/-- `ROWS_DECODED` at 0xB18 [63:0], R230. -/
def ROWS_DECODED : Field :=
  ⟨.flume, 0xB18, 0, 64, 0, 1, .ro, .none, .c 0, false, true⟩

/-- `RW_INPLACE` at 0xB20 [31:0], R230. -/
def RW_INPLACE : Field :=
  ⟨.flume, 0xB20, 0, 32, 0, 1, .ro, .none, .c 0, true, true⟩

/-- `RW_MOVED` at 0xB20 [63:32], R230. -/
def RW_MOVED : Field :=
  ⟨.flume, 0xB20, 32, 32, 0, 1, .ro, .none, .c 0, true, true⟩

/-- `EXPANSIONS` at 0xB28 [31:0], R230. -/
def EXPANSIONS : Field :=
  ⟨.flume, 0xB28, 0, 32, 0, 1, .ro, .none, .c 0, false, true⟩

/-- `DRY_EXPANSIONS` at 0xB28 [63:32], R230. -/
def DRY_EXPANSIONS : Field :=
  ⟨.flume, 0xB28, 32, 32, 0, 1, .ro, .none, .c 0, false, true⟩

/-- `ROW_CHECK_FAILS` at 0xB30 [31:0], R230. -/
def ROW_CHECK_FAILS : Field :=
  ⟨.flume, 0xB30, 0, 32, 0, 1, .ro, .none, .c 0, false, true⟩

/-- `FORMAT_ERRS` at 0xB30 [63:32], R230. -/
def FORMAT_ERRS : Field :=
  ⟨.flume, 0xB30, 32, 32, 0, 1, .ro, .none, .c 0, false, true⟩

/-- `DIR_HITS` at 0xB38 [63:0], R230. -/
def DIR_HITS : Field :=
  ⟨.flume, 0xB38, 0, 64, 0, 1, .ro, .none, .c 0, false, true⟩

/-- `DIR_MISSES` at 0xB40 [63:0], R230. -/
def DIR_MISSES : Field :=
  ⟨.flume, 0xB40, 0, 64, 0, 1, .ro, .none, .c 0, false, true⟩

/-- `DIR_COPY_FETCHES` at 0xB48 [31:0], R230. -/
def DIR_COPY_FETCHES : Field :=
  ⟨.flume, 0xB48, 0, 32, 0, 1, .ro, .none, .c 0, false, true⟩

/-- `DIR_LOST` at 0xB48 [63:32], R230. -/
def DIR_LOST : Field :=
  ⟨.flume, 0xB48, 32, 32, 0, 1, .ro, .none, .c 0, false, true⟩

/-- `DE_WAIT_PEAK_NS` at 0xB50 [15:0], R230. -/
def DE_WAIT_PEAK_NS : Field :=
  ⟨.flume, 0xB50, 0, 16, 0, 1, .ro, .none, .c 0, false, true⟩

/-- `C_PLOTS` at 0xB58 [34:0], R230. -/
def C_PLOTS : Field :=
  ⟨.flume, 0xB58, 0, 35, 0, 1, .ro, .none, .c 0, false, false⟩

/-- `C_SECTORS` at 0xB60 [38:0], R230. -/
def C_SECTORS : Field :=
  ⟨.flume, 0xB60, 0, 39, 0, 1, .ro, .none, .c 0, false, false⟩

/-- `DV_W0` at 0xB68 [63:0], R230. -/
def DV_W0 : Field :=
  ⟨.flume, 0xB68, 0, 64, 0, 1, .ro, .none, .c 0, false, false⟩

/-- `DV_W1` at 0xB70 [63:0], R230. -/
def DV_W1 : Field :=
  ⟨.flume, 0xB70, 0, 64, 0, 1, .ro, .none, .c 0, false, false⟩

/-- `FREE_SECT` at 0xC00 + 16k [37:0], R230. -/
def FREE_SECT : Field :=
  ⟨.flume, 0xC00, 0, 38, 128, 16, .ro, .none, .c 0, false, false⟩

/-- `POOL_STATE` at 0xC00 + 16k [39:38], R230. -/
def POOL_STATE : Field :=
  ⟨.flume, 0xC00, 38, 2, 128, 16, .ro, .none, .c 0, false, false⟩

/-- `DRY` at 0xC00 + 16k [40], R230. -/
def DRY : Field :=
  ⟨.flume, 0xC00, 40, 1, 128, 16, .ro, .none, .c 0, false, false⟩

/-- `FRAMES` at 0xC00 + 16k [54:41], R230. -/
def FRAMES : Field :=
  ⟨.flume, 0xC00, 41, 14, 128, 16, .ro, .none, .c 0, false, false⟩

/-- `FREE_CHUNKS` at 0xC08 + 16k [31:0], R230. -/
def FREE_CHUNKS : Field :=
  ⟨.flume, 0xC08, 0, 32, 128, 16, .ro, .none, .c 0, false, false⟩

/-- `POOL_PLOTS` at 0xC08 + 16k [63:32], R230. -/
def POOL_PLOTS : Field :=
  ⟨.flume, 0xC08, 32, 32, 128, 16, .ro, .none, .c 0, false, false⟩

/-- Every field of the page beside its header. -/
def fields : List Field :=
  [KEEP_MAX, ROW_FILL, POOL_FIRST, POOL_LAST, POOL_MAX_FRAMES, RESERVE_CH, GROW_WATER, POOL_STRIPE, DIR_SEL, CE_BUSY, DE_BUSY, REWRITES_WAITING, PLOTS_COMPRESSED, INCOMPRESSIBLE, POISON_SKIPS, ROWS_DECODED, RW_INPLACE, RW_MOVED, EXPANSIONS, DRY_EXPANSIONS, ROW_CHECK_FAILS, FORMAT_ERRS, DIR_HITS, DIR_MISSES, DIR_COPY_FETCHES, DIR_LOST, DE_WAIT_PEAK_NS, C_PLOTS, C_SECTORS, DV_W0, DV_W1, FREE_SECT, POOL_STATE, DRY, FRAMES, FREE_CHUNKS, POOL_PLOTS]

end Sys2Proof.Machine.Reg.Flume
end

