-- ==== Sys2Proof/Machine/RegsB.lean ====
section
/-! DEFINITION. The register fields of the pages Levee to Mailbox, one definition a field, as the register tables of the
spec give them: byte offset, least significant bit, width, stride in bits and count of an indexed field, access,
attribute, Reset value, whether the counter wraps, and whether SOFT_CLEAR clears it (R26 to R29, R535). -/

namespace Sys2Proof.Machine.Reg.Levee

/-- `REPAIR_EN` at 0x100 [0], R264. -/
def REPAIR_EN : Field :=
  ⟨.levee, 0x100, 0, 1, 0, 1, .rw, .live, .c 1, false, false⟩

/-- `REPAIR_TURNS` at 0x100 [11:8], R264. -/
def REPAIR_TURNS : Field :=
  ⟨.levee, 0x100, 8, 4, 0, 1, .rw, .live, .c 2, false, false⟩

/-- `MB_SEL` at 0x108 [11:0], R264. -/
def MB_SEL : Field :=
  ⟨.levee, 0x108, 0, 12, 0, 1, .rw, .live, .c 0, false, false⟩

/-- `PREC_SEL` at 0x108 [23:16], R264. -/
def PREC_SEL : Field :=
  ⟨.levee, 0x108, 16, 8, 0, 1, .rw, .live, .c 0, false, false⟩

/-- `FLIP_EN` at 0x110 [0], R264. -/
def FLIP_EN : Field :=
  ⟨.levee, 0x110, 0, 1, 0, 1, .rwl, .live, .c 0, false, false⟩

/-- `FLIP_ARM` at 0x110 [1], R264. -/
def FLIP_ARM : Field :=
  ⟨.levee, 0x110, 1, 1, 0, 1, .wo, .live, .c 0, false, false⟩

/-- `FLIP_DISARM` at 0x110 [2], R264. -/
def FLIP_DISARM : Field :=
  ⟨.levee, 0x110, 2, 1, 0, 1, .wo, .live, .c 0, false, false⟩

/-- `FLIP_MODE` at 0x110 [4:3], R264. -/
def FLIP_MODE : Field :=
  ⟨.levee, 0x110, 3, 2, 0, 1, .rw, .live, .c 0, false, false⟩

/-- `FLIP_SIDE` at 0x110 [5], R264. -/
def FLIP_SIDE : Field :=
  ⟨.levee, 0x110, 5, 1, 0, 1, .rw, .live, .c 0, false, false⟩

/-- `FLIP_SCOPE` at 0x110 [6], R264. -/
def FLIP_SCOPE : Field :=
  ⟨.levee, 0x110, 6, 1, 0, 1, .rw, .live, .c 0, false, false⟩

/-- `FLIP_PL` at 0x110 [7], R264. -/
def FLIP_PL : Field :=
  ⟨.levee, 0x110, 7, 1, 0, 1, .rw, .live, .c 0, false, false⟩

/-- `FLIP_CANAL` at 0x110 [11:8], R264. -/
def FLIP_CANAL : Field :=
  ⟨.levee, 0x110, 8, 4, 0, 1, .rw, .live, .c 0, false, false⟩

/-- `FLIP_COUNT` at 0x110 [31:24], R264. -/
def FLIP_COUNT : Field :=
  ⟨.levee, 0x110, 24, 8, 0, 1, .rw, .live, .c 1, false, false⟩

/-- `FLIP_LINE` at 0x118 [39:0], R264. -/
def FLIP_LINE : Field :=
  ⟨.levee, 0x118, 0, 40, 0, 1, .rw, .live, .c 0, false, false⟩

/-- `FLIP_D` at 0x120 + 8k [63:0], R264. -/
def FLIP_D : Field :=
  ⟨.levee, 0x120, 0, 64, 64, 8, .rw, .live, .c 0, false, false⟩

/-- `FLIP_M0` at 0x160 [63:0], R264. -/
def FLIP_M0 : Field :=
  ⟨.levee, 0x160, 0, 64, 0, 1, .rw, .live, .c 0, false, false⟩

/-- `FLIP_M1` at 0x168 [63:0], R264. -/
def FLIP_M1 : Field :=
  ⟨.levee, 0x168, 0, 64, 0, 1, .rw, .live, .c 0, false, false⟩

/-- `MB_USED` at 0xB00 [12:0], R264. -/
def MB_USED : Field :=
  ⟨.levee, 0xB00, 0, 13, 0, 1, .ro, .none, .c 0, false, false⟩

/-- `MB_PEAK` at 0xB00 [28:16], R264. -/
def MB_PEAK : Field :=
  ⟨.levee, 0xB00, 16, 13, 0, 1, .ro, .none, .c 0, false, true⟩

/-- `MB_FETCH` at 0xB00 [44:32], R264. -/
def MB_FETCH : Field :=
  ⟨.levee, 0xB00, 32, 13, 0, 1, .ro, .none, .c 0, false, false⟩

/-- `MB_DRAIN` at 0xB00 [60:48], R264. -/
def MB_DRAIN : Field :=
  ⟨.levee, 0xB00, 48, 13, 0, 1, .ro, .none, .c 0, false, false⟩

/-- `LINE_CHECKS_FAILED` at 0xB08 [63:0], R264. -/
def LINE_CHECKS_FAILED : Field :=
  ⟨.levee, 0xB08, 0, 64, 0, 1, .ro, .none, .c 0, false, true⟩

/-- `MAC_FAILS` at 0xB10 [31:0], R264. -/
def MAC_FAILS : Field :=
  ⟨.levee, 0xB10, 0, 32, 0, 1, .ro, .none, .c 0, false, true⟩

/-- `INTERNAL_FAILS` at 0xB10 [63:32], R264. -/
def INTERNAL_FAILS : Field :=
  ⟨.levee, 0xB10, 32, 32, 0, 1, .ro, .none, .c 0, false, true⟩

/-- `REREAD_OK` at 0xB18 [31:0], R264. -/
def REREAD_OK : Field :=
  ⟨.levee, 0xB18, 0, 32, 0, 1, .ro, .none, .c 0, false, true⟩

/-- `CISTERN_OK` at 0xB18 [63:32], R264. -/
def CISTERN_OK : Field :=
  ⟨.levee, 0xB18, 32, 32, 0, 1, .ro, .none, .c 0, false, true⟩

/-- `TWIN_OK` at 0xB20 [31:0], R264. -/
def TWIN_OK : Field :=
  ⟨.levee, 0xB20, 0, 32, 0, 1, .ro, .none, .c 0, false, true⟩

/-- `STRIPE_OK` at 0xB20 [63:32], R264. -/
def STRIPE_OK : Field :=
  ⟨.levee, 0xB20, 32, 32, 0, 1, .ro, .none, .c 0, false, true⟩

/-- `CHAIN_POISONED` at 0xB28 [31:0], R264. -/
def CHAIN_POISONED : Field :=
  ⟨.levee, 0xB28, 0, 32, 0, 1, .ro, .none, .c 0, false, true⟩

/-- `CHAIN_LATE` at 0xB28 [63:32], R264. -/
def CHAIN_LATE : Field :=
  ⟨.levee, 0xB28, 32, 32, 0, 1, .ro, .none, .c 0, false, true⟩

/-- `PARTIAL_POISONED` at 0xB30 [31:0], R264. -/
def PARTIAL_POISONED : Field :=
  ⟨.levee, 0xB30, 0, 32, 0, 1, .ro, .none, .c 0, false, true⟩

/-- `POISON_READS` at 0xB30 [63:32], R264. -/
def POISON_READS : Field :=
  ⟨.levee, 0xB30, 32, 32, 0, 1, .ro, .none, .c 0, false, true⟩

/-- `REPAIRS` at 0xB38 [31:0], R264. -/
def REPAIRS : Field :=
  ⟨.levee, 0xB38, 0, 32, 0, 1, .ro, .none, .c 0, false, true⟩

/-- `REPAIRS_DROPPED` at 0xB38 [63:32], R264. -/
def REPAIRS_DROPPED : Field :=
  ⟨.levee, 0xB38, 32, 32, 0, 1, .ro, .none, .c 0, false, true⟩

/-- `RMW_RECON` at 0xB40 [31:0], R264. -/
def RMW_RECON : Field :=
  ⟨.levee, 0xB40, 0, 32, 0, 1, .ro, .none, .c 0, false, true⟩

/-- `STRIPE_UNPROT` at 0xB40 [63:32], R264. -/
def STRIPE_UNPROT : Field :=
  ⟨.levee, 0xB40, 32, 32, 0, 1, .ro, .none, .c 0, false, true⟩

/-- `LAST_FAIL_LINE` at 0xB48 [39:0], R264. -/
def LAST_FAIL_LINE : Field :=
  ⟨.levee, 0xB48, 0, 40, 0, 1, .ro, .none, .c 0, false, false⟩

/-- `LAST_FAIL_CANAL` at 0xB48 [43:40], R264. -/
def LAST_FAIL_CANAL : Field :=
  ⟨.levee, 0xB48, 40, 4, 0, 1, .ro, .none, .c 0, false, false⟩

/-- `LAST_FAIL_STEP` at 0xB48 [46:44], R264. -/
def LAST_FAIL_STEP : Field :=
  ⟨.levee, 0xB48, 44, 3, 0, 1, .ro, .none, .c 0, false, false⟩

/-- `LAST_FAIL_MAC` at 0xB48 [47], R264. -/
def LAST_FAIL_MAC : Field :=
  ⟨.levee, 0xB48, 47, 1, 0, 1, .ro, .none, .c 0, false, false⟩

/-- `LAST_FAIL_TIDE` at 0xB50 [63:0], R264. -/
def LAST_FAIL_TIDE : Field :=
  ⟨.levee, 0xB50, 0, 64, 0, 1, .ro, .none, .c 0, false, false⟩

/-- `PREC_COUNT` at 0xB58 [8:0], R264. -/
def PREC_COUNT : Field :=
  ⟨.levee, 0xB58, 0, 9, 0, 1, .ro, .none, .c 0, false, false⟩

/-- `PREC_OVF` at 0xB58 [9], R264. -/
def PREC_OVF : Field :=
  ⟨.levee, 0xB58, 9, 1, 0, 1, .ro, .none, .c 0, false, false⟩

/-- `PV_LINE` at 0xB60 [39:0], R264. -/
def PV_LINE : Field :=
  ⟨.levee, 0xB60, 0, 40, 0, 1, .ro, .none, .c 0, false, false⟩

/-- `PV_CAUSE` at 0xB60 [42:40], R264. -/
def PV_CAUSE : Field :=
  ⟨.levee, 0xB60, 40, 3, 0, 1, .ro, .none, .c 0, false, false⟩

/-- `PV_TIDE` at 0xB68 [63:0], R264. -/
def PV_TIDE : Field :=
  ⟨.levee, 0xB68, 0, 64, 0, 1, .ro, .none, .c 0, false, false⟩

/-- `FLIP_LEFT` at 0xB70 [7:0], R264. -/
def FLIP_LEFT : Field :=
  ⟨.levee, 0xB70, 0, 8, 0, 1, .ro, .none, .c 0, false, false⟩

/-- `FLIP_ARMED` at 0xB70 [8], R264. -/
def FLIP_ARMED : Field :=
  ⟨.levee, 0xB70, 8, 1, 0, 1, .ro, .none, .c 0, false, false⟩

/-- `FLIP_HITS` at 0xB70 [63:32], R264. -/
def FLIP_HITS : Field :=
  ⟨.levee, 0xB70, 32, 32, 0, 1, .ro, .none, .c 0, false, true⟩

/-- `MV_STATE` at 0xB78 [2:0], R264. -/
def MV_STATE : Field :=
  ⟨.levee, 0xB78, 0, 3, 0, 1, .ro, .none, .c 0, false, false⟩

/-- `MV_PARTIAL` at 0xB78 [3], R264. -/
def MV_PARTIAL : Field :=
  ⟨.levee, 0xB78, 3, 1, 0, 1, .ro, .none, .c 0, false, false⟩

/-- `MV_STRIPE` at 0xB78 [4], R264. -/
def MV_STRIPE : Field :=
  ⟨.levee, 0xB78, 4, 1, 0, 1, .ro, .none, .c 0, false, false⟩

/-- `MV_RESERVED_CLASS` at 0xB78 [5], R264. -/
def MV_RESERVED_CLASS : Field :=
  ⟨.levee, 0xB78, 5, 1, 0, 1, .ro, .none, .c 0, false, false⟩

/-- `MV_ALLOT` at 0xB78 [9:6], R264. -/
def MV_ALLOT : Field :=
  ⟨.levee, 0xB78, 6, 4, 0, 1, .ro, .none, .c 0, false, false⟩

/-- `MV_WRITES` at 0xB78 [31:16], R264. -/
def MV_WRITES : Field :=
  ⟨.levee, 0xB78, 16, 16, 0, 1, .ro, .none, .c 0, false, false⟩

/-- `MV_ACCEPT` at 0xB78 [63:32], R264. -/
def MV_ACCEPT : Field :=
  ⟨.levee, 0xB78, 32, 32, 0, 1, .ro, .none, .c 0, false, false⟩

/-- `MV_LINE` at 0xB80 [39:0], R264. -/
def MV_LINE : Field :=
  ⟨.levee, 0xB80, 0, 40, 0, 1, .ro, .none, .c 0, false, false⟩

/-- `MV_MASK` at 0xB88 [63:0], R264. -/
def MV_MASK : Field :=
  ⟨.levee, 0xB88, 0, 64, 0, 1, .ro, .none, .c 0, false, false⟩

/-- `CANAL_FAILS` at 0xC00 + 8c [31:0], R264. -/
def CANAL_FAILS : Field :=
  ⟨.levee, 0xC00, 0, 32, 64, 16, .ro, .none, .c 0, false, true⟩

/-- `CANAL_RECOVERED` at 0xC00 + 8c [63:32], R264. -/
def CANAL_RECOVERED : Field :=
  ⟨.levee, 0xC00, 32, 32, 64, 16, .ro, .none, .c 0, false, true⟩

/-- Every field of the page beside its header. -/
def fields : List Field :=
  [REPAIR_EN, REPAIR_TURNS, MB_SEL, PREC_SEL, FLIP_EN, FLIP_ARM, FLIP_DISARM, FLIP_MODE, FLIP_SIDE, FLIP_SCOPE, FLIP_PL, FLIP_CANAL, FLIP_COUNT, FLIP_LINE, FLIP_D, FLIP_M0, FLIP_M1, MB_USED, MB_PEAK, MB_FETCH, MB_DRAIN, LINE_CHECKS_FAILED, MAC_FAILS, INTERNAL_FAILS, REREAD_OK, CISTERN_OK, TWIN_OK, STRIPE_OK, CHAIN_POISONED, CHAIN_LATE, PARTIAL_POISONED, POISON_READS, REPAIRS, REPAIRS_DROPPED, RMW_RECON, STRIPE_UNPROT, LAST_FAIL_LINE, LAST_FAIL_CANAL, LAST_FAIL_STEP, LAST_FAIL_MAC] ++
  [LAST_FAIL_TIDE, PREC_COUNT, PREC_OVF, PV_LINE, PV_CAUSE, PV_TIDE, FLIP_LEFT, FLIP_ARMED, FLIP_HITS, MV_STATE, MV_PARTIAL, MV_STRIPE, MV_RESERVED_CLASS, MV_ALLOT, MV_WRITES, MV_ACCEPT, MV_LINE, MV_MASK, CANAL_FAILS, CANAL_RECOVERED]

end Sys2Proof.Machine.Reg.Levee

namespace Sys2Proof.Machine.Reg.Furrow

/-- `PARITY_CHECK` at 0x100 [0], R266. -/
def PARITY_CHECK : Field :=
  ⟨.furrow, 0x100, 0, 1, 0, 1, .rw, .live, .c 0, false, false⟩

/-- `CONTINUOUS` at 0x100 [1], R266. -/
def CONTINUOUS : Field :=
  ⟨.furrow, 0x100, 1, 1, 0, 1, .rw, .live, .c 0, false, false⟩

/-- `TABLES` at 0x100 [2], R266. -/
def TABLES : Field :=
  ⟨.furrow, 0x100, 2, 1, 0, 1, .rw, .live, .c 0, false, false⟩

/-- `PASS_TAG` at 0x100 [47:32], R266. -/
def PASS_TAG : Field :=
  ⟨.furrow, 0x100, 32, 16, 0, 1, .rw, .live, .c 0, false, false⟩

/-- `PASS_STOP` at 0x100 [62], R266. -/
def PASS_STOP : Field :=
  ⟨.furrow, 0x100, 62, 1, 0, 1, .wo, .live, .c 0, false, false⟩

/-- `PASS_GO` at 0x100 [63], R266. -/
def PASS_GO : Field :=
  ⟨.furrow, 0x100, 63, 1, 0, 1, .wo, .live, .c 0, false, false⟩

/-- `START_LINE` at 0x108 [39:0], R266. -/
def START_LINE : Field :=
  ⟨.furrow, 0x108, 0, 40, 0, 1, .rw, .live, .c 0, false, false⟩

/-- `END_LINE` at 0x110 [39:0], R266. -/
def END_LINE : Field :=
  ⟨.furrow, 0x110, 0, 40, 0, 1, .rw, .live, .c 0, false, false⟩

/-- `RATE_LINES` at 0x118 [19:0], R266. -/
def RATE_LINES : Field :=
  ⟨.furrow, 0x118, 0, 20, 0, 1, .rw, .live, .c 0, false, false⟩

/-- `STEP_US` at 0x118 [41:32], R266. -/
def STEP_US : Field :=
  ⟨.furrow, 0x118, 32, 10, 0, 1, .rw, .live, .c 16, false, false⟩

/-- `POSITION` at 0xB00 [39:0], R266. -/
def POSITION : Field :=
  ⟨.furrow, 0xB00, 0, 40, 0, 1, .ro, .none, .c 0, false, false⟩

/-- `RETRY_USED` at 0xB00 [50:40], R266. -/
def RETRY_USED : Field :=
  ⟨.furrow, 0xB00, 40, 11, 0, 1, .ro, .none, .c 0, false, false⟩

/-- `PASSES` at 0xB08 [31:0], R266. -/
def PASSES : Field :=
  ⟨.furrow, 0xB08, 0, 32, 0, 1, .ro, .none, .c 0, true, false⟩

/-- `LAST_TAG` at 0xB08 [47:32], R266. -/
def LAST_TAG : Field :=
  ⟨.furrow, 0xB08, 32, 16, 0, 1, .ro, .none, .c 0, false, false⟩

/-- `LAST_RESULT` at 0xB08 [50:48], R266. -/
def LAST_RESULT : Field :=
  ⟨.furrow, 0xB08, 48, 3, 0, 1, .ro, .none, .c 0, false, false⟩

/-- `LINES_READ` at 0xB10 [63:0], R266. -/
def LINES_READ : Field :=
  ⟨.furrow, 0xB10, 0, 64, 0, 1, .ro, .none, .c 0, false, false⟩

/-- `LAST_PASS_LINES_READ` at 0xB10 [63:0] + 0x100, R266. -/
def LAST_PASS_LINES_READ : Field :=
  ⟨.furrow, 0xC10, 0, 64, 0, 1, .ro, .none, .c 0, false, true⟩

/-- `NOT_STORED` at 0xB18 [31:0], R266. -/
def NOT_STORED : Field :=
  ⟨.furrow, 0xB18, 0, 32, 0, 1, .ro, .none, .c 0, false, false⟩

/-- `LAST_PASS_NOT_STORED` at 0xB18 [31:0] + 0x100, R266. -/
def LAST_PASS_NOT_STORED : Field :=
  ⟨.furrow, 0xC18, 0, 32, 0, 1, .ro, .none, .c 0, false, true⟩

/-- `BLANK_FOUND` at 0xB18 [63:32], R266. -/
def BLANK_FOUND : Field :=
  ⟨.furrow, 0xB18, 32, 32, 0, 1, .ro, .none, .c 0, false, false⟩

/-- `LAST_PASS_BLANK_FOUND` at 0xB18 [63:32] + 0x100, R266. -/
def LAST_PASS_BLANK_FOUND : Field :=
  ⟨.furrow, 0xC18, 32, 32, 0, 1, .ro, .none, .c 0, false, true⟩

/-- `FOUND_BAD` at 0xB20 [31:0], R266. -/
def FOUND_BAD : Field :=
  ⟨.furrow, 0xB20, 0, 32, 0, 1, .ro, .none, .c 0, false, false⟩

/-- `LAST_PASS_FOUND_BAD` at 0xB20 [31:0] + 0x100, R266. -/
def LAST_PASS_FOUND_BAD : Field :=
  ⟨.furrow, 0xC20, 0, 32, 0, 1, .ro, .none, .c 0, false, true⟩

/-- `FIXED_REREAD` at 0xB20 [63:32], R266. -/
def FIXED_REREAD : Field :=
  ⟨.furrow, 0xB20, 32, 32, 0, 1, .ro, .none, .c 0, false, false⟩

/-- `LAST_PASS_FIXED_REREAD` at 0xB20 [63:32] + 0x100, R266. -/
def LAST_PASS_FIXED_REREAD : Field :=
  ⟨.furrow, 0xC20, 32, 32, 0, 1, .ro, .none, .c 0, false, true⟩

/-- `FIXED_CISTERN` at 0xB28 [31:0], R266. -/
def FIXED_CISTERN : Field :=
  ⟨.furrow, 0xB28, 0, 32, 0, 1, .ro, .none, .c 0, false, false⟩

/-- `LAST_PASS_FIXED_CISTERN` at 0xB28 [31:0] + 0x100, R266. -/
def LAST_PASS_FIXED_CISTERN : Field :=
  ⟨.furrow, 0xC28, 0, 32, 0, 1, .ro, .none, .c 0, false, true⟩

/-- `FIXED_TWIN` at 0xB28 [63:32], R266. -/
def FIXED_TWIN : Field :=
  ⟨.furrow, 0xB28, 32, 32, 0, 1, .ro, .none, .c 0, false, false⟩

/-- `LAST_PASS_FIXED_TWIN` at 0xB28 [63:32] + 0x100, R266. -/
def LAST_PASS_FIXED_TWIN : Field :=
  ⟨.furrow, 0xC28, 32, 32, 0, 1, .ro, .none, .c 0, false, true⟩

/-- `FIXED_STRIPE` at 0xB30 [31:0], R266. -/
def FIXED_STRIPE : Field :=
  ⟨.furrow, 0xB30, 0, 32, 0, 1, .ro, .none, .c 0, false, false⟩

/-- `LAST_PASS_FIXED_STRIPE` at 0xB30 [31:0] + 0x100, R266. -/
def LAST_PASS_FIXED_STRIPE : Field :=
  ⟨.furrow, 0xC30, 0, 32, 0, 1, .ro, .none, .c 0, false, true⟩

/-- `NEW_POISON` at 0xB30 [63:32], R266. -/
def NEW_POISON : Field :=
  ⟨.furrow, 0xB30, 32, 32, 0, 1, .ro, .none, .c 0, false, false⟩

/-- `LAST_PASS_NEW_POISON` at 0xB30 [63:32] + 0x100, R266. -/
def LAST_PASS_NEW_POISON : Field :=
  ⟨.furrow, 0xC30, 32, 32, 0, 1, .ro, .none, .c 0, false, true⟩

/-- `OLD_POISON` at 0xB38 [31:0], R266. -/
def OLD_POISON : Field :=
  ⟨.furrow, 0xB38, 0, 32, 0, 1, .ro, .none, .c 0, false, false⟩

/-- `LAST_PASS_OLD_POISON` at 0xB38 [31:0] + 0x100, R266. -/
def LAST_PASS_OLD_POISON : Field :=
  ⟨.furrow, 0xC38, 0, 32, 0, 1, .ro, .none, .c 0, false, true⟩

/-- `PARITY_FIXED` at 0xB38 [63:32], R266. -/
def PARITY_FIXED : Field :=
  ⟨.furrow, 0xB38, 32, 32, 0, 1, .ro, .none, .c 0, false, false⟩

/-- `LAST_PASS_PARITY_FIXED` at 0xB38 [63:32] + 0x100, R266. -/
def LAST_PASS_PARITY_FIXED : Field :=
  ⟨.furrow, 0xC38, 32, 32, 0, 1, .ro, .none, .c 0, false, true⟩

/-- `SKIPPED_LATE` at 0xB40 [31:0], R266. -/
def SKIPPED_LATE : Field :=
  ⟨.furrow, 0xB40, 0, 32, 0, 1, .ro, .none, .c 0, false, false⟩

/-- `LAST_PASS_SKIPPED_LATE` at 0xB40 [31:0] + 0x100, R266. -/
def LAST_PASS_SKIPPED_LATE : Field :=
  ⟨.furrow, 0xC40, 0, 32, 0, 1, .ro, .none, .c 0, false, true⟩

/-- `RETRIED` at 0xB40 [63:32], R266. -/
def RETRIED : Field :=
  ⟨.furrow, 0xB40, 32, 32, 0, 1, .ro, .none, .c 0, false, false⟩

/-- `LAST_PASS_RETRIED` at 0xB40 [63:32] + 0x100, R266. -/
def LAST_PASS_RETRIED : Field :=
  ⟨.furrow, 0xC40, 32, 32, 0, 1, .ro, .none, .c 0, false, true⟩

/-- `FIRST_BAD_LINE` at 0xB48 [39:0], R266. -/
def FIRST_BAD_LINE : Field :=
  ⟨.furrow, 0xB48, 0, 40, 0, 1, .ro, .none, .c 0, false, false⟩

/-- `LAST_PASS_FIRST_BAD_LINE` at 0xB48 [39:0] + 0x100, R266. -/
def LAST_PASS_FIRST_BAD_LINE : Field :=
  ⟨.furrow, 0xC48, 0, 40, 0, 1, .ro, .none, .c 0, false, true⟩

/-- `PASS_START_TIDE` at 0xB50 [63:0], R266. -/
def PASS_START_TIDE : Field :=
  ⟨.furrow, 0xB50, 0, 64, 0, 1, .ro, .none, .c 0, false, false⟩

/-- `LAST_PASS_PASS_START_TIDE` at 0xB50 [63:0] + 0x100, R266. -/
def LAST_PASS_PASS_START_TIDE : Field :=
  ⟨.furrow, 0xC50, 0, 64, 0, 1, .ro, .none, .c 0, false, true⟩

/-- `PASS_END_TIDE` at 0xB58 [63:0], R266. -/
def PASS_END_TIDE : Field :=
  ⟨.furrow, 0xB58, 0, 64, 0, 1, .ro, .none, .c 0, false, false⟩

/-- `LAST_PASS_PASS_END_TIDE` at 0xB58 [63:0] + 0x100, R266. -/
def LAST_PASS_PASS_END_TIDE : Field :=
  ⟨.furrow, 0xC58, 0, 64, 0, 1, .ro, .none, .c 0, false, true⟩

/-- Every field of the page beside its header. -/
def fields : List Field :=
  [PARITY_CHECK, CONTINUOUS, TABLES, PASS_TAG, PASS_STOP, PASS_GO, START_LINE, END_LINE, RATE_LINES, STEP_US, POSITION, RETRY_USED, PASSES, LAST_TAG, LAST_RESULT, LINES_READ, LAST_PASS_LINES_READ, NOT_STORED, LAST_PASS_NOT_STORED, BLANK_FOUND, LAST_PASS_BLANK_FOUND, FOUND_BAD, LAST_PASS_FOUND_BAD, FIXED_REREAD, LAST_PASS_FIXED_REREAD, FIXED_CISTERN, LAST_PASS_FIXED_CISTERN, FIXED_TWIN, LAST_PASS_FIXED_TWIN, FIXED_STRIPE, LAST_PASS_FIXED_STRIPE, NEW_POISON, LAST_PASS_NEW_POISON, OLD_POISON, LAST_PASS_OLD_POISON, PARITY_FIXED, LAST_PASS_PARITY_FIXED, SKIPPED_LATE, LAST_PASS_SKIPPED_LATE, RETRIED] ++
  [LAST_PASS_RETRIED, FIRST_BAD_LINE, LAST_PASS_FIRST_BAD_LINE, PASS_START_TIDE, LAST_PASS_PASS_START_TIDE, PASS_END_TIDE, LAST_PASS_PASS_END_TIDE]

end Sys2Proof.Machine.Reg.Furrow

namespace Sys2Proof.Machine.Reg.Canal

/-- `OOS_REQ` at 0x100 [0], R291. -/
def OOS_REQ : Field :=
  ⟨.canal, 0x100, 0, 1, 0, 1, .wo, .live, .c 0, false, false⟩

/-- `OOS_FORCE` at 0x100 [1], R291. -/
def OOS_FORCE : Field :=
  ⟨.canal, 0x100, 1, 1, 0, 1, .rw, .live, .c 0, false, false⟩

/-- `PAIR` at 0x100 [2], R291. -/
def PAIR : Field :=
  ⟨.canal, 0x100, 2, 1, 0, 1, .rw, .live, .c 0, false, false⟩

/-- `RETURN_GO` at 0x100 [3], R291. -/
def RETURN_GO : Field :=
  ⟨.canal, 0x100, 3, 1, 0, 1, .wo, .live, .c 0, false, false⟩

/-- `AUTO_OPEN_NS` at 0x108 [7:0], R291. -/
def AUTO_OPEN_NS : Field :=
  ⟨.canal, 0x108, 0, 8, 0, 1, .rw, .live, .c 40, false, false⟩

/-- `OPEN_MAX_US` at 0x108 [15:8], R291. -/
def OPEN_MAX_US : Field :=
  ⟨.canal, 0x108, 8, 8, 0, 1, .rw, .live, .c 2, false, false⟩

/-- `HIT_BYPASS` at 0x108 [18:16], R291. -/
def HIT_BYPASS : Field :=
  ⟨.canal, 0x108, 16, 3, 0, 1, .rw, .live, .c 2, false, false⟩

/-- `WR_BATCH` at 0x108 [29:24], R291. -/
def WR_BATCH : Field :=
  ⟨.canal, 0x108, 24, 6, 0, 1, .rw, .live, .c 16, false, false⟩

/-- `REF_POSTPONE` at 0x110 [3:0], R291. -/
def REF_POSTPONE : Field :=
  ⟨.canal, 0x110, 0, 4, 0, 1, .rw, .turn, .c 8, false, false⟩

/-- `CAPAR_LIMIT` at 0x118 [7:0], R291. -/
def CAPAR_LIMIT : Field :=
  ⟨.canal, 0x118, 0, 8, 0, 1, .rw, .live, .c 8, false, false⟩

/-- `FAIL_LIMIT` at 0x118 [31:16], R291. -/
def FAIL_LIMIT : Field :=
  ⟨.canal, 0x118, 16, 16, 0, 1, .rw, .live, .c 1000, false, false⟩

/-- `FAIL_OOS` at 0x118 [32], R291. -/
def FAIL_OOS : Field :=
  ⟨.canal, 0x118, 32, 1, 0, 1, .rw, .live, .c 0, false, false⟩

/-- `THERM_TRIP_C` at 0x118 [47:40], R291. -/
def THERM_TRIP_C : Field :=
  ⟨.canal, 0x118, 40, 8, 0, 1, .rw, .live, .c 95, false, false⟩

/-- `THERM_OOS` at 0x118 [48], R291. -/
def THERM_OOS : Field :=
  ⟨.canal, 0x118, 48, 1, 0, 1, .rw, .live, .c 0, false, false⟩

/-- `SPD_SLOT` at 0x120 [0], R291. -/
def SPD_SLOT : Field :=
  ⟨.canal, 0x120, 0, 1, 0, 1, .rw, .live, .c 0, false, false⟩

/-- `SPD_OFFSET` at 0x120 [17:8], R291. -/
def SPD_OFFSET : Field :=
  ⟨.canal, 0x120, 8, 10, 0, 1, .rw, .live, .c 0, false, false⟩

/-- `RISER_PG` at 0xB00 [0], R291. -/
def RISER_PG : Field :=
  ⟨.canal, 0xB00, 0, 1, 0, 1, .ro, .none, .c 0, false, false⟩

/-- `DIMMS_PRESENT` at 0xB00 [2:1], R291. -/
def DIMMS_PRESENT : Field :=
  ⟨.canal, 0xB00, 1, 2, 0, 1, .ro, .none, .c 0, false, false⟩

/-- `POP_MATCH` at 0xB00 [3], R291. -/
def POP_MATCH : Field :=
  ⟨.canal, 0xB00, 3, 1, 0, 1, .ro, .none, .c 0, false, false⟩

/-- `RISER_POS` at 0xB00 [6:4], R291. -/
def RISER_POS : Field :=
  ⟨.canal, 0xB00, 4, 3, 0, 1, .ro, .none, .inst [0, 0, 1, 1, 2, 2, 3, 3, 4, 4, 5, 5, 6, 6, 7, 7], false, false⟩

/-- `RATE_MTS` at 0xB00 [23:8], R291. -/
def RATE_MTS : Field :=
  ⟨.canal, 0xB00, 8, 16, 0, 1, .ro, .none, .c 0, false, false⟩

/-- `OOS_CAUSE` at 0xB00 [27:24], R291. -/
def OOS_CAUSE : Field :=
  ⟨.canal, 0xB00, 24, 4, 0, 1, .ro, .none, .c 0, false, false⟩

/-- `TRAIN_FAIL` at 0xB00 [35:32], R291. -/
def TRAIN_FAIL : Field :=
  ⟨.canal, 0xB00, 32, 4, 0, 1, .ro, .none, .c 0, false, false⟩

/-- `DIMM_GB` at 0xB08 [15:0], R291. -/
def DIMM_GB : Field :=
  ⟨.canal, 0xB08, 0, 16, 0, 1, .ro, .none, .c 0, false, false⟩

/-- `PKG_RANKS` at 0xB08 [19:16], R291. -/
def PKG_RANKS : Field :=
  ⟨.canal, 0xB08, 16, 4, 0, 1, .ro, .none, .c 0, false, false⟩

/-- `LOG_RANKS` at 0xB08 [23:20], R291. -/
def LOG_RANKS : Field :=
  ⟨.canal, 0xB08, 20, 4, 0, 1, .ro, .none, .c 0, false, false⟩

/-- `DEV_WIDTH` at 0xB08 [27:24], R291. -/
def DEV_WIDTH : Field :=
  ⟨.canal, 0xB08, 24, 4, 0, 1, .ro, .none, .c 0, false, false⟩

/-- `CANAL_GB` at 0xB08 [42:32], R291. -/
def CANAL_GB : Field :=
  ⟨.canal, 0xB08, 32, 11, 0, 1, .ro, .none, .c 0, false, false⟩

/-- `QUEUE_DEPTH` at 0xB10 [9:0], R291. -/
def QUEUE_DEPTH : Field :=
  ⟨.canal, 0xB10, 0, 10, 0, 1, .ro, .none, .c 0, false, false⟩

/-- `QUEUE_PEAK` at 0xB10 [25:16], R291. -/
def QUEUE_PEAK : Field :=
  ⟨.canal, 0xB10, 16, 10, 0, 1, .ro, .none, .c 0, false, true⟩

/-- `OOS_COUNT` at 0xB10 [63:32], R291. -/
def OOS_COUNT : Field :=
  ⟨.canal, 0xB10, 32, 32, 0, 1, .ro, .none, .c 0, false, false⟩

/-- `BOUNDARY` at 0xB18 [33:0], R291. -/
def BOUNDARY : Field :=
  ⟨.canal, 0xB18, 0, 34, 0, 1, .ro, .none, .c 0, false, false⟩

/-- `SRC_TWIN` at 0xB18 [34], R291. -/
def SRC_TWIN : Field :=
  ⟨.canal, 0xB18, 34, 1, 0, 1, .ro, .none, .c 0, false, false⟩

/-- `PHASE` at 0xB18 [35], R291. -/
def PHASE : Field :=
  ⟨.canal, 0xB18, 35, 1, 0, 1, .ro, .none, .c 0, false, false⟩

/-- `LINES_COPIED` at 0xB20 [63:0], R291. -/
def LINES_COPIED : Field :=
  ⟨.canal, 0xB20, 0, 64, 0, 1, .ro, .none, .c 0, false, false⟩

/-- `LINES_SKIPPED` at 0xB28 [63:0], R291. -/
def LINES_SKIPPED : Field :=
  ⟨.canal, 0xB28, 0, 64, 0, 1, .ro, .none, .c 0, false, false⟩

/-- `LINES_LOST` at 0xB30 [63:0], R291. -/
def LINES_LOST : Field :=
  ⟨.canal, 0xB30, 0, 64, 0, 1, .ro, .none, .c 0, false, false⟩

/-- `REF_OWED` at 0xB38 [3:0], R291. -/
def REF_OWED : Field :=
  ⟨.canal, 0xB38, 0, 4, 0, 1, .ro, .none, .c 0, false, false⟩

/-- `REF_2X` at 0xB38 [4], R291. -/
def REF_2X : Field :=
  ⟨.canal, 0xB38, 4, 1, 0, 1, .ro, .none, .c 0, false, false⟩

/-- `REF_BURSTS` at 0xB38 [63:32], R291. -/
def REF_BURSTS : Field :=
  ⟨.canal, 0xB38, 32, 32, 0, 1, .ro, .none, .c 0, true, false⟩

/-- `TEMP0` at 0xB40 [7:0], R291. -/
def TEMP0 : Field :=
  ⟨.canal, 0xB40, 0, 8, 0, 1, .ro, .none, .c 0, false, false⟩

/-- `TEMP1` at 0xB40 [15:8], R291. -/
def TEMP1 : Field :=
  ⟨.canal, 0xB40, 8, 8, 0, 1, .ro, .none, .c 0, false, false⟩

/-- `TEMP_PEAK` at 0xB40 [23:16], R291. -/
def TEMP_PEAK : Field :=
  ⟨.canal, 0xB40, 16, 8, 0, 1, .ro, .none, .c 0, false, true⟩

/-- `CAPAR_ERRS` at 0xB48 [31:0], R291. -/
def CAPAR_ERRS : Field :=
  ⟨.canal, 0xB48, 0, 32, 0, 1, .ro, .none, .c 0, false, true⟩

/-- `CAPAR_STORMS` at 0xB48 [63:32], R291. -/
def CAPAR_STORMS : Field :=
  ⟨.canal, 0xB48, 32, 32, 0, 1, .ro, .none, .c 0, false, true⟩

/-- `LAST_ALERT_TIDE` at 0xB50 [63:0], R291. -/
def LAST_ALERT_TIDE : Field :=
  ⟨.canal, 0xB50, 0, 64, 0, 1, .ro, .none, .c 0, false, false⟩

/-- `ROW_HITS` at 0xB58 [63:0], R291. -/
def ROW_HITS : Field :=
  ⟨.canal, 0xB58, 0, 64, 0, 1, .ro, .none, .c 0, false, true⟩

/-- `ROW_EMPTY` at 0xB60 [63:0], R291. -/
def ROW_EMPTY : Field :=
  ⟨.canal, 0xB60, 0, 64, 0, 1, .ro, .none, .c 0, false, true⟩

/-- `ROW_CONFLICTS` at 0xB68 [63:0], R291. -/
def ROW_CONFLICTS : Field :=
  ⟨.canal, 0xB68, 0, 64, 0, 1, .ro, .none, .c 0, false, true⟩

/-- `RD_LINES` at 0xB70 [63:0], R291. -/
def RD_LINES : Field :=
  ⟨.canal, 0xB70, 0, 64, 0, 1, .ro, .none, .c 0, false, true⟩

/-- `WR_LINES` at 0xB78 [63:0], R291. -/
def WR_LINES : Field :=
  ⟨.canal, 0xB78, 0, 64, 0, 1, .ro, .none, .c 0, false, true⟩

/-- `LOST_WRITES` at 0xB80 [31:0], R291. -/
def LOST_WRITES : Field :=
  ⟨.canal, 0xB80, 0, 32, 0, 1, .ro, .none, .c 0, false, true⟩

/-- `DEGRADED_WRITES` at 0xB80 [63:32], R291. -/
def DEGRADED_WRITES : Field :=
  ⟨.canal, 0xB80, 32, 32, 0, 1, .ro, .none, .c 0, false, true⟩

/-- `TRAIN_MS` at 0xB88 [31:0], R291. -/
def TRAIN_MS : Field :=
  ⟨.canal, 0xB88, 0, 32, 0, 1, .ro, .none, .c 0, false, false⟩

/-- `FILL_MS` at 0xB88 [63:32], R291. -/
def FILL_MS : Field :=
  ⟨.canal, 0xB88, 32, 32, 0, 1, .ro, .none, .c 0, false, false⟩

/-- `SPD_DATA` at 0xB90 [63:0], R291. -/
def SPD_DATA : Field :=
  ⟨.canal, 0xB90, 0, 64, 0, 1, .ro, .none, .c 0, false, false⟩

/-- `CLASS_LINES` at 0xB98 + 8k [63:0], R291. -/
def CLASS_LINES : Field :=
  ⟨.canal, 0xB98, 0, 64, 64, 5, .ro, .none, .c 0, false, true⟩

/-- `OOS_TIDE` at 0xBC0 [63:0], R291. -/
def OOS_TIDE : Field :=
  ⟨.canal, 0xBC0, 0, 64, 0, 1, .ro, .none, .c 0, false, false⟩

/-- `PLOT_BOUNDARY` at 0xBC8 [33:0], R291. -/
def PLOT_BOUNDARY : Field :=
  ⟨.canal, 0xBC8, 0, 34, 0, 1, .ro, .none, .c 0, false, false⟩

/-- Every field of the page beside its header. -/
def fields : List Field :=
  [OOS_REQ, OOS_FORCE, PAIR, RETURN_GO, AUTO_OPEN_NS, OPEN_MAX_US, HIT_BYPASS, WR_BATCH, REF_POSTPONE, CAPAR_LIMIT, FAIL_LIMIT, FAIL_OOS, THERM_TRIP_C, THERM_OOS, SPD_SLOT, SPD_OFFSET, RISER_PG, DIMMS_PRESENT, POP_MATCH, RISER_POS, RATE_MTS, OOS_CAUSE, TRAIN_FAIL, DIMM_GB, PKG_RANKS, LOG_RANKS, DEV_WIDTH, CANAL_GB, QUEUE_DEPTH, QUEUE_PEAK, OOS_COUNT, BOUNDARY, SRC_TWIN, PHASE, LINES_COPIED, LINES_SKIPPED, LINES_LOST, REF_OWED, REF_2X, REF_BURSTS] ++
  [TEMP0, TEMP1, TEMP_PEAK, CAPAR_ERRS, CAPAR_STORMS, LAST_ALERT_TIDE, ROW_HITS, ROW_EMPTY, ROW_CONFLICTS, RD_LINES, WR_LINES, LOST_WRITES, DEGRADED_WRITES, TRAIN_MS, FILL_MS, SPD_DATA, CLASS_LINES, OOS_TIDE, PLOT_BOUNDARY]

end Sys2Proof.Machine.Reg.Canal

namespace Sys2Proof.Machine.Reg.Crypto

/-- `KEY_DATA` at 0x100 + 8w [63:0], R318. -/
def KEY_DATA : Field :=
  ⟨.crypto, 0x100, 0, 64, 64, 12, .wo, .live, .c 0, false, false⟩

/-- `CMD_SLOT` at 0x160 [5:0], R318. -/
def CMD_SLOT : Field :=
  ⟨.crypto, 0x160, 0, 6, 0, 1, .rw, .live, .c 0, false, false⟩

/-- `CMD_OP` at 0x160 [7:6], R318. -/
def CMD_OP : Field :=
  ⟨.crypto, 0x160, 6, 2, 0, 1, .rw, .live, .c 0, false, false⟩

/-- `CMD_LOCK` at 0x160 [8], R318. -/
def CMD_LOCK : Field :=
  ⟨.crypto, 0x160, 8, 1, 0, 1, .rw, .live, .c 0, false, false⟩

/-- `CMD_GO` at 0x160 [63], R318. -/
def CMD_GO : Field :=
  ⟨.crypto, 0x160, 63, 1, 0, 1, .wo, .live, .c 0, false, false⟩

/-- `PORT_KEY` at 0x168 [3:0], R318. -/
def PORT_KEY : Field :=
  ⟨.crypto, 0x168, 0, 4, 0, 1, .rwl, .live, .c 0, false, false⟩

/-- `BMC_KEY` at 0x168 [4], R318. -/
def BMC_KEY : Field :=
  ⟨.crypto, 0x168, 4, 1, 0, 1, .rwl, .live, .c 1, false, false⟩

/-- `ZERO_MODE` at 0x170 [1:0], R318. -/
def ZERO_MODE : Field :=
  ⟨.crypto, 0x170, 0, 2, 0, 1, .rwl, .live, .c 0, false, false⟩

/-- `ZERO_THRESH` at 0x170 [15:8], R318. -/
def ZERO_THRESH : Field :=
  ⟨.crypto, 0x170, 8, 8, 0, 1, .rwl, .live, .c 16, false, false⟩

/-- `ZERO_WINDOW_MS` at 0x170 [31:16], R318. -/
def ZERO_WINDOW_MS : Field :=
  ⟨.crypto, 0x170, 16, 16, 0, 1, .rwl, .live, .c 1000, false, false⟩

/-- `ALARM_EN` at 0x178 [4:0], R318. -/
def ALARM_EN : Field :=
  ⟨.crypto, 0x178, 0, 5, 0, 1, .rwl, .live, .c 31, false, false⟩

/-- `SLOT_SEL` at 0x180 [5:0], R318. -/
def SLOT_SEL : Field :=
  ⟨.crypto, 0x180, 0, 6, 0, 1, .rw, .live, .c 0, false, false⟩

/-- `SLOT_VALID` at 0xB00 [63:0], R318. -/
def SLOT_VALID : Field :=
  ⟨.crypto, 0xB00, 0, 64, 0, 1, .ro, .none, .c 1, false, false⟩

/-- `SLOT_LOCKED` at 0xB08 [63:0], R318. -/
def SLOT_LOCKED : Field :=
  ⟨.crypto, 0xB08, 0, 64, 0, 1, .ro, .none, .c 0, false, false⟩

/-- `SLOT_ZEROISED` at 0xB10 [63:0], R318. -/
def SLOT_ZEROISED : Field :=
  ⟨.crypto, 0xB10, 0, 64, 0, 1, .ro, .none, .c 0, false, false⟩

/-- `ALARM_CAUSE` at 0xB18 [4:0], R318. -/
def ALARM_CAUSE : Field :=
  ⟨.crypto, 0xB18, 0, 5, 0, 1, .w1c, .none, .c 0, false, false⟩

/-- `ALARM_PIN` at 0xB18 [8], R318. -/
def ALARM_PIN : Field :=
  ⟨.crypto, 0xB18, 8, 1, 0, 1, .ro, .none, .c 0, false, false⟩

/-- `MAC_FAILS_TOTAL` at 0xB20 [31:0], R318. -/
def MAC_FAILS_TOTAL : Field :=
  ⟨.crypto, 0xB20, 0, 32, 0, 1, .ro, .none, .c 0, false, true⟩

/-- `ZEROISATIONS` at 0xB20 [47:32], R318. -/
def ZEROISATIONS : Field :=
  ⟨.crypto, 0xB20, 32, 16, 0, 1, .ro, .none, .c 0, false, false⟩

/-- `KEY_RESULT` at 0xB28 [2:0], R318. -/
def KEY_RESULT : Field :=
  ⟨.crypto, 0xB28, 0, 3, 0, 1, .ro, .none, .c 0, false, false⟩

/-- `KEY_RESULT_SLOT` at 0xB28 [13:8], R318. -/
def KEY_RESULT_SLOT : Field :=
  ⟨.crypto, 0xB28, 8, 6, 0, 1, .ro, .none, .c 0, false, false⟩

/-- `KEY_RESULT_SRC` at 0xB28 [19:16], R318. -/
def KEY_RESULT_SRC : Field :=
  ⟨.crypto, 0xB28, 16, 4, 0, 1, .ro, .none, .c 0, false, false⟩

/-- `KEY_CMDS` at 0xB28 [63:32], R318. -/
def KEY_CMDS : Field :=
  ⟨.crypto, 0xB28, 32, 32, 0, 1, .ro, .none, .c 0, true, false⟩

/-- `TABLE_WRITES` at 0xB30 [47:0], R318. -/
def TABLE_WRITES : Field :=
  ⟨.crypto, 0xB30, 0, 48, 0, 1, .ro, .none, .c 0, false, false⟩

/-- `ZEROISED_WRITES` at 0xB38 [31:0], R318. -/
def ZEROISED_WRITES : Field :=
  ⟨.crypto, 0xB38, 0, 32, 0, 1, .ro, .none, .c 0, false, true⟩

/-- `SV_STATE` at 0xB40 [1:0], R318. -/
def SV_STATE : Field :=
  ⟨.crypto, 0xB40, 0, 2, 0, 1, .ro, .none, .c 0, false, false⟩

/-- `SV_LOCKED` at 0xB40 [2], R318. -/
def SV_LOCKED : Field :=
  ⟨.crypto, 0xB40, 2, 1, 0, 1, .ro, .none, .c 0, false, false⟩

/-- `SV_GENERATED` at 0xB40 [3], R318. -/
def SV_GENERATED : Field :=
  ⟨.crypto, 0xB40, 3, 1, 0, 1, .ro, .none, .c 0, false, false⟩

/-- `SV_REKEY` at 0xB40 [4], R318. -/
def SV_REKEY : Field :=
  ⟨.crypto, 0xB40, 4, 1, 0, 1, .ro, .none, .c 0, false, false⟩

/-- `SV_EPOCH` at 0xB40 [31:16], R318. -/
def SV_EPOCH : Field :=
  ⟨.crypto, 0xB40, 16, 16, 0, 1, .ro, .none, .c 0, false, false⟩

/-- `SV_KCV` at 0xB40 [63:32], R318. -/
def SV_KCV : Field :=
  ⟨.crypto, 0xB40, 32, 32, 0, 1, .ro, .none, .c 0, false, false⟩

/-- `SV_WRITES` at 0xB48 [47:0], R318. -/
def SV_WRITES : Field :=
  ⟨.crypto, 0xB48, 0, 48, 0, 1, .ro, .none, .c 0, false, false⟩

/-- `SV_ADVISED` at 0xB48 [48], R318. -/
def SV_ADVISED : Field :=
  ⟨.crypto, 0xB48, 48, 1, 0, 1, .ro, .none, .c 0, false, false⟩

/-- `SV_SAT` at 0xB48 [49], R318. -/
def SV_SAT : Field :=
  ⟨.crypto, 0xB48, 49, 1, 0, 1, .ro, .none, .c 0, false, false⟩

/-- `SV_MAC_FAILS` at 0xB50 [31:0], R318. -/
def SV_MAC_FAILS : Field :=
  ⟨.crypto, 0xB50, 0, 32, 0, 1, .ro, .none, .c 0, false, false⟩

/-- `SV_USERS` at 0xB50 [48:32], R318. -/
def SV_USERS : Field :=
  ⟨.crypto, 0xB50, 32, 17, 0, 1, .ro, .none, .c 0, false, false⟩

/-- `SV_LOAD_TIDE` at 0xB58 [63:0], R318. -/
def SV_LOAD_TIDE : Field :=
  ⟨.crypto, 0xB58, 0, 64, 0, 1, .ro, .none, .c 0, false, false⟩

/-- `IDE_IO_STATE` at 0xC00 + 8p [1:0], R318. -/
def IDE_IO_STATE : Field :=
  ⟨.crypto, 0xC00, 0, 2, 64, 4, .ro, .none, .c 0, false, false⟩

/-- `IDE_MEM_STATE` at 0xC00 + 8p [3:2], R318. -/
def IDE_MEM_STATE : Field :=
  ⟨.crypto, 0xC00, 2, 2, 64, 4, .ro, .none, .c 0, false, false⟩

/-- `IDE_IO_KSET` at 0xC00 + 8p [4], R318. -/
def IDE_IO_KSET : Field :=
  ⟨.crypto, 0xC00, 4, 1, 64, 4, .ro, .none, .c 0, false, false⟩

/-- `IDE_MEM_KSET` at 0xC00 + 8p [5], R318. -/
def IDE_MEM_KSET : Field :=
  ⟨.crypto, 0xC00, 5, 1, 64, 4, .ro, .none, .c 0, false, false⟩

/-- `IDE_SWITCHES` at 0xC00 + 8p [31:16], R318. -/
def IDE_SWITCHES : Field :=
  ⟨.crypto, 0xC00, 16, 16, 64, 4, .ro, .none, .c 0, true, true⟩

/-- `IDE_FAILS` at 0xC00 + 8p [63:32], R318. -/
def IDE_FAILS : Field :=
  ⟨.crypto, 0xC00, 32, 32, 64, 4, .ro, .none, .c 0, false, true⟩

/-- `LG_KEYED` at 0xC20 + 8l [0], R318. -/
def LG_KEYED : Field :=
  ⟨.crypto, 0xC20, 0, 1, 64, 8, .ro, .none, .c 0, false, false⟩

/-- `LG_REKEYS` at 0xC20 + 8l [31:16], R318. -/
def LG_REKEYS : Field :=
  ⟨.crypto, 0xC20, 16, 16, 64, 8, .ro, .none, .c 0, true, true⟩

/-- `LG_AUTH_FAILS` at 0xC20 + 8l [63:32], R318. -/
def LG_AUTH_FAILS : Field :=
  ⟨.crypto, 0xC20, 32, 32, 64, 8, .ro, .none, .c 0, false, true⟩

/-- Every field of the page beside its header. -/
def fields : List Field :=
  [KEY_DATA, CMD_SLOT, CMD_OP, CMD_LOCK, CMD_GO, PORT_KEY, BMC_KEY, ZERO_MODE, ZERO_THRESH, ZERO_WINDOW_MS, ALARM_EN, SLOT_SEL, SLOT_VALID, SLOT_LOCKED, SLOT_ZEROISED, ALARM_CAUSE, ALARM_PIN, MAC_FAILS_TOTAL, ZEROISATIONS, KEY_RESULT, KEY_RESULT_SLOT, KEY_RESULT_SRC, KEY_CMDS, TABLE_WRITES, ZEROISED_WRITES, SV_STATE, SV_LOCKED, SV_GENERATED, SV_REKEY, SV_EPOCH, SV_KCV, SV_WRITES, SV_ADVISED, SV_SAT, SV_MAC_FAILS, SV_USERS, SV_LOAD_TIDE, IDE_IO_STATE, IDE_MEM_STATE, IDE_IO_KSET] ++
  [IDE_MEM_KSET, IDE_SWITCHES, IDE_FAILS, LG_KEYED, LG_REKEYS, LG_AUTH_FAILS]

end Sys2Proof.Machine.Reg.Crypto

namespace Sys2Proof.Machine.Reg.Rekey

/-- `RK_TRACT` at 0x100 [15:0], R319. -/
def RK_TRACT : Field :=
  ⟨.rekey, 0x100, 0, 16, 0, 1, .rw, .live, .c 0, false, false⟩

/-- `RK_NEW_SLOT` at 0x100 [21:16], R319. -/
def RK_NEW_SLOT : Field :=
  ⟨.rekey, 0x100, 16, 6, 0, 1, .rw, .live, .c 0, false, false⟩

/-- `RK_GO` at 0x100 [63], R319. -/
def RK_GO : Field :=
  ⟨.rekey, 0x100, 63, 1, 0, 1, .wo, .live, .c 0, false, false⟩

/-- `RK_RATE_LINES` at 0x108 [19:0], R319. -/
def RK_RATE_LINES : Field :=
  ⟨.rekey, 0x108, 0, 20, 0, 1, .rw, .live, .c 0, false, false⟩

/-- `RK_STEP_US` at 0x108 [41:32], R319. -/
def RK_STEP_US : Field :=
  ⟨.rekey, 0x108, 32, 10, 0, 1, .rw, .live, .c 16, false, false⟩

/-- `RK_ACT_TRACT` at 0xB00 [15:0], R319. -/
def RK_ACT_TRACT : Field :=
  ⟨.rekey, 0xB00, 0, 16, 0, 1, .ro, .none, .c 0, false, false⟩

/-- `RK_OLD` at 0xB00 [21:16], R319. -/
def RK_OLD : Field :=
  ⟨.rekey, 0xB00, 16, 6, 0, 1, .ro, .none, .c 0, false, false⟩

/-- `RK_NEW` at 0xB00 [27:22], R319. -/
def RK_NEW : Field :=
  ⟨.rekey, 0xB00, 22, 6, 0, 1, .ro, .none, .c 0, false, false⟩

/-- `RK_RESULT` at 0xB00 [28], R319. -/
def RK_RESULT : Field :=
  ⟨.rekey, 0xB00, 28, 1, 0, 1, .ro, .none, .c 0, false, false⟩

/-- `RK_REFUSE` at 0xB00 [35:32], R319. -/
def RK_REFUSE : Field :=
  ⟨.rekey, 0xB00, 32, 4, 0, 1, .ro, .none, .c 0, false, false⟩

/-- `RK_REFUSALS` at 0xB00 [63:48], R319. -/
def RK_REFUSALS : Field :=
  ⟨.rekey, 0xB00, 48, 16, 0, 1, .ro, .none, .c 0, false, false⟩

/-- `RK_BOUNDARY` at 0xB08 [23:0], R319. -/
def RK_BOUNDARY : Field :=
  ⟨.rekey, 0xB08, 0, 24, 0, 1, .ro, .none, .c 0, false, false⟩

/-- `RK_LINES_DONE` at 0xB10 [63:0], R319. -/
def RK_LINES_DONE : Field :=
  ⟨.rekey, 0xB10, 0, 64, 0, 1, .ro, .none, .c 0, false, false⟩

/-- `RK_LINES_SKIPPED` at 0xB18 [63:0], R319. -/
def RK_LINES_SKIPPED : Field :=
  ⟨.rekey, 0xB18, 0, 64, 0, 1, .ro, .none, .c 0, false, false⟩

/-- `RK_OVERTAKEN` at 0xB20 [31:0], R319. -/
def RK_OVERTAKEN : Field :=
  ⟨.rekey, 0xB20, 0, 32, 0, 1, .ro, .none, .c 0, false, false⟩

/-- `RK_LATE_STEPS` at 0xB20 [63:32], R319. -/
def RK_LATE_STEPS : Field :=
  ⟨.rekey, 0xB20, 32, 32, 0, 1, .ro, .none, .c 0, false, false⟩

/-- `RK_START_TIDE` at 0xB28 [63:0], R319. -/
def RK_START_TIDE : Field :=
  ⟨.rekey, 0xB28, 0, 64, 0, 1, .ro, .none, .c 0, false, false⟩

/-- `RK_END_TIDE` at 0xB30 [63:0], R319. -/
def RK_END_TIDE : Field :=
  ⟨.rekey, 0xB30, 0, 64, 0, 1, .ro, .none, .c 0, false, false⟩

/-- `RK_COUNT` at 0xB38 [31:0], R319. -/
def RK_COUNT : Field :=
  ⟨.rekey, 0xB38, 0, 32, 0, 1, .ro, .none, .c 0, true, false⟩

/-- Every field of the page beside its header. -/
def fields : List Field :=
  [RK_TRACT, RK_NEW_SLOT, RK_GO, RK_RATE_LINES, RK_STEP_US, RK_ACT_TRACT, RK_OLD, RK_NEW, RK_RESULT, RK_REFUSE, RK_REFUSALS, RK_BOUNDARY, RK_LINES_DONE, RK_LINES_SKIPPED, RK_OVERTAKEN, RK_LATE_STEPS, RK_START_TIDE, RK_END_TIDE, RK_COUNT]

end Sys2Proof.Machine.Reg.Rekey

namespace Sys2Proof.Machine.Reg.Culvert

/-- `RETRAIN` at 0x100 [0], R346. -/
def RETRAIN : Field :=
  ⟨.culvert, 0x100, 0, 1, 0, 1, .wo, .live, .c 0, false, false⟩

/-- `RESTART` at 0x100 [1], R346. -/
def RESTART : Field :=
  ⟨.culvert, 0x100, 1, 1, 0, 1, .wo, .live, .c 0, false, false⟩

/-- `SPARE_EN` at 0x100 [2], R346. -/
def SPARE_EN : Field :=
  ⟨.culvert, 0x100, 2, 1, 0, 1, .rw, .live, .c 1, false, false⟩

/-- `SPAREBACK_EN` at 0x100 [3], R346. -/
def SPAREBACK_EN : Field :=
  ⟨.culvert, 0x100, 3, 1, 0, 1, .rw, .live, .c 1, false, false⟩

/-- `RETRAIN_MAX` at 0x108 [3:0], R346. -/
def RETRAIN_MAX : Field :=
  ⟨.culvert, 0x108, 0, 4, 0, 1, .rw, .live, .c 3, false, false⟩

/-- `RESTART_MS` at 0x108 [31:16], R346. -/
def RESTART_MS : Field :=
  ⟨.culvert, 0x108, 16, 16, 0, 1, .rw, .live, .c 1000, false, false⟩

/-- `NAK_RETRY_NS` at 0x110 [15:0], R346. -/
def NAK_RETRY_NS : Field :=
  ⟨.culvert, 0x110, 0, 16, 0, 1, .rw, .live, .c 500, false, false⟩

/-- `NAK_LIMIT` at 0x110 [31:16], R346. -/
def NAK_LIMIT : Field :=
  ⟨.culvert, 0x110, 16, 16, 0, 1, .rw, .live, .c 1000, false, false⟩

/-- `SPARE_THRESH` at 0x118 [23:0], R346. -/
def SPARE_THRESH : Field :=
  ⟨.culvert, 0x118, 0, 24, 0, 1, .rw, .live, .c 50000, false, false⟩

/-- `SPARE_WINDOW_MS` at 0x118 [31:24], R346. -/
def SPARE_WINDOW_MS : Field :=
  ⟨.culvert, 0x118, 24, 8, 0, 1, .rw, .live, .c 4, false, false⟩

/-- `LANE_REVERSE` at 0x120 [0], R346. -/
def LANE_REVERSE : Field :=
  ⟨.culvert, 0x120, 0, 1, 0, 1, .rw, .halt, .c 0, false, false⟩

/-- `TX_PRESET` at 0x120 [4:1], R346. -/
def TX_PRESET : Field :=
  ⟨.culvert, 0x120, 1, 4, 0, 1, .rw, .halt, .c 5, false, false⟩

/-- `WIDTH` at 0xB00 [2:0], R346. -/
def WIDTH : Field :=
  ⟨.culvert, 0xB00, 0, 3, 0, 1, .ro, .none, .c 0, false, false⟩

/-- `TX_MAP` at 0xB00 [14:3], R346. -/
def TX_MAP : Field :=
  ⟨.culvert, 0xB00, 3, 12, 0, 1, .ro, .none, .c 0, false, false⟩

/-- `RX_MAP` at 0xB00 [26:15], R346. -/
def RX_MAP : Field :=
  ⟨.culvert, 0xB00, 15, 12, 0, 1, .ro, .none, .c 0, false, false⟩

/-- `SPARE_USED_TX` at 0xB00 [27], R346. -/
def SPARE_USED_TX : Field :=
  ⟨.culvert, 0xB00, 27, 1, 0, 1, .ro, .none, .c 0, false, false⟩

/-- `SPARE_USED_RX` at 0xB00 [28], R346. -/
def SPARE_USED_RX : Field :=
  ⟨.culvert, 0xB00, 28, 1, 0, 1, .ro, .none, .c 0, false, false⟩

/-- `KEY_PHASE_TX` at 0xB00 [29], R346. -/
def KEY_PHASE_TX : Field :=
  ⟨.culvert, 0xB00, 29, 1, 0, 1, .ro, .none, .c 0, false, false⟩

/-- `KEY_PHASE_RX` at 0xB00 [30], R346. -/
def KEY_PHASE_RX : Field :=
  ⟨.culvert, 0xB00, 30, 1, 0, 1, .ro, .none, .c 0, false, false⟩

/-- `NEXT_TX` at 0xB08 [19:0], R346. -/
def NEXT_TX : Field :=
  ⟨.culvert, 0xB08, 0, 20, 0, 1, .ro, .none, .c 0, false, false⟩

/-- `ACKED` at 0xB08 [39:20], R346. -/
def ACKED : Field :=
  ⟨.culvert, 0xB08, 20, 20, 0, 1, .ro, .none, .c 1048575, false, false⟩

/-- `NEXT_RX` at 0xB08 [59:40], R346. -/
def NEXT_RX : Field :=
  ⟨.culvert, 0xB08, 40, 20, 0, 1, .ro, .none, .c 0, false, false⟩

/-- `UNACKED` at 0xB10 [18:0], R346. -/
def UNACKED : Field :=
  ⟨.culvert, 0xB10, 0, 19, 0, 1, .ro, .none, .c 0, false, false⟩

/-- `ONCHIP_USED` at 0xB10 [31:20], R346. -/
def ONCHIP_USED : Field :=
  ⟨.culvert, 0xB10, 20, 12, 0, 1, .ro, .none, .c 0, false, false⟩

/-- `SPILL_USED` at 0xB10 [50:32], R346. -/
def SPILL_USED : Field :=
  ⟨.culvert, 0xB10, 32, 19, 0, 1, .ro, .none, .c 0, false, false⟩

/-- `WINDOW_NOW` at 0xB18 [18:0], R346. -/
def WINDOW_NOW : Field :=
  ⟨.culvert, 0xB18, 0, 19, 0, 1, .ro, .none, .c 262144, false, false⟩

/-- `AT_CAP` at 0xB18 [19], R346. -/
def AT_CAP : Field :=
  ⟨.culvert, 0xB18, 19, 1, 0, 1, .ro, .none, .c 0, false, false⟩

/-- `CAP_EVENTS` at 0xB18 [63:32], R346. -/
def CAP_EVENTS : Field :=
  ⟨.culvert, 0xB18, 32, 32, 0, 1, .ro, .none, .c 0, false, false⟩

/-- `REPLAY_HEAD` at 0xB20 [19:0], R346. -/
def REPLAY_HEAD : Field :=
  ⟨.culvert, 0xB20, 0, 20, 0, 1, .ro, .none, .c 0, false, false⟩

/-- `REPLAY_TAIL` at 0xB20 [39:20], R346. -/
def REPLAY_TAIL : Field :=
  ⟨.culvert, 0xB20, 20, 20, 0, 1, .ro, .none, .c 1048575, false, false⟩

/-- `REPLAY_PTR` at 0xB20 [59:40], R346. -/
def REPLAY_PTR : Field :=
  ⟨.culvert, 0xB20, 40, 20, 0, 1, .ro, .none, .c 0, false, false⟩

/-- `REPLAYING` at 0xB20 [60], R346. -/
def REPLAYING : Field :=
  ⟨.culvert, 0xB20, 60, 1, 0, 1, .ro, .none, .c 0, false, false⟩

/-- `MISSING` at 0xB20 [61], R346. -/
def MISSING : Field :=
  ⟨.culvert, 0xB20, 61, 1, 0, 1, .ro, .none, .c 0, false, false⟩

/-- `WRAP_TX` at 0xB28 [43:0], R346. -/
def WRAP_TX : Field :=
  ⟨.culvert, 0xB28, 0, 44, 0, 1, .ro, .none, .c 0, false, false⟩

/-- `WRAP_RX` at 0xB30 [43:0], R346. -/
def WRAP_RX : Field :=
  ⟨.culvert, 0xB30, 0, 44, 0, 1, .ro, .none, .c 0, false, false⟩

/-- `PAYLOAD_MBPS` at 0xB38 [31:0], R346. -/
def PAYLOAD_MBPS : Field :=
  ⟨.culvert, 0xB38, 0, 32, 0, 1, .ro, .none, .c 0, false, false⟩

/-- `RTT_NS` at 0xB38 [47:32], R346. -/
def RTT_NS : Field :=
  ⟨.culvert, 0xB38, 32, 16, 0, 1, .ro, .none, .c 0, false, false⟩

/-- `FLITS_TX` at 0xB40 [63:0], R346. -/
def FLITS_TX : Field :=
  ⟨.culvert, 0xB40, 0, 64, 0, 1, .ro, .none, .c 0, false, true⟩

/-- `FLITS_RX` at 0xB48 [63:0], R346. -/
def FLITS_RX : Field :=
  ⟨.culvert, 0xB48, 0, 64, 0, 1, .ro, .none, .c 0, false, true⟩

/-- `CRC_ERRS` at 0xB50 [31:0], R346. -/
def CRC_ERRS : Field :=
  ⟨.culvert, 0xB50, 0, 32, 0, 1, .ro, .none, .c 0, false, true⟩

/-- `FEC_UNCORR` at 0xB50 [63:32], R346. -/
def FEC_UNCORR : Field :=
  ⟨.culvert, 0xB50, 32, 32, 0, 1, .ro, .none, .c 0, false, true⟩

/-- `FEC_CORR` at 0xB58 [63:0], R346. -/
def FEC_CORR : Field :=
  ⟨.culvert, 0xB58, 0, 64, 0, 1, .ro, .none, .c 0, false, true⟩

/-- `NAKS_SENT` at 0xB60 [31:0], R346. -/
def NAKS_SENT : Field :=
  ⟨.culvert, 0xB60, 0, 32, 0, 1, .ro, .none, .c 0, false, true⟩

/-- `NAKS_RCVD` at 0xB60 [63:32], R346. -/
def NAKS_RCVD : Field :=
  ⟨.culvert, 0xB60, 32, 32, 0, 1, .ro, .none, .c 0, false, true⟩

/-- `FLITS_REPLAYED` at 0xB68 [63:0], R346. -/
def FLITS_REPLAYED : Field :=
  ⟨.culvert, 0xB68, 0, 64, 0, 1, .ro, .none, .c 0, false, true⟩

/-- `DUP_DISCARD` at 0xB70 [31:0], R346. -/
def DUP_DISCARD : Field :=
  ⟨.culvert, 0xB70, 0, 32, 0, 1, .ro, .none, .c 0, false, true⟩

/-- `GAP_DISCARD` at 0xB70 [63:32], R346. -/
def GAP_DISCARD : Field :=
  ⟨.culvert, 0xB70, 32, 32, 0, 1, .ro, .none, .c 0, false, true⟩

/-- `RETRAINS` at 0xB78 [31:0], R346. -/
def RETRAINS : Field :=
  ⟨.culvert, 0xB78, 0, 32, 0, 1, .ro, .none, .c 0, false, true⟩

/-- `RETRAIN_FAIL_RUN` at 0xB78 [35:32], R346. -/
def RETRAIN_FAIL_RUN : Field :=
  ⟨.culvert, 0xB78, 32, 4, 0, 1, .ro, .none, .c 0, false, true⟩

/-- `SPARES` at 0xB80 [31:0], R346. -/
def SPARES : Field :=
  ⟨.culvert, 0xB80, 0, 32, 0, 1, .ro, .none, .c 0, false, true⟩

/-- `SPAREBACKS` at 0xB80 [63:32], R346. -/
def SPAREBACKS : Field :=
  ⟨.culvert, 0xB80, 32, 32, 0, 1, .ro, .none, .c 0, false, true⟩

/-- `SPILL_WRITES` at 0xB88 [63:0], R346. -/
def SPILL_WRITES : Field :=
  ⟨.culvert, 0xB88, 0, 64, 0, 1, .ro, .none, .c 0, false, true⟩

/-- `BROKEN_CAUSE` at 0xB90 [3:0], R346. -/
def BROKEN_CAUSE : Field :=
  ⟨.culvert, 0xB90, 0, 4, 0, 1, .ro, .none, .c 0, false, false⟩

/-- `BROKEN_COUNT` at 0xB90 [63:32], R346. -/
def BROKEN_COUNT : Field :=
  ⟨.culvert, 0xB90, 32, 32, 0, 1, .ro, .none, .c 0, false, false⟩

/-- `BROKEN_TIDE` at 0xB98 [63:0], R346. -/
def BROKEN_TIDE : Field :=
  ⟨.culvert, 0xB98, 0, 64, 0, 1, .ro, .none, .c 0, false, false⟩

/-- `CTRL_TX_COUNT` at 0xBA0 [39:0], R346. -/
def CTRL_TX_COUNT : Field :=
  ⟨.culvert, 0xBA0, 0, 40, 0, 1, .ro, .none, .c 0, false, false⟩

/-- `CTRL_RX_COUNT` at 0xBA8 [39:0], R346. -/
def CTRL_RX_COUNT : Field :=
  ⟨.culvert, 0xBA8, 0, 40, 0, 1, .ro, .none, .c 0, false, false⟩

/-- `BAD_ACKS` at 0xBB0 [31:0], R346. -/
def BAD_ACKS : Field :=
  ⟨.culvert, 0xBB0, 0, 32, 0, 1, .ro, .none, .c 0, false, true⟩

/-- `BAD_HDR` at 0xBB0 [63:32], R346. -/
def BAD_HDR : Field :=
  ⟨.culvert, 0xBB0, 32, 32, 0, 1, .ro, .none, .c 0, false, true⟩

/-- `LANE_CORR` at 0xC00 + 8k [23:0], R346. -/
def LANE_CORR : Field :=
  ⟨.culvert, 0xC00, 0, 24, 64, 5, .ro, .none, .c 0, false, true⟩

/-- `LANE_LOCK` at 0xC00 + 8k [24], R346. -/
def LANE_LOCK : Field :=
  ⟨.culvert, 0xC00, 24, 1, 64, 5, .ro, .none, .c 0, false, false⟩

/-- `LANE_DEGRADED` at 0xC00 + 8k [25], R346. -/
def LANE_DEGRADED : Field :=
  ⟨.culvert, 0xC00, 25, 1, 64, 5, .ro, .none, .c 0, false, false⟩

/-- `LANE_RETIRED` at 0xC00 + 8k [26], R346. -/
def LANE_RETIRED : Field :=
  ⟨.culvert, 0xC00, 26, 1, 64, 5, .ro, .none, .c 0, false, false⟩

/-- `LANE_EYE` at 0xC00 + 8k [39:32], R346. -/
def LANE_EYE : Field :=
  ⟨.culvert, 0xC00, 32, 8, 64, 5, .ro, .none, .c 0, false, false⟩

/-- `LANE_LOCK_LOSSES` at 0xC00 + 8k [63:40], R346. -/
def LANE_LOCK_LOSSES : Field :=
  ⟨.culvert, 0xC00, 40, 24, 64, 5, .ro, .none, .c 0, false, true⟩

/-- Every field of the page beside its header. -/
def fields : List Field :=
  [RETRAIN, RESTART, SPARE_EN, SPAREBACK_EN, RETRAIN_MAX, RESTART_MS, NAK_RETRY_NS, NAK_LIMIT, SPARE_THRESH, SPARE_WINDOW_MS, LANE_REVERSE, TX_PRESET, WIDTH, TX_MAP, RX_MAP, SPARE_USED_TX, SPARE_USED_RX, KEY_PHASE_TX, KEY_PHASE_RX, NEXT_TX, ACKED, NEXT_RX, UNACKED, ONCHIP_USED, SPILL_USED, WINDOW_NOW, AT_CAP, CAP_EVENTS, REPLAY_HEAD, REPLAY_TAIL, REPLAY_PTR, REPLAYING, MISSING, WRAP_TX, WRAP_RX, PAYLOAD_MBPS, RTT_NS, FLITS_TX, FLITS_RX, CRC_ERRS] ++
  [FEC_UNCORR, FEC_CORR, NAKS_SENT, NAKS_RCVD, FLITS_REPLAYED, DUP_DISCARD, GAP_DISCARD, RETRAINS, RETRAIN_FAIL_RUN, SPARES, SPAREBACKS, SPILL_WRITES, BROKEN_CAUSE, BROKEN_COUNT, BROKEN_TIDE, CTRL_TX_COUNT, CTRL_RX_COUNT, BAD_ACKS, BAD_HDR, LANE_CORR, LANE_LOCK, LANE_DEGRADED, LANE_RETIRED, LANE_EYE, LANE_LOCK_LOSSES]

end Sys2Proof.Machine.Reg.Culvert

namespace Sys2Proof.Machine.Reg.Turnout

/-- `ROUTE` at 0x100 + 8d [15:0], R374. -/
def ROUTE : Field :=
  ⟨.turnout, 0x100, 0, 16, 64, 64, .rw, .turn, .c 0, false, false⟩

/-- `PREF_ID` at 0x300 [5:0], R374. -/
def PREF_ID : Field :=
  ⟨.turnout, 0x300, 0, 6, 0, 1, .rws, .live, .c 0, false, false⟩

/-- `ROOT_PRIO` at 0x300 [11:8], R374. -/
def ROOT_PRIO : Field :=
  ⟨.turnout, 0x300, 8, 4, 0, 1, .rws, .live, .c 0, false, false⟩

/-- `AUTO_ROUTE` at 0x300 [12], R374. -/
def AUTO_ROUTE : Field :=
  ⟨.turnout, 0x300, 12, 1, 0, 1, .rw, .live, .c 1, false, false⟩

/-- `CRED_TIMEOUT_US` at 0x308 [13:0], R374. -/
def CRED_TIMEOUT_US : Field :=
  ⟨.turnout, 0x308, 0, 14, 0, 1, .rw, .turn, .c 50, false, false⟩

/-- `FACK_NS` at 0x308 [29:16], R374. -/
def FACK_NS : Field :=
  ⟨.turnout, 0x308, 16, 14, 0, 1, .rw, .live, .c 200, false, false⟩

/-- `SRC_MAX` at 0x310 [5:0], R374. -/
def SRC_MAX : Field :=
  ⟨.turnout, 0x310, 0, 6, 0, 1, .rw, .turn, .c 7, false, false⟩

/-- `ID_HOLD_S` at 0x310 [31:16], R374. -/
def ID_HOLD_S : Field :=
  ⟨.turnout, 0x310, 16, 16, 0, 1, .rw, .turn, .c 3600, false, false⟩

/-- `LINK_REKEY_S` at 0x310 [47:32], R374. -/
def LINK_REKEY_S : Field :=
  ⟨.turnout, 0x310, 32, 16, 0, 1, .rw, .turn, .c 43200, false, false⟩

/-- `CRED` at 0x318 + 8j [63:0], R374. -/
def CRED : Field :=
  ⟨.turnout, 0x318, 0, 11, 16, 16, .rw, .turn, .c 64, false, false⟩

/-- `FLOW_PEER` at 0x338 [5:0], R374. -/
def FLOW_PEER : Field :=
  ⟨.turnout, 0x338, 0, 6, 0, 1, .rw, .live, .c 0, false, false⟩

/-- `FLOW_ALLOT` at 0x338 [9:6], R374. -/
def FLOW_ALLOT : Field :=
  ⟨.turnout, 0x338, 6, 4, 0, 1, .rw, .live, .c 0, false, false⟩

/-- `MY_ID` at 0xB00 [5:0], R374. -/
def MY_ID : Field :=
  ⟨.turnout, 0xB00, 0, 6, 0, 1, .ro, .none, .c 0, false, false⟩

/-- `ID_VALID` at 0xB00 [6], R374. -/
def ID_VALID : Field :=
  ⟨.turnout, 0xB00, 6, 1, 0, 1, .ro, .none, .c 0, false, false⟩

/-- `IS_ROOT` at 0xB00 [7], R374. -/
def IS_ROOT : Field :=
  ⟨.turnout, 0xB00, 7, 1, 0, 1, .ro, .none, .c 0, false, false⟩

/-- `ROOT_ID` at 0xB00 [13:8], R374. -/
def ROOT_ID : Field :=
  ⟨.turnout, 0xB00, 8, 6, 0, 1, .ro, .none, .c 0, false, false⟩

/-- `MEMBERS` at 0xB00 [22:16], R374. -/
def MEMBERS : Field :=
  ⟨.turnout, 0xB00, 16, 7, 0, 1, .ro, .none, .c 0, false, false⟩

/-- `FAB_EPOCH` at 0xB00 [47:32], R374. -/
def FAB_EPOCH : Field :=
  ⟨.turnout, 0xB00, 32, 16, 0, 1, .ro, .none, .c 0, false, false⟩

/-- `MEMBER_MASK` at 0xB08 [63:0], R374. -/
def MEMBER_MASK : Field :=
  ⟨.turnout, 0xB08, 0, 64, 0, 1, .ro, .none, .c 0, false, false⟩

/-- `REACH_MASK` at 0xB10 [63:0], R374. -/
def REACH_MASK : Field :=
  ⟨.turnout, 0xB10, 0, 64, 0, 1, .ro, .none, .c 0, false, false⟩

/-- `PATH_USE_LO` at 0xB18 [63:0], R374. -/
def PATH_USE_LO : Field :=
  ⟨.turnout, 0xB18, 0, 64, 0, 1, .ro, .none, .c 0, false, false⟩

/-- `PATH_USE_HI` at 0xB20 [63:0], R374. -/
def PATH_USE_HI : Field :=
  ⟨.turnout, 0xB20, 0, 64, 0, 1, .ro, .none, .c 0, false, false⟩

/-- `LSDB_MSGS` at 0xB28 [31:0], R374. -/
def LSDB_MSGS : Field :=
  ⟨.turnout, 0xB28, 0, 32, 0, 1, .ro, .none, .c 0, true, false⟩

/-- `TX_NEXT` at 0xB30 [31:0], R374. -/
def TX_NEXT : Field :=
  ⟨.turnout, 0xB30, 0, 32, 0, 1, .ro, .none, .c 0, false, false⟩

/-- `TX_ACKED` at 0xB30 [63:32], R374. -/
def TX_ACKED : Field :=
  ⟨.turnout, 0xB30, 32, 32, 0, 1, .ro, .none, .c 0, false, false⟩

/-- `TX_CRED` at 0xB38 [10:0], R374. -/
def TX_CRED : Field :=
  ⟨.turnout, 0xB38, 0, 11, 0, 1, .ro, .none, .c 0, false, false⟩

/-- `TX_OUT` at 0xB38 [26:16], R374. -/
def TX_OUT : Field :=
  ⟨.turnout, 0xB38, 16, 11, 0, 1, .ro, .none, .c 0, false, false⟩

/-- `TX_STATE` at 0xB38 [29:28], R374. -/
def TX_STATE : Field :=
  ⟨.turnout, 0xB38, 28, 2, 0, 1, .ro, .none, .c 0, false, false⟩

/-- `TX_EPOCH` at 0xB38 [47:32], R374. -/
def TX_EPOCH : Field :=
  ⟨.turnout, 0xB38, 32, 16, 0, 1, .ro, .none, .c 0, false, false⟩

/-- `RX_NEXT` at 0xB40 [31:0], R374. -/
def RX_NEXT : Field :=
  ⟨.turnout, 0xB40, 0, 32, 0, 1, .ro, .none, .c 0, false, false⟩

/-- `RX_GRANTED` at 0xB40 [42:32], R374. -/
def RX_GRANTED : Field :=
  ⟨.turnout, 0xB40, 32, 11, 0, 1, .ro, .none, .c 0, false, false⟩

/-- `RX_HELD` at 0xB40 [58:48], R374. -/
def RX_HELD : Field :=
  ⟨.turnout, 0xB40, 48, 11, 0, 1, .ro, .none, .c 0, false, false⟩

/-- `FV_RESYNCS` at 0xB48 [31:0], R374. -/
def FV_RESYNCS : Field :=
  ⟨.turnout, 0xB48, 0, 32, 0, 1, .ro, .none, .c 0, true, false⟩

/-- `FV_TIMEOUTS` at 0xB48 [63:32], R374. -/
def FV_TIMEOUTS : Field :=
  ⟨.turnout, 0xB48, 32, 32, 0, 1, .ro, .none, .c 0, false, false⟩

/-- `FV_LAST_TIDE` at 0xB50 [63:0], R374. -/
def FV_LAST_TIDE : Field :=
  ⟨.turnout, 0xB50, 0, 64, 0, 1, .ro, .none, .c 0, false, false⟩

/-- `RX_USED` at 0xB58 [14:0], R374. -/
def RX_USED : Field :=
  ⟨.turnout, 0xB58, 0, 15, 0, 1, .ro, .none, .c 0, false, false⟩

/-- `RX_PEAK` at 0xB58 [30:16], R374. -/
def RX_PEAK : Field :=
  ⟨.turnout, 0xB58, 16, 15, 0, 1, .ro, .none, .c 0, false, true⟩

/-- `SLOTS_USED` at 0xB58 [37:32], R374. -/
def SLOTS_USED : Field :=
  ⟨.turnout, 0xB58, 32, 6, 0, 1, .ro, .none, .c 0, false, false⟩

/-- `TXR_ONCHIP` at 0xB60 [12:0], R374. -/
def TXR_ONCHIP : Field :=
  ⟨.turnout, 0xB60, 0, 13, 0, 1, .ro, .none, .c 0, false, false⟩

/-- `TXR_SPILL` at 0xB60 [35:16], R374. -/
def TXR_SPILL : Field :=
  ⟨.turnout, 0xB60, 16, 20, 0, 1, .ro, .none, .c 0, false, false⟩

/-- `TRANSIT_USED` at 0xB68 + 8l [10:0], R374. -/
def TRANSIT_USED : Field :=
  ⟨.turnout, 0xB68, 0, 11, 64, 8, .ro, .none, .c 0, false, false⟩

/-- `TRANSIT_PEAK` at 0xB68 + 8l [26:16], R374. -/
def TRANSIT_PEAK : Field :=
  ⟨.turnout, 0xB68, 16, 11, 64, 8, .ro, .none, .c 0, false, true⟩

/-- `TRANSIT_DROPS` at 0xB68 + 8l [63:32], R374. -/
def TRANSIT_DROPS : Field :=
  ⟨.turnout, 0xB68, 32, 32, 64, 8, .ro, .none, .c 0, false, false⟩

/-- `UNITS_TX` at 0xBA8 [63:0], R374. -/
def UNITS_TX : Field :=
  ⟨.turnout, 0xBA8, 0, 64, 0, 1, .ro, .none, .c 0, false, true⟩

/-- `UNITS_RX` at 0xBB0 [63:0], R374. -/
def UNITS_RX : Field :=
  ⟨.turnout, 0xBB0, 0, 64, 0, 1, .ro, .none, .c 0, false, true⟩

/-- `UNITS_FWD` at 0xBB8 [63:0], R374. -/
def UNITS_FWD : Field :=
  ⟨.turnout, 0xBB8, 0, 64, 0, 1, .ro, .none, .c 0, false, true⟩

/-- `RESYNCS` at 0xBC0 [31:0], R374. -/
def RESYNCS : Field :=
  ⟨.turnout, 0xBC0, 0, 32, 0, 1, .ro, .none, .c 0, false, true⟩

/-- `CRED_TIMEOUTS` at 0xBC0 [63:32], R374. -/
def CRED_TIMEOUTS : Field :=
  ⟨.turnout, 0xBC0, 32, 32, 0, 1, .ro, .none, .c 0, false, true⟩

/-- `PATH_CHANGES` at 0xBC8 [31:0], R374. -/
def PATH_CHANGES : Field :=
  ⟨.turnout, 0xBC8, 0, 32, 0, 1, .ro, .none, .c 0, false, true⟩

/-- `LATE_RESP` at 0xBC8 [63:32], R374. -/
def LATE_RESP : Field :=
  ⟨.turnout, 0xBC8, 32, 32, 0, 1, .ro, .none, .c 0, false, true⟩

/-- `NOROUTE_RDS` at 0xBD0 [31:0], R374. -/
def NOROUTE_RDS : Field :=
  ⟨.turnout, 0xBD0, 0, 32, 0, 1, .ro, .none, .c 0, false, true⟩

/-- `DUP_UNITS` at 0xBD0 [63:32], R374. -/
def DUP_UNITS : Field :=
  ⟨.turnout, 0xBD0, 32, 32, 0, 1, .ro, .none, .c 0, false, true⟩

/-- `GAP_UNITS` at 0xBD8 [31:0], R374. -/
def GAP_UNITS : Field :=
  ⟨.turnout, 0xBD8, 0, 32, 0, 1, .ro, .none, .c 0, false, true⟩

/-- `HOP_DROPS` at 0xBD8 [63:32], R374. -/
def HOP_DROPS : Field :=
  ⟨.turnout, 0xBD8, 32, 32, 0, 1, .ro, .none, .c 0, false, true⟩

/-- `SRC_REFUSED` at 0xBE0 [31:0], R374. -/
def SRC_REFUSED : Field :=
  ⟨.turnout, 0xBE0, 0, 32, 0, 1, .ro, .none, .c 0, false, true⟩

/-- `DEMOTES_SENT` at 0xBE0 [63:32], R374. -/
def DEMOTES_SENT : Field :=
  ⟨.turnout, 0xBE0, 32, 32, 0, 1, .ro, .none, .c 0, false, true⟩

/-- `OWNER_LATE` at 0xBE8 [31:0], R374. -/
def OWNER_LATE : Field :=
  ⟨.turnout, 0xBE8, 0, 32, 0, 1, .ro, .none, .c 0, false, true⟩

/-- `REMOTE_WR_WAIT` at 0xBE8 [63:32], R374. -/
def REMOTE_WR_WAIT : Field :=
  ⟨.turnout, 0xBE8, 32, 32, 0, 1, .ro, .none, .c 0, false, false⟩

/-- `MGMT_DROPS` at 0xBF0 [31:0], R374. -/
def MGMT_DROPS : Field :=
  ⟨.turnout, 0xBF0, 0, 32, 0, 1, .ro, .none, .c 0, false, true⟩

/-- `BAD_UNITS` at 0xBF0 [63:32], R374. -/
def BAD_UNITS : Field :=
  ⟨.turnout, 0xBF0, 32, 32, 0, 1, .ro, .none, .c 0, false, true⟩

/-- `KEY_FAILS` at 0xBF8 [15:0], R374. -/
def KEY_FAILS : Field :=
  ⟨.turnout, 0xBF8, 0, 16, 0, 1, .ro, .none, .c 0, false, true⟩

/-- `ELECTIONS` at 0xBF8 [31:16], R374. -/
def ELECTIONS : Field :=
  ⟨.turnout, 0xBF8, 16, 16, 0, 1, .ro, .none, .c 0, true, true⟩

/-- `FLOW_SEL_TIDE` at 0xC00 [63:0], R374. -/
def FLOW_SEL_TIDE : Field :=
  ⟨.turnout, 0xC00, 0, 64, 0, 1, .ro, .none, .c 0, false, false⟩

/-- Every field of the page beside its header. -/
def fields : List Field :=
  [ROUTE, PREF_ID, ROOT_PRIO, AUTO_ROUTE, CRED_TIMEOUT_US, FACK_NS, SRC_MAX, ID_HOLD_S, LINK_REKEY_S, CRED, FLOW_PEER, FLOW_ALLOT, MY_ID, ID_VALID, IS_ROOT, ROOT_ID, MEMBERS, FAB_EPOCH, MEMBER_MASK, REACH_MASK, PATH_USE_LO, PATH_USE_HI, LSDB_MSGS, TX_NEXT, TX_ACKED, TX_CRED, TX_OUT, TX_STATE, TX_EPOCH, RX_NEXT, RX_GRANTED, RX_HELD, FV_RESYNCS, FV_TIMEOUTS, FV_LAST_TIDE, RX_USED, RX_PEAK, SLOTS_USED, TXR_ONCHIP, TXR_SPILL] ++
  [TRANSIT_USED, TRANSIT_PEAK, TRANSIT_DROPS, UNITS_TX, UNITS_RX, UNITS_FWD, RESYNCS, CRED_TIMEOUTS, PATH_CHANGES, LATE_RESP, NOROUTE_RDS, DUP_UNITS, GAP_UNITS, HOP_DROPS, SRC_REFUSED, DEMOTES_SENT, OWNER_LATE, REMOTE_WR_WAIT, MGMT_DROPS, BAD_UNITS, KEY_FAILS, ELECTIONS, FLOW_SEL_TIDE]

end Sys2Proof.Machine.Reg.Turnout

namespace Sys2Proof.Machine.Reg.Shared

/-- `ROLE` at +0x00 [1:0], R396. -/
def ROLE : Field :=
  ⟨.shared, 0x100, 0, 2, 256, 32, .rw, .turn, .c 0, false, false⟩

/-- `MIN_HOLD_NS` at +0x00 [15:4], R396. -/
def MIN_HOLD_NS : Field :=
  ⟨.shared, 0x100, 4, 12, 256, 32, .rw, .turn, .c 256, false, false⟩

/-- `BI_TIMEOUT_US` at +0x00 [29:16], R396. -/
def BI_TIMEOUT_US : Field :=
  ⟨.shared, 0x100, 16, 14, 256, 32, .rw, .turn, .c 100, false, false⟩

/-- `HOME_ID` at +0x00 [37:32], R396. -/
def HOME_ID : Field :=
  ⟨.shared, 0x100, 32, 6, 256, 32, .rw, .turn, .c 0, false, false⟩

/-- `HOME_REGION` at +0x00 [42:38], R396. -/
def HOME_REGION : Field :=
  ⟨.shared, 0x100, 38, 5, 256, 32, .rw, .turn, .c 0, false, false⟩

/-- `PORTS` at +0x00 [47:44], R396. -/
def PORTS : Field :=
  ⟨.shared, 0x100, 44, 4, 256, 32, .rw, .turn, .c 0, false, false⟩

/-- `MEMBER` at +0x08 [16k+9:16k], R396. -/
def MEMBER : Field :=
  ⟨.shared, 0x108, 0, 10, 16, 512, .rw, .turn, .c 0, false, false⟩

/-- `TEAR` at +0x18 [0], R396. -/
def TEAR : Field :=
  ⟨.shared, 0x118, 0, 1, 256, 32, .wo, .live, .c 0, false, false⟩

/-- `REFORM` at +0x18 [1], R396. -/
def REFORM : Field :=
  ⟨.shared, 0x118, 1, 1, 256, 32, .wo, .live, .c 0, false, false⟩

/-- `REGION_SEL` at 0x500 [4:0], R396. -/
def REGION_SEL : Field :=
  ⟨.shared, 0x500, 0, 5, 0, 1, .rw, .live, .c 0, false, false⟩

/-- `DIR_LINE` at 0x508 [39:0], R396. -/
def DIR_LINE : Field :=
  ⟨.shared, 0x508, 0, 40, 0, 1, .rw, .live, .c 0, false, false⟩

/-- `REG_STATE` at 0xB00 [4r+2:4r], R396. -/
def REG_STATE : Field :=
  ⟨.shared, 0xB00, 0, 3, 4, 32, .ro, .none, .c 0, false, false⟩

/-- `DIR_USED` at 0xB10 [21:0], R396. -/
def DIR_USED : Field :=
  ⟨.shared, 0xB10, 0, 22, 0, 1, .ro, .none, .c 0, false, false⟩

/-- `DIR_PEAK` at 0xB10 [45:24], R396. -/
def DIR_PEAK : Field :=
  ⟨.shared, 0xB10, 24, 22, 0, 1, .ro, .none, .c 0, false, false⟩

/-- `BISNP_OUT` at 0xB18 [16p+9:16p], R396. -/
def BISNP_OUT : Field :=
  ⟨.shared, 0xB18, 0, 10, 16, 4, .ro, .none, .c 0, false, false⟩

/-- `BISNP_SENT` at 0xB20 [63:0], R396. -/
def BISNP_SENT : Field :=
  ⟨.shared, 0xB20, 0, 64, 0, 1, .ro, .none, .c 0, false, true⟩

/-- `CONFLICTS` at 0xB28 [31:0], R396. -/
def CONFLICTS : Field :=
  ⟨.shared, 0xB28, 0, 32, 0, 1, .ro, .none, .c 0, false, true⟩

/-- `HOLD_WAITS` at 0xB28 [63:32], R396. -/
def HOLD_WAITS : Field :=
  ⟨.shared, 0xB28, 32, 32, 0, 1, .ro, .none, .c 0, false, true⟩

/-- `FORWARDS` at 0xB30 [31:0], R396. -/
def FORWARDS : Field :=
  ⟨.shared, 0xB30, 0, 32, 0, 1, .ro, .none, .c 0, false, true⟩

/-- `DIR_EVICTIONS` at 0xB30 [63:32], R396. -/
def DIR_EVICTIONS : Field :=
  ⟨.shared, 0xB30, 32, 32, 0, 1, .ro, .none, .c 0, false, true⟩

/-- `TEARDOWNS` at 0xB38 [31:0], R396. -/
def TEARDOWNS : Field :=
  ⟨.shared, 0xB38, 0, 32, 0, 1, .ro, .none, .c 0, false, true⟩

/-- `NONMEMBER` at 0xB38 [63:32], R396. -/
def NONMEMBER : Field :=
  ⟨.shared, 0xB38, 32, 32, 0, 1, .ro, .none, .c 0, false, true⟩

/-- `RV_STATE` at 0xB40 [2:0], R396. -/
def RV_STATE : Field :=
  ⟨.shared, 0xB40, 0, 3, 0, 1, .ro, .none, .c 0, false, false⟩

/-- `RV_CAUSE` at 0xB40 [6:4], R396. -/
def RV_CAUSE : Field :=
  ⟨.shared, 0xB40, 4, 3, 0, 1, .ro, .none, .c 0, false, false⟩

/-- `RV_AGENT` at 0xB40 [10:8], R396. -/
def RV_AGENT : Field :=
  ⟨.shared, 0xB40, 8, 3, 0, 1, .ro, .none, .c 0, false, false⟩

/-- `RV_LINES` at 0xB40 [63:32], R396. -/
def RV_LINES : Field :=
  ⟨.shared, 0xB40, 32, 32, 0, 1, .ro, .none, .c 0, false, false⟩

/-- `RV_FENCED` at 0xB48 [31:0], R396. -/
def RV_FENCED : Field :=
  ⟨.shared, 0xB48, 0, 32, 0, 1, .ro, .none, .c 0, false, false⟩

/-- `RV_POISONED` at 0xB48 [63:32], R396. -/
def RV_POISONED : Field :=
  ⟨.shared, 0xB48, 32, 32, 0, 1, .ro, .none, .c 0, false, false⟩

/-- `RV_TEAR_TIDE` at 0xB50 [63:0], R396. -/
def RV_TEAR_TIDE : Field :=
  ⟨.shared, 0xB50, 0, 64, 0, 1, .ro, .none, .c 0, false, false⟩

/-- `RV_ACTIVE_TIDE` at 0xB58 [63:0], R396. -/
def RV_ACTIVE_TIDE : Field :=
  ⟨.shared, 0xB58, 0, 64, 0, 1, .ro, .none, .c 0, false, false⟩

/-- `DV_ENTRY` at 0xB60 [63:0], R396. -/
def DV_ENTRY : Field :=
  ⟨.shared, 0xB60, 0, 64, 0, 1, .ro, .none, .c 0, false, false⟩

/-- `DV_WAITING` at 0xB68 [15:0], R396. -/
def DV_WAITING : Field :=
  ⟨.shared, 0xB68, 0, 16, 0, 1, .ro, .none, .c 0, false, false⟩

/-- `DV_IN_HOLD` at 0xB68 [16], R396. -/
def DV_IN_HOLD : Field :=
  ⟨.shared, 0xB68, 16, 1, 0, 1, .ro, .none, .c 0, false, false⟩

/-- Every field of the page beside its header. -/
def fields : List Field :=
  [ROLE, MIN_HOLD_NS, BI_TIMEOUT_US, HOME_ID, HOME_REGION, PORTS, MEMBER, TEAR, REFORM, REGION_SEL, DIR_LINE, REG_STATE, DIR_USED, DIR_PEAK, BISNP_OUT, BISNP_SENT, CONFLICTS, HOLD_WAITS, FORWARDS, DIR_EVICTIONS, TEARDOWNS, NONMEMBER, RV_STATE, RV_CAUSE, RV_AGENT, RV_LINES, RV_FENCED, RV_POISONED, RV_TEAR_TIDE, RV_ACTIVE_TIDE, DV_ENTRY, DV_WAITING, DV_IN_HOLD]

end Sys2Proof.Machine.Reg.Shared

namespace Sys2Proof.Machine.Reg.Twin

/-- `TWIN_LINKS` at 0x100 [7:0], R431. -/
def TWIN_LINKS : Field :=
  ⟨.twin, 0x100, 0, 8, 0, 1, .rw, .halt, .c 0, false, false⟩

/-- `LOSS_US` at 0x108 [9:0], R431. -/
def LOSS_US : Field :=
  ⟨.twin, 0x108, 0, 10, 0, 1, .rw, .turn, .c 20, false, false⟩

/-- `CREDITS` at 0x108 [27:16], R431. -/
def CREDITS : Field :=
  ⟨.twin, 0x108, 16, 12, 0, 1, .rw, .turn, .c 512, false, false⟩

/-- `PEER_FID` at 0x108 [37:32], R431. -/
def PEER_FID : Field :=
  ⟨.twin, 0x108, 32, 6, 0, 1, .rw, .turn, .c 0, false, false⟩

/-- `PEER_FID_V` at 0x108 [38], R431. -/
def PEER_FID_V : Field :=
  ⟨.twin, 0x108, 38, 1, 0, 1, .rw, .turn, .c 0, false, false⟩

/-- `DIVERSE_NS` at 0x110 [15:0], R431. -/
def DIVERSE_NS : Field :=
  ⟨.twin, 0x110, 0, 16, 0, 1, .rw, .live, .c 1000, false, false⟩

/-- `AUTO_RESILVER` at 0x110 [16], R431. -/
def AUTO_RESILVER : Field :=
  ⟨.twin, 0x110, 16, 1, 0, 1, .rw, .live, .c 1, false, false⟩

/-- `SPLIT_FENCE` at 0x110 [17], R431. -/
def SPLIT_FENCE : Field :=
  ⟨.twin, 0x110, 17, 1, 0, 1, .rw, .live, .c 1, false, false⟩

/-- `RESILVER_GO` at 0x110 [18], R431. -/
def RESILVER_GO : Field :=
  ⟨.twin, 0x110, 18, 1, 0, 1, .wo, .live, .c 0, false, false⟩

/-- `RESILVER_FULL` at 0x110 [19], R431. -/
def RESILVER_FULL : Field :=
  ⟨.twin, 0x110, 19, 1, 0, 1, .wo, .live, .c 0, false, false⟩

/-- `DETACH` at 0x110 [20], R431. -/
def DETACH : Field :=
  ⟨.twin, 0x110, 20, 1, 0, 1, .wo, .live, .c 0, false, false⟩

/-- `UNFENCE` at 0x110 [21], R431. -/
def UNFENCE : Field :=
  ⟨.twin, 0x110, 21, 1, 0, 1, .wo, .live, .c 0, false, false⟩

/-- `RS_RATE_LINES` at 0x110 [51:32], R431. -/
def RS_RATE_LINES : Field :=
  ⟨.twin, 0x110, 32, 20, 0, 1, .rw, .live, .c 0, false, false⟩

/-- `ROLE` at 0xB00 [1:0], R431. -/
def ROLE : Field :=
  ⟨.twin, 0xB00, 0, 2, 0, 1, .ro, .none, .c 0, false, false⟩

/-- `FRESH` at 0xB00 [2], R431. -/
def FRESH : Field :=
  ⟨.twin, 0xB00, 2, 1, 0, 1, .ro, .none, .c 1, false, false⟩

/-- `MIRROR_ACTIVE` at 0xB00 [3], R431. -/
def MIRROR_ACTIVE : Field :=
  ⟨.twin, 0xB00, 3, 1, 0, 1, .ro, .none, .c 0, false, false⟩

/-- `LINKS_UP` at 0xB00 [11:4], R431. -/
def LINKS_UP : Field :=
  ⟨.twin, 0xB00, 4, 8, 0, 1, .ro, .none, .c 0, false, false⟩

/-- `PAIR_REFUSE` at 0xB00 [15:12], R431. -/
def PAIR_REFUSE : Field :=
  ⟨.twin, 0xB00, 12, 4, 0, 1, .ro, .none, .c 0, false, false⟩

/-- `ADM_MISMATCH` at 0xB00 [16], R431. -/
def ADM_MISMATCH : Field :=
  ⟨.twin, 0xB00, 16, 1, 0, 1, .ro, .none, .c 0, false, false⟩

/-- `SPLIT_SEEN` at 0xB00 [17], R431. -/
def SPLIT_SEEN : Field :=
  ⟨.twin, 0xB00, 17, 1, 0, 1, .ro, .none, .c 0, false, false⟩

/-- `RS_KIND` at 0xB00 [19:18], R431. -/
def RS_KIND : Field :=
  ⟨.twin, 0xB00, 18, 2, 0, 1, .ro, .none, .c 0, false, false⟩

/-- `RS_SOURCE` at 0xB00 [20], R431. -/
def RS_SOURCE : Field :=
  ⟨.twin, 0xB00, 20, 1, 0, 1, .ro, .none, .c 0, false, false⟩

/-- `PAIR_EPOCH` at 0xB08 [31:0], R431. -/
def PAIR_EPOCH : Field :=
  ⟨.twin, 0xB08, 0, 32, 0, 1, .ro, .none, .c 0, false, false⟩

/-- `PEER_EPOCH` at 0xB08 [63:32], R431. -/
def PEER_EPOCH : Field :=
  ⟨.twin, 0xB08, 32, 32, 0, 1, .ro, .none, .c 0, false, false⟩

/-- `CONTENT_ID` at 0xB10 [63:0], R431. -/
def CONTENT_ID : Field :=
  ⟨.twin, 0xB10, 0, 64, 0, 1, .ro, .none, .c 0, false, false⟩

/-- `PEER_CONTENT_ID` at 0xB18 [63:0], R431. -/
def PEER_CONTENT_ID : Field :=
  ⟨.twin, 0xB18, 0, 64, 0, 1, .ro, .none, .c 0, false, false⟩

/-- `PEER_SERIAL` at 0xB20 [63:0], R431. -/
def PEER_SERIAL : Field :=
  ⟨.twin, 0xB20, 0, 64, 0, 1, .ro, .none, .c 0, false, false⟩

/-- `RS_BOUNDARY` at 0xB28 [39:0], R431. -/
def RS_BOUNDARY : Field :=
  ⟨.twin, 0xB28, 0, 40, 0, 1, .ro, .none, .c 0, false, false⟩

/-- `RS_COPIED` at 0xB30 [63:0], R431. -/
def RS_COPIED : Field :=
  ⟨.twin, 0xB30, 0, 64, 0, 1, .ro, .none, .c 0, false, false⟩

/-- `RS_SKIPPED` at 0xB38 [63:0], R431. -/
def RS_SKIPPED : Field :=
  ⟨.twin, 0xB38, 0, 64, 0, 1, .ro, .none, .c 0, false, false⟩

/-- `RS_REVERSE` at 0xB40 [31:0], R431. -/
def RS_REVERSE : Field :=
  ⟨.twin, 0xB40, 0, 32, 0, 1, .ro, .none, .c 0, false, false⟩

/-- `AWAY_REGIONS` at 0xB40 [63:32], R431. -/
def AWAY_REGIONS : Field :=
  ⟨.twin, 0xB40, 32, 32, 0, 1, .ro, .none, .c 0, false, false⟩

/-- `TX_NEXT` at 0xB48 [31:0], R431. -/
def TX_NEXT : Field :=
  ⟨.twin, 0xB48, 0, 32, 0, 1, .ro, .none, .c 0, false, false⟩

/-- `TX_ACKED` at 0xB48 [63:32], R431. -/
def TX_ACKED : Field :=
  ⟨.twin, 0xB48, 32, 32, 0, 1, .ro, .none, .c 0, false, false⟩

/-- `RX_NEXT` at 0xB50 [31:0], R431. -/
def RX_NEXT : Field :=
  ⟨.twin, 0xB50, 0, 32, 0, 1, .ro, .none, .c 0, false, false⟩

/-- `REORDER_USED` at 0xB50 [45:32], R431. -/
def REORDER_USED : Field :=
  ⟨.twin, 0xB50, 32, 14, 0, 1, .ro, .none, .c 0, false, false⟩

/-- `TX_HELD` at 0xB58 [13:0], R431. -/
def TX_HELD : Field :=
  ⟨.twin, 0xB58, 0, 14, 0, 1, .ro, .none, .c 0, false, false⟩

/-- `TX_CRED` at 0xB58 [27:16], R431. -/
def TX_CRED : Field :=
  ⟨.twin, 0xB58, 16, 12, 0, 1, .ro, .none, .c 0, false, false⟩

/-- `FENCED_REQS` at 0xB58 [63:32], R431. -/
def FENCED_REQS : Field :=
  ⟨.twin, 0xB58, 32, 32, 0, 1, .ro, .none, .c 0, false, false⟩

/-- `DIVERTED` at 0xB60 [31:0], R431. -/
def DIVERTED : Field :=
  ⟨.twin, 0xB60, 0, 32, 0, 1, .ro, .none, .c 0, false, true⟩

/-- `MIRROR_WAIT_TURNS` at 0xB60 [63:32], R431. -/
def MIRROR_WAIT_TURNS : Field :=
  ⟨.twin, 0xB60, 32, 32, 0, 1, .ro, .none, .c 0, false, true⟩

/-- `REFETCH_SENT` at 0xB68 [31:0], R431. -/
def REFETCH_SENT : Field :=
  ⟨.twin, 0xB68, 0, 32, 0, 1, .ro, .none, .c 0, false, true⟩

/-- `REFETCH_OK` at 0xB68 [63:32], R431. -/
def REFETCH_OK : Field :=
  ⟨.twin, 0xB68, 32, 32, 0, 1, .ro, .none, .c 0, false, true⟩

/-- `REFETCH_FAIL` at 0xB70 [31:0], R431. -/
def REFETCH_FAIL : Field :=
  ⟨.twin, 0xB70, 0, 32, 0, 1, .ro, .none, .c 0, false, true⟩

/-- `REFETCH_SERVED` at 0xB70 [63:32], R431. -/
def REFETCH_SERVED : Field :=
  ⟨.twin, 0xB70, 32, 32, 0, 1, .ro, .none, .c 0, false, true⟩

/-- `FWD_WRITES` at 0xB78 [31:0], R431. -/
def FWD_WRITES : Field :=
  ⟨.twin, 0xB78, 0, 32, 0, 1, .ro, .none, .c 0, true, true⟩

/-- `SPLIT_REGIONS_LOST` at 0xB78 [63:32], R431. -/
def SPLIT_REGIONS_LOST : Field :=
  ⟨.twin, 0xB78, 32, 32, 0, 1, .ro, .none, .c 0, false, true⟩

/-- `LOSSES` at 0xB80 [31:0], R431. -/
def LOSSES : Field :=
  ⟨.twin, 0xB80, 0, 32, 0, 1, .ro, .none, .c 0, false, true⟩

/-- `RESILVERS` at 0xB80 [63:32], R431. -/
def RESILVERS : Field :=
  ⟨.twin, 0xB80, 32, 32, 0, 1, .ro, .none, .c 0, false, true⟩

/-- `LAST_RX_TIDE` at 0xB88 [63:0], R431. -/
def LAST_RX_TIDE : Field :=
  ⟨.twin, 0xB88, 0, 64, 0, 1, .ro, .none, .c 0, false, false⟩

/-- `SOLO_TIDE` at 0xB90 [63:0], R431. -/
def SOLO_TIDE : Field :=
  ⟨.twin, 0xB90, 0, 64, 0, 1, .ro, .none, .c 0, false, false⟩

/-- `ADM_DIGEST` at 0xB98 [31:0], R431. -/
def ADM_DIGEST : Field :=
  ⟨.twin, 0xB98, 0, 32, 0, 1, .ro, .none, .c 0, false, false⟩

/-- `PEER_ADM_DIGEST` at 0xB98 [63:32], R431. -/
def PEER_ADM_DIGEST : Field :=
  ⟨.twin, 0xB98, 32, 32, 0, 1, .ro, .none, .c 0, false, false⟩

/-- `MIRROR_DIGEST` at 0xBA0 [31:0], R431. -/
def MIRROR_DIGEST : Field :=
  ⟨.twin, 0xBA0, 0, 32, 0, 1, .ro, .none, .c 0, false, false⟩

/-- `PEER_MIRROR_DIGEST` at 0xBA0 [63:32], R431. -/
def PEER_MIRROR_DIGEST : Field :=
  ⟨.twin, 0xBA0, 32, 32, 0, 1, .ro, .none, .c 0, false, false⟩

/-- Every field of the page beside its header. -/
def fields : List Field :=
  [TWIN_LINKS, LOSS_US, CREDITS, PEER_FID, PEER_FID_V, DIVERSE_NS, AUTO_RESILVER, SPLIT_FENCE, RESILVER_GO, RESILVER_FULL, DETACH, UNFENCE, RS_RATE_LINES, ROLE, FRESH, MIRROR_ACTIVE, LINKS_UP, PAIR_REFUSE, ADM_MISMATCH, SPLIT_SEEN, RS_KIND, RS_SOURCE, PAIR_EPOCH, PEER_EPOCH, CONTENT_ID, PEER_CONTENT_ID, PEER_SERIAL, RS_BOUNDARY, RS_COPIED, RS_SKIPPED, RS_REVERSE, AWAY_REGIONS, TX_NEXT, TX_ACKED, RX_NEXT, REORDER_USED, TX_HELD, TX_CRED, FENCED_REQS, DIVERTED] ++
  [MIRROR_WAIT_TURNS, REFETCH_SENT, REFETCH_OK, REFETCH_FAIL, REFETCH_SERVED, FWD_WRITES, SPLIT_REGIONS_LOST, LOSSES, RESILVERS, LAST_RX_TIDE, SOLO_TIDE, ADM_DIGEST, PEER_ADM_DIGEST, MIRROR_DIGEST, PEER_MIRROR_DIGEST]

end Sys2Proof.Machine.Reg.Twin

namespace Sys2Proof.Machine.Reg.Sluice

/-- `ON_REQ` at 0x100 [0], R456. -/
def ON_REQ : Field :=
  ⟨.sluice, 0x100, 0, 1, 0, 1, .wo, .live, .c 0, false, false⟩

/-- `OFF_REQ` at 0x100 [1], R456. -/
def OFF_REQ : Field :=
  ⟨.sluice, 0x100, 1, 1, 0, 1, .wo, .live, .c 0, false, false⟩

/-- `OFF_FORCE` at 0x100 [2], R456. -/
def OFF_FORCE : Field :=
  ⟨.sluice, 0x100, 2, 1, 0, 1, .rw, .live, .c 0, false, false⟩

/-- `UNLATCH` at 0x100 [3], R456. -/
def UNLATCH : Field :=
  ⟨.sluice, 0x100, 3, 1, 0, 1, .wo, .live, .c 0, false, false⟩

/-- `CURVE_SWAP` at 0x100 [4], R456. -/
def CURVE_SWAP : Field :=
  ⟨.sluice, 0x100, 4, 1, 0, 1, .wo, .live, .c 0, false, false⟩

/-- `ENERGY_CLR` at 0x100 [5], R456. -/
def ENERGY_CLR : Field :=
  ⟨.sluice, 0x100, 5, 1, 0, 1, .wo, .live, .c 0, false, false⟩

/-- `AUTO_ON` at 0x108 [0], R456. -/
def AUTO_ON : Field :=
  ⟨.sluice, 0x108, 0, 1, 0, 1, .rws, .live, .inst (List.replicate 8 0 ++ [1, 1]), false, false⟩

/-- `CURVE_MA` at 0x110 + 8k [15:0], R456. -/
def CURVE_MA : Field :=
  ⟨.sluice, 0x110, 0, 16, 64, 8, .rw, .live, .instIdx curveMaReset, false, false⟩

/-- `CURVE_US` at 0x110 + 8k [39:16], R456. -/
def CURVE_US : Field :=
  ⟨.sluice, 0x110, 16, 24, 64, 8, .rw, .live, .idx curveUsReset, false, false⟩

/-- `INRUSH_MA` at 0x150 [15:0], R456. -/
def INRUSH_MA : Field :=
  ⟨.sluice, 0x150, 0, 16, 0, 1, .rw, .turn, .inst (List.replicate 8 3000 ++ [500, 1000]), false, false⟩

/-- `INRUSH_MS` at 0x150 [23:16], R456. -/
def INRUSH_MS : Field :=
  ⟨.sluice, 0x150, 16, 8, 0, 1, .rw, .turn, .c 20, false, false⟩

/-- `PG_TIMEOUT_MS` at 0x150 [31:24], R456. -/
def PG_TIMEOUT_MS : Field :=
  ⟨.sluice, 0x150, 24, 8, 0, 1, .rw, .turn, .c 50, false, false⟩

/-- `DEBOUNCE_MS` at 0x150 [41:32], R456. -/
def DEBOUNCE_MS : Field :=
  ⟨.sluice, 0x150, 32, 10, 0, 1, .rw, .turn, .c 100, false, false⟩

/-- `REMOVE_US` at 0x150 [47:42], R456. -/
def REMOVE_US : Field :=
  ⟨.sluice, 0x150, 42, 6, 0, 1, .rw, .turn, .c 2, false, false⟩

/-- `RETRY_MS` at 0x158 [19:0], R456. -/
def RETRY_MS : Field :=
  ⟨.sluice, 0x158, 0, 20, 0, 1, .rw, .turn, .c 5000, false, false⟩

/-- `RETRY_MAX` at 0x158 [22:20], R456. -/
def RETRY_MAX : Field :=
  ⟨.sluice, 0x158, 20, 3, 0, 1, .rw, .turn, .c 7, false, false⟩

/-- `TJ_TRIP_C` at 0x158 [31:24], R456. -/
def TJ_TRIP_C : Field :=
  ⟨.sluice, 0x158, 24, 8, 0, 1, .rw, .turn, .inst (List.replicate 8 0 ++ [125, 125]), false, false⟩

/-- `PG_MV` at 0x160 [13:0], R456. -/
def PG_MV : Field :=
  ⟨.sluice, 0x160, 0, 14, 0, 1, .rw, .turn, .inst (List.replicate 8 10800 ++ [2970, 10800]), false, false⟩

/-- `UV_MV` at 0x160 [29:16], R456. -/
def UV_MV : Field :=
  ⟨.sluice, 0x160, 16, 14, 0, 1, .rw, .turn, .inst (List.replicate 8 10200 ++ [2805, 10200]), false, false⟩

/-- `UV_US` at 0x160 [41:32], R456. -/
def UV_US : Field :=
  ⟨.sluice, 0x160, 32, 10, 0, 1, .rw, .turn, .c 50, false, false⟩

/-- `SC_MA` at 0x160 [63:48], R456. -/
def SC_MA : Field :=
  ⟨.sluice, 0x160, 48, 16, 0, 1, .rw, .turn, .inst (List.replicate 8 28000 ++ [4500, 9000]), false, false⟩

/-- `RSENSE_UOHM` at 0x168 [13:0], R456. -/
def RSENSE_UOHM : Field :=
  ⟨.sluice, 0x168, 0, 14, 0, 1, .rw, .halt, .inst (List.replicate 8 2000 ++ [0, 0]), false, false⟩

/-- `PRSNT` at 0xB00 [0], R456. -/
def PRSNT : Field :=
  ⟨.sluice, 0xB00, 0, 1, 0, 1, .ro, .none, .c 0, false, false⟩

/-- `PG` at 0xB00 [1], R456. -/
def PG : Field :=
  ⟨.sluice, 0xB00, 1, 1, 0, 1, .ro, .none, .c 0, false, false⟩

/-- `GATE_ON` at 0xB00 [2], R456. -/
def GATE_ON : Field :=
  ⟨.sluice, 0xB00, 2, 1, 0, 1, .ro, .none, .c 0, false, false⟩

/-- `ON_WANTED` at 0xB00 [3], R456. -/
def ON_WANTED : Field :=
  ⟨.sluice, 0xB00, 3, 1, 0, 1, .ro, .none, .c 0, false, false⟩

/-- `FAULT_RUN` at 0xB00 [4], R456. -/
def FAULT_RUN : Field :=
  ⟨.sluice, 0xB00, 4, 1, 0, 1, .ro, .none, .c 0, false, false⟩

/-- `REGULATING` at 0xB00 [5], R456. -/
def REGULATING : Field :=
  ⟨.sluice, 0xB00, 5, 1, 0, 1, .ro, .none, .c 0, false, false⟩

/-- `RETRY_PENDING` at 0xB00 [6], R456. -/
def RETRY_PENDING : Field :=
  ⟨.sluice, 0xB00, 6, 1, 0, 1, .ro, .none, .c 0, false, false⟩

/-- `TRIP_REASON` at 0xB00 [11:8], R456. -/
def TRIP_REASON : Field :=
  ⟨.sluice, 0xB00, 8, 4, 0, 1, .ro, .none, .c 0, false, false⟩

/-- `TRIP_COUNT` at 0xB00 [15:12], R456. -/
def TRIP_COUNT : Field :=
  ⟨.sluice, 0xB00, 12, 4, 0, 1, .ro, .none, .c 0, false, false⟩

/-- `TRIP_POINT` at 0xB00 [18:16], R456. -/
def TRIP_POINT : Field :=
  ⟨.sluice, 0xB00, 16, 3, 0, 1, .ro, .none, .c 0, false, false⟩

/-- `SWAP_RESULT` at 0xB00 [22:20], R456. -/
def SWAP_RESULT : Field :=
  ⟨.sluice, 0xB00, 20, 3, 0, 1, .ro, .none, .c 0, false, false⟩

/-- `FAULT_US` at 0xB08 [23:0], R456. -/
def FAULT_US : Field :=
  ⟨.sluice, 0xB08, 0, 24, 0, 1, .ro, .none, .c 0, false, false⟩

/-- `CD_LEFT_MS` at 0xB08 [63:32], R456. -/
def CD_LEFT_MS : Field :=
  ⟨.sluice, 0xB08, 32, 32, 0, 1, .ro, .none, .c 0, false, false⟩

/-- `GOOD_MS` at 0xB10 [31:0], R456. -/
def GOOD_MS : Field :=
  ⟨.sluice, 0xB10, 0, 32, 0, 1, .ro, .none, .c 0, false, false⟩

/-- `ATTEMPT_US` at 0xB10 [63:32], R456. -/
def ATTEMPT_US : Field :=
  ⟨.sluice, 0xB10, 32, 32, 0, 1, .ro, .none, .c 0, false, false⟩

/-- `I_MA` at 0xB18 [15:0], R456. -/
def I_MA : Field :=
  ⟨.sluice, 0xB18, 0, 16, 0, 1, .ro, .none, .c 0, false, false⟩

/-- `V_MV` at 0xB18 [31:16], R456. -/
def V_MV : Field :=
  ⟨.sluice, 0xB18, 16, 16, 0, 1, .ro, .none, .c 0, false, false⟩

/-- `VIN_MV` at 0xB18 [47:32], R456. -/
def VIN_MV : Field :=
  ⟨.sluice, 0xB18, 32, 16, 0, 1, .ro, .none, .c 0, false, false⟩

/-- `TJ` at 0xB18 [63:48], R456. -/
def TJ : Field :=
  ⟨.sluice, 0xB18, 48, 16, 0, 1, .ro, .none, .c 32768, false, false⟩

/-- `P_MW` at 0xB20 [31:0], R456. -/
def P_MW : Field :=
  ⟨.sluice, 0xB20, 0, 32, 0, 1, .ro, .none, .c 0, false, false⟩

/-- `I_PEAK_MA` at 0xB20 [47:32], R456. -/
def I_PEAK_MA : Field :=
  ⟨.sluice, 0xB20, 32, 16, 0, 1, .ro, .none, .c 0, false, true⟩

/-- `TJ_PEAK` at 0xB20 [63:48], R456. -/
def TJ_PEAK : Field :=
  ⟨.sluice, 0xB20, 48, 16, 0, 1, .ro, .none, .c 32768, false, true⟩

/-- `ENERGY_UJ` at 0xB28 [63:0], R456. -/
def ENERGY_UJ : Field :=
  ⟨.sluice, 0xB28, 0, 64, 0, 1, .ro, .none, .c 0, false, false⟩

/-- `ENERGY_OVF` at 0xB30 [0], R456. -/
def ENERGY_OVF : Field :=
  ⟨.sluice, 0xB30, 0, 1, 0, 1, .ro, .none, .c 0, false, false⟩

/-- `I_CODE` at 0xB30 [13:0] + 16, R456. -/
def I_CODE : Field :=
  ⟨.sluice, 0xB30, 16, 14, 0, 1, .ro, .none, .c 0, false, false⟩

/-- `V_CODE` at 0xB30 [45:32], R456. -/
def V_CODE : Field :=
  ⟨.sluice, 0xB30, 32, 14, 0, 1, .ro, .none, .c 0, false, false⟩

/-- `TRIPS` at 0xB38 [31:0], R456. -/
def TRIPS : Field :=
  ⟨.sluice, 0xB38, 0, 32, 0, 1, .ro, .none, .c 0, false, true⟩

/-- `LATCHES` at 0xB38 [63:32], R456. -/
def LATCHES : Field :=
  ⟨.sluice, 0xB38, 32, 32, 0, 1, .ro, .none, .c 0, false, true⟩

/-- `INSERTIONS` at 0xB40 [31:0], R456. -/
def INSERTIONS : Field :=
  ⟨.sluice, 0xB40, 0, 32, 0, 1, .ro, .none, .c 0, false, true⟩

/-- `REMOVALS` at 0xB40 [63:32], R456. -/
def REMOVALS : Field :=
  ⟨.sluice, 0xB40, 32, 32, 0, 1, .ro, .none, .c 0, false, true⟩

/-- `LAST_TRIP_TIDE` at 0xB48 [63:0], R456. -/
def LAST_TRIP_TIDE : Field :=
  ⟨.sluice, 0xB48, 0, 64, 0, 1, .ro, .none, .c 0, false, false⟩

/-- `ON_TIME_S` at 0xB50 [63:0], R456. -/
def ON_TIME_S : Field :=
  ⟨.sluice, 0xB50, 0, 64, 0, 1, .ro, .none, .c 0, false, false⟩

/-- `SWAPS` at 0xB58 [31:0], R456. -/
def SWAPS : Field :=
  ⟨.sluice, 0xB58, 0, 32, 0, 1, .ro, .none, .c 0, true, true⟩

/-- `SWAP_REFUSALS` at 0xB58 [63:32], R456. -/
def SWAP_REFUSALS : Field :=
  ⟨.sluice, 0xB58, 32, 32, 0, 1, .ro, .none, .c 0, false, true⟩

/-- `OFF_REFUSALS` at 0xB60 [31:0], R456. -/
def OFF_REFUSALS : Field :=
  ⟨.sluice, 0xB60, 0, 32, 0, 1, .ro, .none, .c 0, false, true⟩

/-- Every field of the page beside its header. -/
def fields : List Field :=
  [ON_REQ, OFF_REQ, OFF_FORCE, UNLATCH, CURVE_SWAP, ENERGY_CLR, AUTO_ON, CURVE_MA, CURVE_US, INRUSH_MA, INRUSH_MS, PG_TIMEOUT_MS, DEBOUNCE_MS, REMOVE_US, RETRY_MS, RETRY_MAX, TJ_TRIP_C, PG_MV, UV_MV, UV_US, SC_MA, RSENSE_UOHM, PRSNT, PG, GATE_ON, ON_WANTED, FAULT_RUN, REGULATING, RETRY_PENDING, TRIP_REASON, TRIP_COUNT, TRIP_POINT, SWAP_RESULT, FAULT_US, CD_LEFT_MS, GOOD_MS, ATTEMPT_US, I_MA, V_MV, VIN_MV] ++
  [TJ, P_MW, I_PEAK_MA, TJ_PEAK, ENERGY_UJ, ENERGY_OVF, I_CODE, V_CODE, TRIPS, LATCHES, INSERTIONS, REMOVALS, LAST_TRIP_TIDE, ON_TIME_S, SWAPS, SWAP_REFUSALS, OFF_REFUSALS]

end Sys2Proof.Machine.Reg.Sluice

namespace Sys2Proof.Machine.Reg.Power

/-- `VOTE_SET` at 0x100 [13:0], R474. -/
def VOTE_SET : Field :=
  ⟨.power, 0x100, 0, 14, 0, 1, .wo, .live, .c 0, false, false⟩

/-- `VOTE_CLR` at 0x100 [29:16], R474. -/
def VOTE_CLR : Field :=
  ⟨.power, 0x100, 16, 14, 0, 1, .wo, .live, .c 0, false, false⟩

/-- `DEEPEST` at 0x108 [1:0], R474. -/
def DEEPEST : Field :=
  ⟨.power, 0x108, 0, 2, 0, 1, .rw, .live, .c 0, false, false⟩

/-- `DORM_SR` at 0x108 [2], R474. -/
def DORM_SR : Field :=
  ⟨.power, 0x108, 2, 1, 0, 1, .rw, .live, .c 1, false, false⟩

/-- `SLACK_IDLE_US` at 0x108 [17:8], R474. -/
def SLACK_IDLE_US : Field :=
  ⟨.power, 0x108, 8, 10, 0, 1, .rw, .live, .c 10, false, false⟩

/-- `SLACK_LINK` at 0x108 [19:18], R474. -/
def SLACK_LINK : Field :=
  ⟨.power, 0x108, 18, 2, 0, 1, .rw, .live, .c 1, false, false⟩

/-- `WAKE_HOLD_MS` at 0x108 [27:20], R474. -/
def WAKE_HOLD_MS : Field :=
  ⟨.power, 0x108, 20, 8, 0, 1, .rw, .live, .c 10, false, false⟩

/-- `CLIENT_EN` at 0x110 [31:0], R474. -/
def CLIENT_EN : Field :=
  ⟨.power, 0x110, 0, 32, 0, 1, .rw, .live, .c 268435455, false, false⟩

/-- `WAKE_EN` at 0x118 [15:1], R474. -/
def WAKE_EN : Field :=
  ⟨.power, 0x118, 1, 15, 0, 1, .rw, .live, .c 32767, false, false⟩

/-- `WAKE_TIDE` at 0x120 [63:0], R474. -/
def WAKE_TIDE : Field :=
  ⟨.power, 0x120, 0, 64, 0, 1, .rw, .live, .c 0, false, false⟩

/-- `DOMAIN_ON` at 0xB00 [13:0], R474. -/
def DOMAIN_ON : Field :=
  ⟨.power, 0xB00, 0, 14, 0, 1, .ro, .none, .c 0, false, false⟩

/-- `HELD_BY_DEP` at 0xB00 [29:16], R474. -/
def HELD_BY_DEP : Field :=
  ⟨.power, 0xB00, 16, 14, 0, 1, .ro, .none, .c 0, false, false⟩

/-- `VOTE` at 0xB08 + 8d [31:0], R474. -/
def VOTE : Field :=
  ⟨.power, 0xB08, 0, 32, 64, 14, .ro, .none, .c 0, false, false⟩

/-- `EFFECTIVE` at 0xB08 + 8d [63:32], R474. -/
def EFFECTIVE : Field :=
  ⟨.power, 0xB08, 32, 32, 64, 14, .ro, .none, .c 0, false, false⟩

/-- `LAST_STATE` at 0xB78 [1:0], R474. -/
def LAST_STATE : Field :=
  ⟨.power, 0xB78, 0, 2, 0, 1, .ro, .none, .c 0, false, false⟩

/-- `LAST_WAKE_SRC` at 0xB78 [7:4], R474. -/
def LAST_WAKE_SRC : Field :=
  ⟨.power, 0xB78, 4, 4, 0, 1, .ro, .none, .c 0, false, false⟩

/-- `ENTRY_CLIENT` at 0xB78 [12:8], R474. -/
def ENTRY_CLIENT : Field :=
  ⟨.power, 0xB78, 8, 5, 0, 1, .ro, .none, .c 0, false, false⟩

/-- `PADS_HELD` at 0xB78 [21:16], R474. -/
def PADS_HELD : Field :=
  ⟨.power, 0xB78, 16, 6, 0, 1, .ro, .none, .c 0, false, false⟩

/-- `PENDING_WAKE` at 0xB78 [47:32], R474. -/
def PENDING_WAKE : Field :=
  ⟨.power, 0xB78, 32, 16, 0, 1, .ro, .none, .c 0, false, false⟩

/-- `LAST_WAKE_TIDE` at 0xB80 [63:0], R474. -/
def LAST_WAKE_TIDE : Field :=
  ⟨.power, 0xB80, 0, 64, 0, 1, .ro, .none, .c 0, false, false⟩

/-- `LAST_ENTRY_TIDE` at 0xB88 [63:0], R474. -/
def LAST_ENTRY_TIDE : Field :=
  ⟨.power, 0xB88, 0, 64, 0, 1, .ro, .none, .c 0, false, false⟩

/-- `WAKES` at 0xB90 [31:0], R474. -/
def WAKES : Field :=
  ⟨.power, 0xB90, 0, 32, 0, 1, .ro, .none, .c 0, false, true⟩

/-- `ENTRY_ABORTS` at 0xB90 [63:32], R474. -/
def ENTRY_ABORTS : Field :=
  ⟨.power, 0xB90, 32, 32, 0, 1, .ro, .none, .c 0, false, true⟩

/-- `REWAKES` at 0xB98 [31:0], R474. -/
def REWAKES : Field :=
  ⟨.power, 0xB98, 0, 32, 0, 1, .ro, .none, .c 0, false, true⟩

/-- `SLACK_ENTRIES` at 0xB98 [63:32], R474. -/
def SLACK_ENTRIES : Field :=
  ⟨.power, 0xB98, 32, 32, 0, 1, .ro, .none, .c 0, false, true⟩

/-- `TIME_IN` at 0xBA0 + 8k [63:0], R474. -/
def TIME_IN : Field :=
  ⟨.power, 0xBA0, 0, 64, 64, 4, .ro, .none, .c 0, false, true⟩

/-- Every field of the page beside its header. -/
def fields : List Field :=
  [VOTE_SET, VOTE_CLR, DEEPEST, DORM_SR, SLACK_IDLE_US, SLACK_LINK, WAKE_HOLD_MS, CLIENT_EN, WAKE_EN, WAKE_TIDE, DOMAIN_ON, HELD_BY_DEP, VOTE, EFFECTIVE, LAST_STATE, LAST_WAKE_SRC, ENTRY_CLIENT, PADS_HELD, PENDING_WAKE, LAST_WAKE_TIDE, LAST_ENTRY_TIDE, WAKES, ENTRY_ABORTS, REWAKES, SLACK_ENTRIES, TIME_IN]

end Sys2Proof.Machine.Reg.Power

namespace Sys2Proof.Machine.Reg.Gauge

/-- `MIRROR_EN` at 0x100 [0], R494. -/
def MIRROR_EN : Field :=
  ⟨.gauge, 0x100, 0, 1, 0, 1, .rw, .live, .c 0, false, false⟩

/-- `MIRROR_PORT` at 0x100 [2:1], R494. -/
def MIRROR_PORT : Field :=
  ⟨.gauge, 0x100, 1, 2, 0, 1, .rw, .live, .c 0, false, false⟩

/-- `MIRROR_LOG2` at 0x100 [7:3], R494. -/
def MIRROR_LOG2 : Field :=
  ⟨.gauge, 0x100, 3, 5, 0, 1, .rw, .live, .c 12, false, false⟩

/-- `REPEAT_WINDOW_MS` at 0x100 [31:16], R494. -/
def REPEAT_WINDOW_MS : Field :=
  ⟨.gauge, 0x100, 16, 16, 0, 1, .rw, .live, .c 1000, false, false⟩

/-- `MIRROR_HPA` at 0x108 [63:6], R494. -/
def MIRROR_HPA : Field :=
  ⟨.gauge, 0x108, 6, 58, 0, 1, .rw, .live, .c 0, false, false⟩

/-- `BUCKET_DEPTH` at 0x110 + 8(k−1) [7:0], R494. -/
def BUCKET_DEPTH : Field :=
  ⟨.gauge, 0x110, 0, 8, 64, 19, .rw, .live, .c 8, false, false⟩

/-- `REFILL_MS` at 0x110 + 8(k−1) [23:8], R494. -/
def REFILL_MS : Field :=
  ⟨.gauge, 0x110, 8, 16, 64, 19, .rw, .live, .c 100, false, false⟩

/-- `READ_SEQ` at 0x1A8 [63:0], R494. -/
def READ_SEQ : Field :=
  ⟨.gauge, 0x1A8, 0, 64, 0, 1, .rw, .live, .c 0, false, false⟩

/-- `CLEAR_REQ` at 0x1B0 [0], R494. -/
def CLEAR_REQ : Field :=
  ⟨.gauge, 0x1B0, 0, 1, 0, 1, .wo, .live, .c 0, false, false⟩

/-- `CLEAR_RESP` at 0x1B8 [63:0], R494. -/
def CLEAR_RESP : Field :=
  ⟨.gauge, 0x1B8, 0, 64, 0, 1, .wo, .live, .c 0, false, false⟩

/-- `SEQ_HEAD` at 0xB00 [63:0], R494. -/
def SEQ_HEAD : Field :=
  ⟨.gauge, 0xB00, 0, 64, 0, 1, .ro, .none, .c 0, false, false⟩

/-- `SEQ_FLOOR` at 0xB08 [63:0], R494. -/
def SEQ_FLOOR : Field :=
  ⟨.gauge, 0xB08, 0, 64, 0, 1, .ro, .none, .c 0, false, false⟩

/-- `SEQ_FLASH` at 0xB10 [63:0], R494. -/
def SEQ_FLASH : Field :=
  ⟨.gauge, 0xB10, 0, 64, 0, 1, .ro, .none, .c 0, false, false⟩

/-- `SEQ_HOST` at 0xB18 [63:0], R494. -/
def SEQ_HOST : Field :=
  ⟨.gauge, 0xB18, 0, 64, 0, 1, .ro, .none, .c 0, false, false⟩

/-- `OP_SECONDS` at 0xB20 [39:0], R494. -/
def OP_SECONDS : Field :=
  ⟨.gauge, 0xB20, 0, 40, 0, 1, .ro, .none, .c 0, false, false⟩

/-- `POWER_CYCLES` at 0xB28 [31:0], R494. -/
def POWER_CYCLES : Field :=
  ⟨.gauge, 0xB28, 0, 32, 0, 1, .ro, .none, .c 0, false, false⟩

/-- `REC_W0` at 0xB30 [63:0], R494. -/
def REC_W0 : Field :=
  ⟨.gauge, 0xB30, 0, 64, 0, 1, .ro, .none, .c 0, false, false⟩

/-- `REC_W1` at 0xB38 [63:0], R494. -/
def REC_W1 : Field :=
  ⟨.gauge, 0xB38, 0, 64, 0, 1, .ro, .none, .c 0, false, false⟩

/-- `REC_W2` at 0xB40 [63:0], R494. -/
def REC_W2 : Field :=
  ⟨.gauge, 0xB40, 0, 64, 0, 1, .ro, .none, .c 0, false, false⟩

/-- `REC_W3` at 0xB48 [63:0], R494. -/
def REC_W3 : Field :=
  ⟨.gauge, 0xB48, 0, 64, 0, 1, .ro, .none, .c 0, false, false⟩

/-- `READ_STATUS` at 0xB50 [2:0], R494. -/
def READ_STATUS : Field :=
  ⟨.gauge, 0xB50, 0, 3, 0, 1, .ro, .none, .c 0, false, false⟩

/-- `SEQ_OLDEST` at 0xB58 [63:0], R494. -/
def SEQ_OLDEST : Field :=
  ⟨.gauge, 0xB58, 0, 64, 0, 1, .ro, .none, .c 0, false, false⟩

/-- `FLASH_BLOCKS` at 0xB60 [10:0], R494. -/
def FLASH_BLOCKS : Field :=
  ⟨.gauge, 0xB60, 0, 11, 0, 1, .ro, .none, .c 0, false, false⟩

/-- `FLASH_RETIRED` at 0xB60 [26:16], R494. -/
def FLASH_RETIRED : Field :=
  ⟨.gauge, 0xB60, 16, 11, 0, 1, .ro, .none, .c 0, false, false⟩

/-- `ERASE_MAX` at 0xB60 [48:32], R494. -/
def ERASE_MAX : Field :=
  ⟨.gauge, 0xB60, 32, 17, 0, 1, .ro, .none, .c 0, false, false⟩

/-- `FLASH_LOST` at 0xB68 [31:0], R494. -/
def FLASH_LOST : Field :=
  ⟨.gauge, 0xB68, 0, 32, 0, 1, .ro, .none, .c 0, false, false⟩

/-- `OFFER_DROPS` at 0xB68 [63:32], R494. -/
def OFFER_DROPS : Field :=
  ⟨.gauge, 0xB68, 32, 32, 0, 1, .ro, .none, .c 0, false, true⟩

/-- `CHALLENGE` at 0xB70 [63:0], R494. -/
def CHALLENGE : Field :=
  ⟨.gauge, 0xB70, 0, 64, 0, 1, .ro, .none, .c 0, false, false⟩

/-- `CLEAR_STATE` at 0xB78 [2:0], R494. -/
def CLEAR_STATE : Field :=
  ⟨.gauge, 0xB78, 0, 3, 0, 1, .ro, .none, .c 0, false, false⟩

/-- `CLEAR_FAILS` at 0xB78 [5:4], R494. -/
def CLEAR_FAILS : Field :=
  ⟨.gauge, 0xB78, 4, 2, 0, 1, .ro, .none, .c 0, false, false⟩

/-- `CHALLENGE_LEFT_S` at 0xB78 [24:16], R494. -/
def CHALLENGE_LEFT_S : Field :=
  ⟨.gauge, 0xB78, 16, 9, 0, 1, .ro, .none, .c 0, false, false⟩

/-- `CLEARS` at 0xB78 [63:32], R494. -/
def CLEARS : Field :=
  ⟨.gauge, 0xB78, 32, 32, 0, 1, .ro, .none, .c 0, false, false⟩

/-- `SUPPRESSED` at 0xB80 + 8(k−1) [31:0], R494. -/
def SUPPRESSED : Field :=
  ⟨.gauge, 0xB80, 0, 32, 64, 19, .ro, .none, .c 0, false, true⟩

/-- `RECORDS` at 0xC18 [31:0], R494. -/
def RECORDS : Field :=
  ⟨.gauge, 0xC18, 0, 32, 0, 1, .ro, .none, .c 0, true, true⟩

/-- `REPEATS` at 0xC18 [63:32], R494. -/
def REPEATS : Field :=
  ⟨.gauge, 0xC18, 32, 32, 0, 1, .ro, .none, .c 0, false, true⟩

/-- `MIRROR_ERRS` at 0xC20 [31:0], R494. -/
def MIRROR_ERRS : Field :=
  ⟨.gauge, 0xC20, 0, 32, 0, 1, .ro, .none, .c 0, false, false⟩

/-- `MIRROR_STATE` at 0xC20 [33:32], R494. -/
def MIRROR_STATE : Field :=
  ⟨.gauge, 0xC20, 32, 2, 0, 1, .ro, .none, .c 0, false, false⟩

/-- `QUEUE_PEAK` at 0xC20 [57:48], R494. -/
def QUEUE_PEAK : Field :=
  ⟨.gauge, 0xC20, 48, 10, 0, 1, .ro, .none, .c 0, false, false⟩

/-- Every field of the page beside its header. -/
def fields : List Field :=
  [MIRROR_EN, MIRROR_PORT, MIRROR_LOG2, REPEAT_WINDOW_MS, MIRROR_HPA, BUCKET_DEPTH, REFILL_MS, READ_SEQ, CLEAR_REQ, CLEAR_RESP, SEQ_HEAD, SEQ_FLOOR, SEQ_FLASH, SEQ_HOST, OP_SECONDS, POWER_CYCLES, REC_W0, REC_W1, REC_W2, REC_W3, READ_STATUS, SEQ_OLDEST, FLASH_BLOCKS, FLASH_RETIRED, ERASE_MAX, FLASH_LOST, OFFER_DROPS, CHALLENGE, CLEAR_STATE, CLEAR_FAILS, CHALLENGE_LEFT_S, CLEARS, SUPPRESSED, RECORDS, REPEATS, MIRROR_ERRS, MIRROR_STATE, QUEUE_PEAK]

end Sys2Proof.Machine.Reg.Gauge

namespace Sys2Proof.Machine.Reg.Mailbox

/-- `MB_OP` at 0x100 [7:0], R508. -/
def MB_OP : Field :=
  ⟨.mailbox, 0x100, 0, 8, 0, 1, .rw, .live, .c 0, false, false⟩

/-- `MB_GO` at 0x100 [63], R508. -/
def MB_GO : Field :=
  ⟨.mailbox, 0x100, 63, 1, 0, 1, .wo, .live, .c 0, false, false⟩

/-- `MB_ARG0` at 0x108 [63:0], R508. -/
def MB_ARG0 : Field :=
  ⟨.mailbox, 0x108, 0, 64, 0, 1, .rw, .live, .c 0, false, false⟩

/-- `MB_ARG1` at 0x110 [63:0], R508. -/
def MB_ARG1 : Field :=
  ⟨.mailbox, 0x110, 0, 64, 0, 1, .rw, .live, .c 0, false, false⟩

/-- `MB_ARG2` at 0x118 [1:0], R508. -/
def MB_ARG2 : Field :=
  ⟨.mailbox, 0x118, 0, 2, 0, 1, .rw, .live, .c 0, false, false⟩

/-- `MB_STATUS` at 0xB00 [1:0], R508. -/
def MB_STATUS : Field :=
  ⟨.mailbox, 0xB00, 0, 2, 0, 1, .ro, .none, .c 0, false, false⟩

/-- `MB_RESULT` at 0xB00 [10:8], R508. -/
def MB_RESULT : Field :=
  ⟨.mailbox, 0xB00, 8, 3, 0, 1, .ro, .none, .c 0, false, false⟩

/-- `MB_SRC` at 0xB00 [19:16], R508. -/
def MB_SRC : Field :=
  ⟨.mailbox, 0xB00, 16, 4, 0, 1, .ro, .none, .c 0, false, false⟩

/-- `MB_REFUSED` at 0xB00 [63:32], R508. -/
def MB_REFUSED : Field :=
  ⟨.mailbox, 0xB00, 32, 32, 0, 1, .ro, .none, .c 0, false, false⟩

/-- `BOOT_STAGE` at 0xB08 [2:0], R508. -/
def BOOT_STAGE : Field :=
  ⟨.mailbox, 0xB08, 0, 3, 0, 1, .ro, .none, .c 0, false, false⟩

/-- `BOOT_SLOT` at 0xB08 [3], R508. -/
def BOOT_SLOT : Field :=
  ⟨.mailbox, 0xB08, 3, 1, 0, 1, .ro, .none, .c 0, false, false⟩

/-- `BOOT_FAIL` at 0xB08 [7:4], R508. -/
def BOOT_FAIL : Field :=
  ⟨.mailbox, 0xB08, 4, 4, 0, 1, .ro, .none, .c 0, false, false⟩

/-- `RESET_CAUSE` at 0xB08 [11:8], R508. -/
def RESET_CAUSE : Field :=
  ⟨.mailbox, 0xB08, 8, 4, 0, 1, .ro, .none, .c 0, false, false⟩

/-- `STRAPS` at 0xB08 [15:12], R508. -/
def STRAPS : Field :=
  ⟨.mailbox, 0xB08, 12, 4, 0, 1, .ro, .none, .c 0, false, false⟩

/-- `PROV_LOCKED` at 0xB08 [16], R508. -/
def PROV_LOCKED : Field :=
  ⟨.mailbox, 0xB08, 16, 1, 0, 1, .ro, .none, .c 0, false, false⟩

/-- `SEC_MIN` at 0xB08 [22:17], R508. -/
def SEC_MIN : Field :=
  ⟨.mailbox, 0xB08, 17, 6, 0, 1, .ro, .none, .c 0, false, false⟩

/-- `FW_RUNNING` at 0xB10 [31:0], R508. -/
def FW_RUNNING : Field :=
  ⟨.mailbox, 0xB10, 0, 32, 0, 1, .ro, .none, .c 0, false, false⟩

/-- `FW_OTHER` at 0xB10 [63:32], R508. -/
def FW_OTHER : Field :=
  ⟨.mailbox, 0xB10, 32, 32, 0, 1, .ro, .none, .c 0, false, false⟩

/-- `BOOT_MS` at 0xB18 [31:0], R508. -/
def BOOT_MS : Field :=
  ⟨.mailbox, 0xB18, 0, 32, 0, 1, .ro, .none, .c 0, false, false⟩

/-- `MGMT_RESTARTS` at 0xB18 [63:32], R508. -/
def MGMT_RESTARTS : Field :=
  ⟨.mailbox, 0xB18, 32, 32, 0, 1, .ro, .none, .c 0, false, false⟩

/-- Every field of the page beside its header. -/
def fields : List Field :=
  [MB_OP, MB_GO, MB_ARG0, MB_ARG1, MB_ARG2, MB_STATUS, MB_RESULT, MB_SRC, MB_REFUSED, BOOT_STAGE, BOOT_SLOT, BOOT_FAIL, RESET_CAUSE, STRAPS, PROV_LOCKED, SEC_MIN, FW_RUNNING, FW_OTHER, BOOT_MS, MGMT_RESTARTS]

end Sys2Proof.Machine.Reg.Mailbox
end

