-- ==== Sys2Proof/Machine/Table.lean ====
section
/-! DEFINITION. Sparse tables: lists of (key, value) pairs with strictly rising keys. Equal contents are equal lists. -/

namespace Sys2Proof.Machine.Tbl

variable {α : Type}

/-- The value listed under a key. -/
def find : List (Nat × α) → Nat → Option α
  | [], _ => none
  | (k', v) :: l, k => if k' = k then some v else find l k

/-- List the value under the key, in place of what was there. -/
def put : List (Nat × α) → Nat → α → List (Nat × α)
  | [], k, v => [(k, v)]
  | (k', v') :: l, k, v =>
    if k < k' then (k, v) :: (k', v') :: l
    else if k = k' then (k, v) :: l
    else (k', v') :: put l k v

/-- List nothing under the key. -/
def del : List (Nat × α) → Nat → List (Nat × α)
  | [], _ => []
  | (k', v') :: l, k => if k' = k then del l k else (k', v') :: del l k

/-- The value listed under a key, or `d` where none is. -/
def getD (l : List (Nat × α)) (k : Nat) (d : α) : α := (find l k).getD d

/-- List `v` under the key, keeping the canonical form in which a value equal to `d` is not listed. -/
def putD [DecidableEq α] (l : List (Nat × α)) (k : Nat) (v d : α) : List (Nat × α) :=
  if v = d then del l k else put l k v

/-- The keys rise strictly. -/
def sorted : List (Nat × α) → Bool
  | [] => true
  | [_] => true
  | (k, _) :: (k', v') :: l => k < k' && sorted ((k', v') :: l)

end Sys2Proof.Machine.Tbl
end

