-- ==== Sys2Proof/Machine/Ops.lean ====
section
/-! DEFINITION. The named operations every meaning is built from: reading and writing a register field, counting in
one, the per-port state, the masks of islands, the messages that leave, and free values. -/

namespace Sys2Proof.Machine

/-- The value of a register field: what is listed at its bit address, else its Reset value (R7). -/
def Mach.rd (m : Mach) (f : Field) (i : Nat := 0) (n : Nat := 0) : Nat :=
  Tbl.getD m.regs (f.addr i n) (f.resetAt i n)

/-- The field as a flag. -/
def Mach.flag (m : Mach) (f : Field) (i : Nat := 0) (n : Nat := 0) : Bool := m.rd f i n != 0

/-- Put a value into a register field, cut to its width; the Reset value is not listed. -/
def Mach.wr (m : Mach) (f : Field) (v : Nat) (i : Nat := 0) (n : Nat := 0) : Mach :=
  { m with regs := Tbl.putD m.regs (f.addr i n) (v % f.lim) (f.resetAt i n) }

/-- Put a flag into a register field. -/
def Mach.wb (m : Mach) (f : Field) (b : Bool) (i : Nat := 0) (n : Nat := 0) : Mach := m.wr f b.toNat i n

/-- Count up in a STATE counter: modulo its width where it wraps, else stopping at all ones (R535). -/
def Mach.inc (m : Mach) (f : Field) (i : Nat := 0) (n : Nat := 0) (d : Nat := 1) : Mach :=
  m.wr f (if f.wraps then (m.rd f i n + d) % f.lim else min (m.rd f i n + d) (f.lim - 1)) i n

/-- Raise a peak field to a value seen. -/
def Mach.peak (m : Mach) (f : Field) (v : Nat) (i : Nat := 0) (n : Nat := 0) : Mach :=
  if m.rd f i n < v then m.wr f (min v (f.lim - 1)) i n else m

/-- The ACTIVE value of a TURN or HALT field (R27). -/
def Mach.act (m : Mach) (f : Field) (i : Nat := 0) (n : Nat := 0) : Nat := m.rd f.act i n

/-- The state machine field of a page. -/
def Mach.fsm (m : Mach) (k : PageKind) (i : Nat := 0) : Nat := m.rd (Reg.Hdr.FSM k) i

/-- Show how many pages are LOCKED (R534). -/
def Mach.showLocked (m : Mach) : Mach :=
  m.wr Reg.Device.PAGES_LOCKED (allPages.filter fun p => m.flag (Reg.Hdr.LOCKED p.kind) p.inst).length

/-- Move a page's state machine. -/
def Mach.setFsm (m : Mach) (k : PageKind) (v : Nat) (i : Nat := 0) : Mach := m.wr (Reg.Hdr.FSM k) v i

/-- `PAGE_CTL.ENABLE` of a page. -/
def Mach.enabled (m : Mach) (k : PageKind) (i : Nat := 0) : Bool := m.flag (Reg.Hdr.ENABLE k) i

/-- `PAGE_STATE.HALTED` of a page. -/
def Mach.halted (m : Mach) (k : PageKind) (i : Nat := 0) : Bool := m.flag (Reg.Hdr.HALTED k) i

/-- A page is asked to halt, or is HALTED: its block starts no new work (R44). -/
def Mach.quiet (m : Mach) (k : PageKind) (i : Nat := 0) : Bool := m.flag (Reg.Hdr.HALT k) i || m.halted k i

/-- The tide moves on to the time of a command and never back (R14). -/
def Mach.at (m : Mach) (t : Nat) : Mach := { m with tide := max m.tide t }

/-- The low 32 bits of the tide, as events carry them. -/
def Mach.tide32 (m : Mach) : Nat := m.tide % 2 ^ 32

/-- The state of a host port. -/
def Mach.port (m : Mach) (p : Nat) : PortX := Tbl.getD m.ports p {}

/-- Replace the state of a host port. -/
def Mach.setPort (m : Mach) (p : Nat) (x : PortX) : Mach := { m with ports := Tbl.put m.ports p x }

/-- Change the state of a host port. -/
def Mach.modPort (m : Mach) (p : Nat) (f : PortX → PortX) : Mach := m.setPort p (f (m.port p))

/-- Send a message out of the device. -/
def Mach.emit (m : Mach) (o : OutMsg) : Mach := { m with out := m.out ++ [o] }

/-- The next free value, which nothing constrains. -/
def Mach.fresh (m : Mach) : BitVec 512 := Config.freeValue m.free

/-- Use up the next free value. -/
def Mach.nextFree (m : Mach) : Mach := { m with free := m.free + 1 }

/-- Apply a change once for each element of a list, in order. -/
def Mach.each {α : Type} (m : Mach) (l : List α) (f : Mach → α → Mach) : Mach := l.foldl f m

/-- The nanoseconds spent so far in power state `k`, the stay in progress included (R474). -/
def Mach.powerNs (m : Mach) (k : Nat) : Nat :=
  Tbl.getD m.pw.inNs k 0 + (if m.pw.st = k then m.tide - m.pw.since else 0)

/-- Leave a power state: its time is added up (R474). -/
def Mach.enterPower (m : Mach) (st : Nat) : Mach :=
  { m with pw := { m.pw with st := st, since := m.tide, inNs := Tbl.put m.pw.inNs m.pw.st (m.powerNs m.pw.st) } }

/-- Activity of any kind ends SLACK (R462): the gated islands run again and the host links return to full width. -/
def Mach.awake (m : Mach) : Mach :=
  if m.pw.st = 1 then
    (m.enterPower 0).each [0, 1, 2, 3] fun m p =>
      if m.fsm .hostPort p = 3 || m.fsm .hostPort p = 4 then m.setFsm .hostPort 2 p else m
  else m

/-- Whether an island stands still because its domain is dropped: a host port's or a Culvert link's while CORE is on, MGMT's and SLUICE's
in FALLOW and DORMANT (R458, R459). -/
def Mach.domainDown (m : Mach) (i : Nat) : Bool :=
  let on := fun d => (m.rd Reg.Power.DOMAIN_ON).testBit d
  2 ≤ m.pw.st && ((i = 37 && !on 12) || (i = 38 && !on 13)) ||
  on 4 && ((i < 4 && !on i) || (29 ≤ i && i ≤ 32 && !on 10) || (33 ≤ i && i ≤ 36 && !on 11))

/-- Whether the island's clock is stopped on purpose or lost, as `ISLAND_DOWN` reads it (R26, R459). -/
def Mach.islandDown (m : Mach) (i : Nat) : Bool :=
  (m.rd Reg.Clock.ISLAND_PARKED).testBit i || m.clk.lost.testBit i || m.domainDown i

/-- The lock bit of what clocks an island: islands 38 and 39 run from the crystal (R11, DEDUCED, log entry 34). -/
def pllOf (i : Nat) : Field :=
  if 13 ≤ i && i ≤ 28 then Reg.Clock.DDR_LOCK else if 29 ≤ i && i ≤ 36 then Reg.Clock.CULVERT_LOCK
  else if i = 12 then Reg.Clock.CISTERN_LOCK else if i = 37 then Reg.Clock.MGMT_LOCK
  else if 38 ≤ i then Reg.Clock.XTAL_OK else Reg.Clock.CORE_LOCK

/-- The switchable domain of an island; island 39 is in none (R459). -/
def islandDomain (i : Nat) : Option Nat :=
  if i < 4 then some i else if i = 4 || i = 6 || i = 7 then some 4 else if i = 5 then some 6 else if i < 12 then some 5
  else if i = 12 then some 7 else if i < 21 then some 8 else if i < 29 then some 9 else if i < 33 then some 10
  else if i < 37 then some 11 else if i < 39 then some (i - 25) else none

/-- Whether an island's domain is powered. -/
def Mach.islandPowered (m : Mach) (i : Nat) : Bool :=
  match islandDomain i with
  | some d => (m.rd Reg.Power.DOMAIN_ON).testBit d
  | none => true

/-- The islands gated in SLACK: 0 to 3, 5 to 12 and 13 to 28 (R458). -/
def slackMask : Nat := 2 ^ 29 - 1 - 2 ^ 4

/-- Whether an island's clock runs and is locked, as `ISLAND_RUN` shows: its domain is powered and its PLL locked, and it is not
parked, not lost and not gated in SLACK (R13, R25, R458). -/
def Mach.islandRuns (m : Mach) (i : Nat) : Bool :=
  m.flag (pllOf i) && m.islandPowered i && !(m.rd Reg.Clock.ISLAND_PARKED).testBit i && !m.clk.lost.testBit i &&
  !(m.pw.st = 1 && slackMask.testBit i)

/-- The nanoseconds that `CALL` level `k` has been in use so far, the stay in progress included while the port's island runs (R26,
R150). -/
def Mach.callNs (m : Mach) (p k : Nat) : Nat :=
  Tbl.getD (m.port p).callNs k 0 +
    (if m.rd Reg.Headgate.CALL_USED p = k && !m.islandDown p then m.tide - (m.port p).callSince else 0)

/-- The stay at a port's `CALL` level so far is added up: before its island stops, and once it runs again (R26, R150). -/
def Mach.markCall (m : Mach) (p : Nat) : Mach :=
  let k := m.rd Reg.Headgate.CALL_USED p
  m.modPort p fun x => { x with callNs := Tbl.put x.callNs k (m.callNs p k), callSince := m.tide }

/-- Whether the management core is away: it restarts under R507. -/
def Mach.coreAway (m : Mach) : Bool := m.boot.restart.isSome

/-- Set or clear bit `i` of a mask. -/
def setBit (mask i : Nat) (b : Bool) : Nat :=
  if mask.testBit i = b then mask else if b then mask + 2 ^ i else mask - 2 ^ i

/-- Bits `hi` to `lo` of a number. -/
def bits (v hi lo : Nat) : Nat := v / 2 ^ lo % 2 ^ (hi + 1 - lo)

/-- The list without its element at an index. -/
def dropAt {α : Type} : List α → Nat → List α
  | [], _ => []
  | _ :: l, 0 => l
  | x :: l, n + 1 => x :: dropAt l n

/-- The list with its element at an index replaced. -/
def setAt {α : Type} : List α → Nat → α → List α
  | [], _, _ => []
  | _ :: l, 0, y => y :: l
  | x :: l, n + 1, y => x :: setAt l n y

end Sys2Proof.Machine
end

