-- ==== Sys2Proof/Machine/Live.lean ====
section
/-! DEFINITION. The values that the tables list for LIVE fields: a reserved encoding leaves the field as it was (R4). -/

namespace Sys2Proof.Machine

/-- The values that the tables list for a LIVE field, lowest and highest; every value of a field that is not here is listed. -/
def liveRange : List (Field × Nat × Nat) :=
  [(Reg.HostPort.MAX_RATE, 0, 6), (Reg.Allotment.PAGE_HINT, 0, 2), (Reg.Allotment.WEIGHT, 1, 15), (Reg.Siphon.CMD_OP, 1, 9),
   (Reg.Siphon.CMD_PEER_SLOT, 1, 7), (Reg.Siphon.CMD_MODE, 1, 2), (Reg.Levee.REPAIR_TURNS, 1, 15), (Reg.Levee.FLIP_MODE, 0, 2), (Reg.Levee.FLIP_COUNT, 1, 255),
   (Reg.Furrow.STEP_US, 1, 1000), (Reg.Rekey.RK_STEP_US, 1, 1000), (Reg.Canal.AUTO_OPEN_NS, 8, 255),
   (Reg.Canal.OPEN_MAX_US, 1, 255), (Reg.Canal.HIT_BYPASS, 0, 4), (Reg.Canal.WR_BATCH, 1, 32),
   (Reg.Canal.CAPAR_LIMIT, 1, 255), (Reg.Canal.THERM_TRIP_C, 85, 105)] ++
  [(Reg.Crypto.ZERO_MODE, 0, 2), (Reg.Crypto.ZERO_THRESH, 1, 255), (Reg.Crypto.ZERO_WINDOW_MS, 1, 65535),
   (Reg.Culvert.RETRAIN_MAX, 1, 15), (Reg.Culvert.NAK_RETRY_NS, 100, 65535), (Reg.Culvert.NAK_LIMIT, 1, 65535),
   (Reg.Culvert.SPARE_WINDOW_MS, 1, 255), (Reg.Turnout.FACK_NS, 50, 10000), (Reg.Twin.DIVERSE_NS, 200, 65535),
   (Reg.Power.SLACK_IDLE_US, 1, 1023), (Reg.Power.SLACK_LINK, 0, 2), (Reg.Power.WAKE_HOLD_MS, 1, 255),
   (Reg.Gauge.MIRROR_LOG2, 6, 20), (Reg.Gauge.REPEAT_WINDOW_MS, 1, 65535), (Reg.Gauge.BUCKET_DEPTH, 1, 255),
   (Reg.Gauge.REFILL_MS, 1, 65535)]

/-- Whether the tables list a value for a LIVE field (R4). -/
def liveOk (f : Field) (v : Nat) : Bool :=
  match liveRange.find? fun e => e.1 = f with
  | some e => e.2.1 ≤ v && v ≤ e.2.2
  | none => true

/-- A write to a LIVE field; a reserved encoding is ignored (R4). -/
def Mach.wrLive (m : Mach) (f : Field) (v : Nat) (i : Nat := 0) (n : Nat := 0) : Mach := if liveOk f v then m.wr f v i n else m

end Sys2Proof.Machine
end

