-- ==== Sys2Proof/Machine/Events.lean ====
section
/-! DEFINITION. Raising an event: its `EVT_STATUS` bit, the MSI-X messages of the ports that route the page (R51, R76),
and its offer to the Gauge Book through the token bucket and the recorder queue (R480, R481). -/

namespace Sys2Proof.Machine

/-- The codes of severity 6 SECURITY (R492). -/
def sev6 : List Nat := [0x0415, 0x2810, 0x2813, 0x2815, 0x2817, 0x2818, 0x4410, 0x4415]
/-- The codes of severity 5 CRITICAL (R492). -/
def sev5 : List Nat :=
  [0x0C11, 0x1013, 0x1818, 0x1C14, 0x2412, 0x2C17, 0x3016, 0x3017, 0x3411, 0x3813, 0x3817, 0x3C12, 0x4C10]
/-- The codes of severity 4 ERROR (R492). -/
def sev4 : List Nat :=
  [0x0414, 0x0830, 0x0C13, 0x1410, 0x1816, 0x1817, 0x1C10, 0x1C12, 0x1C13, 0x2012, 0x2411, 0x2413, 0x2415, 0x2418,
   0x241A, 0x2C11, 0x3013, 0x3015, 0x301C, 0x3413, 0x3414, 0x3816, 0x381A, 0x3C11, 0x3C1A, 0x4414, 0x4417]
/-- The codes of severity 3 WARNING, beside code 0x002 of every class (R492). -/
def sev3 : List Nat :=
  [0x0411, 0x0413, 0x0811, 0x0C14, 0x0C40, 0x1011, 0x1813, 0x1815, 0x1C15, 0x1C17, 0x1C18, 0x2416, 0x2417, 0x2814,
   0x2C12, 0x2C14, 0x2C15, 0x3014, 0x3019, 0x301A, 0x3415, 0x3814, 0x3815, 0x3819, 0x3C15, 0x3C16, 0x3C17, 0x3C19,
   0x4012, 0x4014, 0x4413, 0x4416, 0x4811, 0x4812]
/-- The codes of severity 2 NOTICE (R492). -/
def sev2 : List Nat := [0x0C41, 0x0C42, 0x1C11, 0x1C16, 0x2013]

/-- The fixed severity of an event code (R492). -/
def severity (code : Nat) : Nat :=
  if sev6.contains code then 6 else if sev5.contains code then 5 else if sev4.contains code then 4
  else if sev3.contains code || code % 1024 = 2 then 3 else if sev2.contains code then 2 else 1

/-- The whole event code of a class and a code within it (R49). -/
def evtCode (k : PageKind) (c : Nat) : Nat := evtClass k * 1024 + c

/-- Stands for the `RECORD` bit of the Gauge Book page, `EVT_STATUS` bit 4 (R494). -/
def recordEvt : Nat := 0x10000

/-- The bit of `BLOCK_EVT` that a block-specific event sets: bit 0 for `RECORD`; the spec gives no other. -/
def blockBit (code : Nat) : Nat := if code = recordEvt then 0 else Config.evtBit code % 60

/-- The page's number in BAR0. -/
def pageNo (p : PageId) : Nat := pageBase p.kind + p.inst

/-- Whether (`EVT_STATUS` AND `EVT_ENABLE`) of the page is not zero (R76). -/
def Mach.evtActive (m : Mach) (p : PageId) : Bool :=
  (m.rd (Reg.Hdr.EVT_ENABLE p.kind) p.inst &&& m.rd (Reg.Hdr.EVT_STATUS p.kind) p.inst) != 0 ||
  (m.rd (Reg.Hdr.BLOCK_EVT_ENABLE p.kind) p.inst != 0 &&
    m.blkEvt.any fun e =>
      e.1 = pageNo p && (m.rd (Reg.Hdr.BLOCK_EVT_ENABLE p.kind) p.inst).testBit (blockBit e.2))

/-- Whether the port routes the page to itself (R76). -/
def Mach.routed (m : Mach) (p : PageId) (port : Nat) : Bool :=
  let o := pageOrdinal p.kind p.inst
  if o < 64 then (m.rd Reg.HostPort.MSIX_ROUTE_LO port).testBit o
  else (m.rd Reg.HostPort.MSIX_ROUTE_HI port).testBit (o - 64)

/-- Send a vector of a port's function: the message, or its PBA bit where the vector is masked (R76). Nothing is sent
while an FLR or a link drop has silenced the function (R78, R80). -/
def Mach.sendVec (m : Mach) (port vec : Nat) : Mach :=
  if !m.flag Reg.HostPort.DL_UP port || (m.port port).flrSince.isSome then m
  else if (m.port port).vecOpen.contains vec then m.emit (.msix port vec)
  else m.modPort port fun x => if x.vecPend.contains vec then x else { x with vecPend := x.vecPend ++ [vec] }

/-- Send the page's vector on every port that routes it (R76). -/
def Mach.sendPage (m : Mach) (p : PageId) : Mach :=
  m.each [0, 1, 2, 3] fun m q => if m.routed p q then m.sendVec q (pageOrdinal p.kind p.inst) else m

/-- Do something to a page's event registers, and send its vector on the edge from inactive to active (R76). -/
def Mach.withEdge (m : Mach) (p : PageId) (f : Mach → Mach) : Mach :=
  let m' := f m
  if !m.evtActive p && m'.evtActive p then m'.sendPage p else m'

/-- Set a common event bit of `EVT_STATUS`: 0 APPLIED, 1 REJECTED, 2 HALT_REACHED, 3 SNAP_TAKEN. -/
def Mach.setCommon (m : Mach) (p : PageId) (b : Nat) : Mach :=
  m.withEdge p fun m =>
    m.wr (Reg.Hdr.EVT_STATUS p.kind) (setBit (m.rd (Reg.Hdr.EVT_STATUS p.kind) p.inst) b true) p.inst

/-- Set the bit of a block-specific event (R51). -/
def Mach.setBlock (m : Mach) (p : PageId) (code : Nat) : Mach :=
  m.withEdge p fun m =>
    if m.blkEvt.contains (pageNo p, code) then m else { m with blkEvt := m.blkEvt ++ [(pageNo p, code)] }

/-- Count an event discarded at the recorder queue and open or lengthen the run of discards (R481). -/
def Mach.dropOffer (m : Mach) (e : Event) : Mach :=
  let m := m.inc Reg.Gauge.OFFER_DROPS
  match m.gb.dropWait with
  | some r => { m with gb := { m.gb with dropWait := some { r with count := r.count + 1 } } }
  | none =>
    if m.gb.dropSeen then m
    else { m with gb := { m.gb with
      dropSeen := true, dropWait := some ⟨m.rd Reg.Gauge.SEQ_HEAD % 2 ^ 32, 1, e.tide⟩ } }

/-- Put an event at the tail of the recorder queue. -/
def Mach.enqueue (m : Mach) (e : Event) : Mach :=
  let m := { m with gb := { m.gb with queue := m.gb.queue ++ [e] } }
  m.peak Reg.Gauge.QUEUE_PEAK m.gb.queue.length

/-- The newest queued event of severity 1 to 4, if there is one, and the queue without it. -/
def dropNewestLow (q : List Event) : Option (Event × List Event) :=
  match q.reverse.findIdx? (fun e => severity e.code < 5) with
  | none => none
  | some k => (q.reverse[k]?).map fun e => (e, (dropAt q.reverse k).reverse)

/-- An offered event joins the recorder queue of 512 entries, the last 32 kept for severities 5 and 6 (R481). -/
def Mach.offer (m : Mach) (e : Event) : Mach :=
  if severity e.code < 5 then
    if m.gb.queue.length < 480 then m.enqueue e else m.dropOffer e
  else if m.gb.queue.length < 512 then m.enqueue e
  else
    match dropNewestLow m.gb.queue with
    | some (low, q) => ({ m with gb := { m.gb with queue := q } }.dropOffer low).enqueue e
    | none => m.dropOffer e

/-- The key of an event's token bucket: one bucket per page and code (R480). -/
def bucketKey (p : PageId) (code : Nat) : Nat := pageNo p * 0x20000 + code

/-- The token bucket decides the offer; severities 5 and 6 and event 0x4414 take no token (R480). -/
def Mach.offerByBucket (m : Mach) (p : PageId) (e : Event) : Mach :=
  let k := e.code / 1024
  let key := bucketKey p e.code
  let used := Tbl.getD m.gb.bucketUsed key 0
  if 5 ≤ severity e.code || e.code = 0x4414 then m.offer e
  else if used < m.rd Reg.Gauge.BUCKET_DEPTH 0 (k - 1) then
    { m with gb := { m.gb with bucketUsed := Tbl.put m.gb.bucketUsed key (used + 1) } }.offer e
  else m.inc Reg.Gauge.SUPPRESSED 0 (k - 1)

/-- Levee and Canal events enter the CXL event log of every function (R68); vector 130 on the edge from empty (R75). -/
def Mach.logCxl (m : Mach) (k : PageKind) (e : Event) : Mach :=
  if k = .levee || k = .canal then
    m.each [0, 1, 2, 3] fun m p =>
      let was := (m.port p).evtLog
      let m := m.modPort p fun x => { x with evtLog := x.evtLog ++ [e] }
      if was.isEmpty then m.sendVec p 130 else m
  else m

/-- Raise a block-specific event of a page (R51). -/
def Mach.raise (m : Mach) (k : PageKind) (i code p0 p1 p2 : Nat) : Mach :=
  let m := m.setBlock ⟨k, i⟩ code
  let m := m.logCxl k ⟨code, i, p0 % 2 ^ 32, p1 % 2 ^ 32, p2 % 2 ^ 32, m.tide⟩
  m.offerByBucket ⟨k, i⟩ ⟨code, i, p0 % 2 ^ 32, p1 % 2 ^ 32, p2 % 2 ^ 32, m.tide⟩

/-- Raise a block-specific event whose parameter 2 is the tide [31:0]. -/
def Mach.event (m : Mach) (k : PageKind) (i code p0 p1 : Nat) : Mach := m.raise k i code p0 p1 m.tide32

/-- Record a common page event of R50 (codes 0x001 to 0x005); its `EVT_STATUS` bit where it has one. -/
def Mach.pageEvent (m : Mach) (p : PageId) (c p1 : Nat) : Mach :=
  let m := match c with
    | 1 => m.setCommon p 0
    | 2 => m.setCommon p 1
    | 3 => m.setCommon p 2
    | _ => m
  m.offerByBucket p
    ⟨evtCode p.kind c, p.inst, pageOffset p, p1 % 2 ^ 32, m.rd Reg.Clock.TURN_INDEX % 2 ^ 32, m.tide⟩

/-- A block reaches HALTED: the flag and event 0x003, once (R44). -/
def Mach.reachHalted (m : Mach) (k : PageKind) (i : Nat) : Mach :=
  if m.halted k i then m
  else (m.wr (Reg.Hdr.HALTED k) 1 i).pageEvent ⟨k, i⟩ 3 0

/-- Whether a source may write: the management core always, another by its CFG_WRITERS bit (R31). -/
def Mach.mayWrite (m : Mach) (src : Nat) : Bool :=
  if src = 5 then true
  else if src = 4 then m.flag Reg.Device.BMC_WR
  else (m.rd Reg.Device.PORT_WR).testBit src

/-- Count a write that CFG_WRITERS turned away (R31). -/
def Mach.blocked (m : Mach) (src : Nat) : Mach :=
  (m.inc Reg.Device.BLOCKED_WRITES).wr Reg.Device.BLOCKED_SRC src

/-- A register write by a source: its effect, or the count of R31. It ends SLACK (R462); no page is reachable while CORE
is off (R459). -/
def Mach.written (m : Mach) (src : Nat) (f : Mach → Mach) : Mach :=
  if 2 ≤ m.pw.st then m
  else if m.mayWrite src then f m.awake
  else m.awake.blocked src

/-- A write that is turned away whatever `CFG_WRITERS` says, and counted (R31, R435). -/
def Mach.turnedAway (m : Mach) (src : Nat) : Mach := if 2 ≤ m.pw.st then m else m.awake.blocked src

/-- A write to the header of a page: channels 8 and 9 of the Sluice take none from a host port (R435). -/
def Mach.ctlWrite (m : Mach) (p : PageId) (src : Nat) (f : Mach → Mach) : Mach :=
  if p.kind = .sluice && 8 ≤ p.inst && src < 4 then m.turnedAway src else m.written src f

/-- A write to the STAGE area of a page: the source is noted (R30) and the write has its effect. -/
def Mach.stageWrite (m : Mach) (k : PageKind) (i src : Nat) (f : Mach → Mach) : Mach :=
  m.written src fun m => f (m.wr (Reg.Hdr.SRC k) src i)

/-! ### Entries of the internal operation tracker (R94, R124) -/

/-- Show the tracker's use (R124). -/
def Mach.showTrack (m : Mach) (k : Nat) : Mach :=
  let n := (m.mover.tracks.filter fun t => t.2.kind = k).length
  let sh := (m.mover.tracks.filter fun t => t.2.shared).length
  let m := (m.wr Reg.DataMover.TRACK_USED n 0 k).peak Reg.DataMover.TRACK_PEAK n 0 k
  (m.wr Reg.DataMover.SHARED_USED sh).peak Reg.DataMover.SHARED_PEAK sh

/-- Free a tracker entry. -/
def Mach.untrack (m : Mach) (n : Nat) : Mach :=
  match Tbl.find m.mover.tracks n with
  | some t => { m with mover := { m.mover with tracks := Tbl.del m.mover.tracks n } }.showTrack t.kind
  | none => m

/-- The step of a kind ends: its tracker entry is free. -/
def Mach.stepFree (m : Mach) (k : Nat) : Mach :=
  match Tbl.find m.mover.steps k with
  | some n => ({ m with mover := { m.mover with steps := Tbl.del m.mover.steps k } } : Mach).untrack n
  | none => m

end Sys2Proof.Machine
end

