-- ==== Sys2Proof/Machine/Prims.lean ====
section
/-! DEFINITION. The named algorithms the spec builds on: CRC-32C and CRC-32 (R235, R326), AES-256 with XTS and CMAC
(R293, R299), SHA-256 and HMAC (R489). The spec names them and gives their parameters; their inner steps are the
published ones (PRESUMED, log entry 20). Bytes are numbers below 256; a block is a list of bytes. -/

namespace Sys2Proof.Machine

/-! ### Bytes -/

/-- The `n` low bytes of a number, least significant first. -/
def leBytes : Nat → Nat → List Nat
  | 0, _ => []
  | n + 1, v => v % 256 :: leBytes n (v / 256)

/-- The number whose bytes are these, least significant first. -/
def fromLe : List Nat → Nat
  | [] => 0
  | b :: l => b % 256 + 256 * fromLe l

/-- The `n` low bytes of a number, most significant first. -/
def beBytes (n v : Nat) : List Nat := (leBytes n v).reverse

/-- The number whose bytes are these, most significant first. -/
def fromBe (l : List Nat) : Nat := fromLe l.reverse

/-- Exclusive or of two byte lists. -/
def xorBytes : List Nat → List Nat → List Nat
  | a :: l, b :: r => (a ^^^ b) :: xorBytes l r
  | _, _ => []

/-! ### Cyclic checks -/

/-- Shift a reflected CRC register by `n` bits. -/
def crcShift (poly : Nat) : Nat → Nat → Nat
  | 0, c => c
  | n + 1, c => crcShift poly n (c / 2 ^^^ poly * (c % 2))

/-- A reflected CRC of 32 bits with initial value and final XOR of all ones; `poly` is the reflected polynomial. -/
def crcOf (poly : Nat) (bs : List Nat) : Nat :=
  bs.foldl (fun c b => crcShift poly 8 (c ^^^ (b % 256))) 0xFFFFFFFF ^^^ 0xFFFFFFFF

/-- CRC-32C: polynomial 0x1EDC6F41, reflected (R235). -/
def crc32c (bs : List Nat) : Nat := crcOf 0x82F63B78 bs

/-- CRC-32: polynomial 0x04C11DB7, reflected (R326). -/
def crc32 (bs : List Nat) : Nat := crcOf 0xEDB88320 bs

/-! ### AES-256 -/

/-- The substitution box. -/
def sbox : List Nat :=
  [0x63, 0x7C, 0x77, 0x7B, 0xF2, 0x6B, 0x6F, 0xC5, 0x30, 0x01, 0x67, 0x2B, 0xFE, 0xD7, 0xAB, 0x76,
   0xCA, 0x82, 0xC9, 0x7D, 0xFA, 0x59, 0x47, 0xF0, 0xAD, 0xD4, 0xA2, 0xAF, 0x9C, 0xA4, 0x72, 0xC0,
   0xB7, 0xFD, 0x93, 0x26, 0x36, 0x3F, 0xF7, 0xCC, 0x34, 0xA5, 0xE5, 0xF1, 0x71, 0xD8, 0x31, 0x15,
   0x04, 0xC7, 0x23, 0xC3, 0x18, 0x96, 0x05, 0x9A, 0x07, 0x12, 0x80, 0xE2, 0xEB, 0x27, 0xB2, 0x75] ++
  [0x09, 0x83, 0x2C, 0x1A, 0x1B, 0x6E, 0x5A, 0xA0, 0x52, 0x3B, 0xD6, 0xB3, 0x29, 0xE3, 0x2F, 0x84,
   0x53, 0xD1, 0x00, 0xED, 0x20, 0xFC, 0xB1, 0x5B, 0x6A, 0xCB, 0xBE, 0x39, 0x4A, 0x4C, 0x58, 0xCF,
   0xD0, 0xEF, 0xAA, 0xFB, 0x43, 0x4D, 0x33, 0x85, 0x45, 0xF9, 0x02, 0x7F, 0x50, 0x3C, 0x9F, 0xA8,
   0x51, 0xA3, 0x40, 0x8F, 0x92, 0x9D, 0x38, 0xF5, 0xBC, 0xB6, 0xDA, 0x21, 0x10, 0xFF, 0xF3, 0xD2] ++
  [0xCD, 0x0C, 0x13, 0xEC, 0x5F, 0x97, 0x44, 0x17, 0xC4, 0xA7, 0x7E, 0x3D, 0x64, 0x5D, 0x19, 0x73,
   0x60, 0x81, 0x4F, 0xDC, 0x22, 0x2A, 0x90, 0x88, 0x46, 0xEE, 0xB8, 0x14, 0xDE, 0x5E, 0x0B, 0xDB,
   0xE0, 0x32, 0x3A, 0x0A, 0x49, 0x06, 0x24, 0x5C, 0xC2, 0xD3, 0xAC, 0x62, 0x91, 0x95, 0xE4, 0x79,
   0xE7, 0xC8, 0x37, 0x6D, 0x8D, 0xD5, 0x4E, 0xA9, 0x6C, 0x56, 0xF4, 0xEA, 0x65, 0x7A, 0xAE, 0x08] ++
  [0xBA, 0x78, 0x25, 0x2E, 0x1C, 0xA6, 0xB4, 0xC6, 0xE8, 0xDD, 0x74, 0x1F, 0x4B, 0xBD, 0x8B, 0x8A,
   0x70, 0x3E, 0xB5, 0x66, 0x48, 0x03, 0xF6, 0x0E, 0x61, 0x35, 0x57, 0xB9, 0x86, 0xC1, 0x1D, 0x9E,
   0xE1, 0xF8, 0x98, 0x11, 0x69, 0xD9, 0x8E, 0x94, 0x9B, 0x1E, 0x87, 0xE9, 0xCE, 0x55, 0x28, 0xDF,
   0x8C, 0xA1, 0x89, 0x0D, 0xBF, 0xE6, 0x42, 0x68, 0x41, 0x99, 0x2D, 0x0F, 0xB0, 0x54, 0xBB, 0x16]

/-- The inverse substitution box. -/
def invSbox : List Nat :=
  [0x52, 0x09, 0x6A, 0xD5, 0x30, 0x36, 0xA5, 0x38, 0xBF, 0x40, 0xA3, 0x9E, 0x81, 0xF3, 0xD7, 0xFB,
   0x7C, 0xE3, 0x39, 0x82, 0x9B, 0x2F, 0xFF, 0x87, 0x34, 0x8E, 0x43, 0x44, 0xC4, 0xDE, 0xE9, 0xCB,
   0x54, 0x7B, 0x94, 0x32, 0xA6, 0xC2, 0x23, 0x3D, 0xEE, 0x4C, 0x95, 0x0B, 0x42, 0xFA, 0xC3, 0x4E,
   0x08, 0x2E, 0xA1, 0x66, 0x28, 0xD9, 0x24, 0xB2, 0x76, 0x5B, 0xA2, 0x49, 0x6D, 0x8B, 0xD1, 0x25] ++
  [0x72, 0xF8, 0xF6, 0x64, 0x86, 0x68, 0x98, 0x16, 0xD4, 0xA4, 0x5C, 0xCC, 0x5D, 0x65, 0xB6, 0x92,
   0x6C, 0x70, 0x48, 0x50, 0xFD, 0xED, 0xB9, 0xDA, 0x5E, 0x15, 0x46, 0x57, 0xA7, 0x8D, 0x9D, 0x84,
   0x90, 0xD8, 0xAB, 0x00, 0x8C, 0xBC, 0xD3, 0x0A, 0xF7, 0xE4, 0x58, 0x05, 0xB8, 0xB3, 0x45, 0x06,
   0xD0, 0x2C, 0x1E, 0x8F, 0xCA, 0x3F, 0x0F, 0x02, 0xC1, 0xAF, 0xBD, 0x03, 0x01, 0x13, 0x8A, 0x6B] ++
  [0x3A, 0x91, 0x11, 0x41, 0x4F, 0x67, 0xDC, 0xEA, 0x97, 0xF2, 0xCF, 0xCE, 0xF0, 0xB4, 0xE6, 0x73,
   0x96, 0xAC, 0x74, 0x22, 0xE7, 0xAD, 0x35, 0x85, 0xE2, 0xF9, 0x37, 0xE8, 0x1C, 0x75, 0xDF, 0x6E,
   0x47, 0xF1, 0x1A, 0x71, 0x1D, 0x29, 0xC5, 0x89, 0x6F, 0xB7, 0x62, 0x0E, 0xAA, 0x18, 0xBE, 0x1B,
   0xFC, 0x56, 0x3E, 0x4B, 0xC6, 0xD2, 0x79, 0x20, 0x9A, 0xDB, 0xC0, 0xFE, 0x78, 0xCD, 0x5A, 0xF4] ++
  [0x1F, 0xDD, 0xA8, 0x33, 0x88, 0x07, 0xC7, 0x31, 0xB1, 0x12, 0x10, 0x59, 0x27, 0x80, 0xEC, 0x5F,
   0x60, 0x51, 0x7F, 0xA9, 0x19, 0xB5, 0x4A, 0x0D, 0x2D, 0xE5, 0x7A, 0x9F, 0x93, 0xC9, 0x9C, 0xEF,
   0xA0, 0xE0, 0x3B, 0x4D, 0xAE, 0x2A, 0xF5, 0xB0, 0xC8, 0xEB, 0xBB, 0x3C, 0x83, 0x53, 0x99, 0x61,
   0x17, 0x2B, 0x04, 0x7E, 0xBA, 0x77, 0xD6, 0x26, 0xE1, 0x69, 0x14, 0x63, 0x55, 0x21, 0x0C, 0x7D]

/-- The boxes as numbers: byte `x` is the value for `x`. -/
def sboxWord : Nat := fromLe sbox
def invSboxWord : Nat := fromLe invSbox

/-- Substitute a byte. -/
def subByte (x : Nat) : Nat := sboxWord / 2 ^ (8 * x) % 256

/-- Substitute a byte back. -/
def invSubByte (x : Nat) : Nat := invSboxWord / 2 ^ (8 * x) % 256

/-- Times 2 in the field of the cipher. -/
def xtime (a : Nat) : Nat := 2 * a % 256 ^^^ 0x1B * (a / 128)

/-- A product in the field of the cipher; `n` bits of `b` are used. -/
def gfMul : Nat → Nat → Nat → Nat
  | 0, _, _ => 0
  | n + 1, a, b => a * (b % 2) ^^^ gfMul n (xtime a) (b / 2)

/-- Substitute the four bytes of a word. -/
def subWord (w : List Nat) : List Nat := w.map subByte

/-- One word of the key schedule after those in `ws`, newest first (8 words to a key). -/
def nextKeyWord (ws : List (List Nat)) (i rcon : Nat) : List Nat :=
  let prev := ws.getD 0 []
  let back := ws.getD 7 []
  let t := if i % 8 = 0 then xorBytes (subWord (prev.drop 1 ++ prev.take 1)) [rcon, 0, 0, 0]
    else if i % 8 = 4 then subWord prev
    else prev
  xorBytes back t

/-- The key schedule: 60 words, newest first. -/
def keyWords : Nat → Nat → Nat → List (List Nat) → List (List Nat)
  | 0, _, _, ws => ws
  | n + 1, i, rcon, ws =>
    keyWords n (i + 1) (if i % 8 = 0 then xtime rcon else rcon) (nextKeyWord ws i rcon :: ws)

/-- Cut a list into pieces of `k`, at most `n` of them. -/
def pieces (k : Nat) : Nat → List Nat → List (List Nat)
  | 0, _ => []
  | n + 1, l => l.take k :: pieces k n (l.drop k)

/-- The 15 round keys of a 32-byte key, in order. -/
def roundKeys (key : List Nat) : List (List Nat) :=
  pieces 16 15 ((keyWords 52 8 1 (pieces 4 8 key).reverse).reverse.flatten)

/-- Row shift: byte `4c + r` comes from column `c + r`. -/
def shiftRows (s : List Nat) : List Nat :=
  (List.range 16).map fun j => s.getD ((4 * (j / 4 + j % 4) + j % 4) % 16) 0

/-- Row shift undone. -/
def invShiftRows (s : List Nat) : List Nat :=
  (List.range 16).map fun j => s.getD ((4 * (j / 4 + 4 - j % 4) + j % 4) % 16) 0

/-- Mix one column with the coefficients given. -/
def mixCol (k : List Nat) (c : List Nat) : List Nat :=
  (List.range 4).map fun r =>
    (List.range 4).foldl (fun a j => a ^^^ gfMul 4 (c.getD j 0) (k.getD ((j + 4 - r) % 4) 0)) 0

/-- Mix the four columns. -/
def mixCols (k : List Nat) (s : List Nat) : List Nat := ((pieces 4 4 s).map (mixCol k)).flatten

/-- AES-256 of one block. -/
def aesEnc (key block : List Nat) : List Nat :=
  let ks := roundKeys key
  let s := xorBytes block (ks.getD 0 [])
  let s := (List.range 13).foldl
    (fun s r => xorBytes (mixCols [2, 3, 1, 1] (shiftRows (s.map subByte))) (ks.getD (r + 1) [])) s
  xorBytes (shiftRows (s.map subByte)) (ks.getD 14 [])

/-- AES-256 of one block, inverted. -/
def aesDec (key block : List Nat) : List Nat :=
  let ks := roundKeys key
  let s := (invShiftRows (xorBytes block (ks.getD 14 []))).map invSubByte
  let s := (List.range 13).foldl
    (fun s r => (invShiftRows (mixCols [14, 11, 13, 9] (xorBytes s (ks.getD (13 - r) [])))).map invSubByte) s
  xorBytes s (ks.getD 0 [])

/-- The tweak of the next block: times the generator, the block read least significant byte first. -/
def nextTweak (t : List Nat) : List Nat :=
  let v := 2 * fromLe t
  leBytes 16 (if v < 2 ^ 128 then v else (v - 2 ^ 128) ^^^ 0x87)

/-- XTS over whole 16-byte blocks with a block function under the data key. -/
def xtsWith (f : List Nat → List Nat) : List Nat → List (List Nat) → List Nat
  | _, [] => []
  | t, b :: l => xorBytes (f (xorBytes b t)) t ++ xtsWith f (nextTweak t) l

/-- XTS-AES-256 of a 64-byte line under data key `k1`, tweak key `k2` and address word `a` (R299). -/
def xtsEnc (k1 k2 : List Nat) (a : Nat) (line : List Nat) : List Nat :=
  xtsWith (aesEnc k1) (aesEnc k2 (leBytes 16 a)) (pieces 16 4 line)

/-- XTS-AES-256 of a 64-byte line, inverted. -/
def xtsDec (k1 k2 : List Nat) (a : Nat) (line : List Nat) : List Nat :=
  xtsWith (aesDec k1) (aesEnc k2 (leBytes 16 a)) (pieces 16 4 line)

/-- The first CMAC subkey. -/
def cmacKey (key : List Nat) : List Nat :=
  let v := 2 * fromBe (aesEnc key (List.replicate 16 0))
  beBytes 16 (if v < 2 ^ 128 then v else (v - 2 ^ 128) ^^^ 0x87)

/-- AES-256-CMAC of a message of whole blocks (R299). -/
def cmac (key : List Nat) (msg : List Nat) : List Nat :=
  let bs := pieces 16 (msg.length / 16) msg
  let body := bs.dropLast.foldl (fun x b => aesEnc key (xorBytes x b)) (List.replicate 16 0)
  aesEnc key (xorBytes (xorBytes body (bs.getLastD [])) (cmacKey key))

/-! ### SHA-256 -/

/-- The round constants. -/
def shaK : List Nat :=
  [0x428A2F98, 0x71374491, 0xB5C0FBCF, 0xE9B5DBA5, 0x3956C25B, 0x59F111F1, 0x923F82A4, 0xAB1C5ED5,
   0xD807AA98, 0x12835B01, 0x243185BE, 0x550C7DC3, 0x72BE5D74, 0x80DEB1FE, 0x9BDC06A7, 0xC19BF174,
   0xE49B69C1, 0xEFBE4786, 0x0FC19DC6, 0x240CA1CC, 0x2DE92C6F, 0x4A7484AA, 0x5CB0A9DC, 0x76F988DA,
   0x983E5152, 0xA831C66D, 0xB00327C8, 0xBF597FC7, 0xC6E00BF3, 0xD5A79147, 0x06CA6351, 0x14292967] ++
  [0x27B70A85, 0x2E1B2138, 0x4D2C6DFC, 0x53380D13, 0x650A7354, 0x766A0ABB, 0x81C2C92E, 0x92722C85,
   0xA2BFE8A1, 0xA81A664B, 0xC24B8B70, 0xC76C51A3, 0xD192E819, 0xD6990624, 0xF40E3585, 0x106AA070,
   0x19A4C116, 0x1E376C08, 0x2748774C, 0x34B0BCB5, 0x391C0CB3, 0x4ED8AA4A, 0x5B9CCA4F, 0x682E6FF3,
   0x748F82EE, 0x78A5636F, 0x84C87814, 0x8CC70208, 0x90BEFFFA, 0xA4506CEB, 0xBEF9A3F7, 0xC67178F2]

/-- The initial hash value. -/
def shaH : List Nat :=
  [0x6A09E667, 0xBB67AE85, 0x3C6EF372, 0xA54FF53A, 0x510E527F, 0x9B05688C, 0x1F83D9AB, 0x5BE0CD19]

/-- Rotate a 32-bit word right. -/
def rotr (n x : Nat) : Nat := (x / 2 ^ n + x * 2 ^ (32 - n)) % 2 ^ 32

/-- Extend the message schedule, newest word first. -/
def shaWords : Nat → List Nat → List Nat
  | 0, ws => ws
  | n + 1, ws =>
    let w2 := ws.getD 1 0
    let w15 := ws.getD 14 0
    let s1 := rotr 17 w2 ^^^ rotr 19 w2 ^^^ (w2 / 2 ^ 10)
    let s0 := rotr 7 w15 ^^^ rotr 18 w15 ^^^ (w15 / 2 ^ 3)
    shaWords n ((ws.getD 15 0 + s0 + ws.getD 6 0 + s1) % 2 ^ 32 :: ws)

/-- One round over the working variables a to h. -/
def shaRound (v : List Nat) (kw : Nat) : List Nat :=
  let a := v.getD 0 0; let b := v.getD 1 0; let c := v.getD 2 0; let d := v.getD 3 0
  let e := v.getD 4 0; let f := v.getD 5 0; let g := v.getD 6 0; let h := v.getD 7 0
  let s1 := rotr 6 e ^^^ rotr 11 e ^^^ rotr 25 e
  let ch := (e &&& f) ^^^ ((0xFFFFFFFF - e) &&& g)
  let t1 := h + s1 + ch + kw
  let s0 := rotr 2 a ^^^ rotr 13 a ^^^ rotr 22 a
  let mj := (a &&& b) ^^^ (a &&& c) ^^^ (b &&& c)
  [(t1 + s0 + mj) % 2 ^ 32, a, b, c, (d + t1) % 2 ^ 32, e, f, g]

/-- One 64-byte block. -/
def shaBlock (h : List Nat) (blk : List Nat) : List Nat :=
  let ws := (shaWords 48 ((pieces 4 16 blk).map fromBe).reverse).reverse
  let v := (List.zipWith (· + ·) shaK ws).foldl shaRound h
  List.zipWith (fun a b => (a + b) % 2 ^ 32) h v

/-- SHA-256 of a message. -/
def sha256 (msg : List Nat) : List Nat :=
  let pad := (119 - msg.length % 64) % 64
  let m := msg ++ [0x80] ++ List.replicate pad 0 ++ beBytes 8 (8 * msg.length)
  ((pieces 64 (m.length / 64) m).foldl shaBlock shaH).flatMap (beBytes 4)

/-- HMAC-SHA-256 under a key of at most 64 bytes. -/
def hmacSha256 (key msg : List Nat) : List Nat :=
  let k := key ++ List.replicate (64 - key.length) 0
  sha256 (k.map (· ^^^ 0x5C) ++ sha256 (k.map (· ^^^ 0x36) ++ msg))

end Sys2Proof.Machine
end

