-- ==== Sys2Proof/Machine/Keys.lean ====
section
/-! DEFINITION. Key slots as the data path uses them (R293 to R307): `ALARM_N`, the slot states, the key write counters,
MAC64 failures and zeroisation. -/

namespace Sys2Proof.Machine

/-! ### `ALARM_N` (R304) -/

/-- Whether `ALARM_N` is asserted: a cause that is enabled is set (R304). -/
def Mach.alarm (m : Mach) : Bool := (m.rd Reg.Crypto.ALARM_CAUSE &&& m.rd Reg.Crypto.ALARM_EN) != 0

/-- Show the pin, and record its change from released to asserted (R304, R318). -/
def Mach.showAlarm (m : Mach) : Mach :=
  let was := m.flag Reg.Crypto.ALARM_PIN
  let now := m.alarm
  let m := (m.wb Reg.Crypto.ALARM_PIN now).setFsm .crypto now.toNat
  if now && !was then m.event .crypto 0 0x2817 (m.rd Reg.Crypto.ALARM_CAUSE) 0 else m

/-- Set a cause bit: 0 MAC, 1 IDE, 2 LINK_GCM, 3 COUNTER_SAT, 4 ZEROISED. -/
def Mach.raiseCause (m : Mach) (b : Nat) : Mach :=
  (m.wr Reg.Crypto.ALARM_CAUSE (setBit (m.rd Reg.Crypto.ALARM_CAUSE) b true)).showAlarm

/-! ### Slots (R293) -/

/-- A key slot; an unlisted one is EMPTY with epoch 0. -/
def Mach.slot (m : Mach) (k : Nat) : KeySlot := Tbl.getD m.cry.slots k {}

/-- Replace a key slot and show its state in the masks of the page. -/
def Mach.setSlot (m : Mach) (k : Nat) (x : KeySlot) : Mach :=
  let m := { m with cry := { m.cry with slots := Tbl.put m.cry.slots k x } }
  let m := m.wr Reg.Crypto.SLOT_VALID (setBit (m.rd Reg.Crypto.SLOT_VALID) k (x.state = 1))
  let m := m.wr Reg.Crypto.SLOT_LOCKED (setBit (m.rd Reg.Crypto.SLOT_LOCKED) k x.lock)
  m.wr Reg.Crypto.SLOT_ZEROISED (setBit (m.rd Reg.Crypto.SLOT_ZEROISED) k (x.state = 2))

/-- The key check value: bytes 0 to 3 of AES-256 under K1 of a zero block (R293). -/
def KeySlot.kcv (x : KeySlot) : Nat :=
  if x.state = 1 then fromLe ((aesEnc (leBytes 32 x.k1) (List.replicate 16 0)).take 4) else 0

/-- Count a store under a slot, or under the table key (`none`); the advisory at 2^47 and the saturation (R307). -/
def KeySlot.bump (x : KeySlot) : KeySlot :=
  let n := min (x.writes + 1) (2 ^ 48 - 1)
  { x with writes := n, advised := x.advised || 2 ^ 47 ≤ n, sat := x.sat || n = 2 ^ 48 - 1 }

/-- The events of a key write counter that has just moved from `a` to `b` (R307). -/
def Mach.keyCountEvents (m : Mach) (no : Nat) (a b : KeySlot) : Mach :=
  let m := if b.advised && !a.advised then m.event .crypto 0 0x2814 no (b.writes / 2 ^ 16) else m
  if b.sat && !a.sat then (m.event .crypto 0 0x2815 no 0).raiseCause 3 else m

/-- Count a store of an encrypted line under a slot, or under the table key where `k` is `none` (R307). -/
def Mach.bumpKey (m : Mach) (k : Option Nat) : Mach :=
  match k with
  | some k =>
    let a := m.slot k
    (m.setSlot k a.bump).keyCountEvents k a a.bump
  | none =>
    let a := m.cry.tableKey
    let m := { m with cry := { m.cry with tableKey := a.bump } }
    (m.wr Reg.Crypto.TABLE_WRITES a.bump.writes).keyCountEvents 0xFF a a.bump

/-! ### Zeroisation (R305, R313) -/

/-- Erase a slot: no keys, ZEROISED, unlocked; epoch and counter stay. -/
def KeySlot.zeroed (x : KeySlot) : KeySlot := { x with state := 2, k1 := 0, k2 := 0, k3 := 0, lock := false, gen := false }

/-- A rekey that names an erased slot stops at once with result ZEROISED, its step with it, and holds both slots (R313). -/
def Mach.stopRekey (m : Mach) (slots : List Nat) : Mach :=
  if (m.fsm .rekey = 1 || m.fsm .rekey = 2) &&
      (slots.contains (m.rd Reg.Rekey.RK_OLD) || slots.contains (m.rd Reg.Rekey.RK_NEW)) then
    let m := (m.setFsm .rekey 3).wr Reg.Rekey.RK_RESULT 1
    let m := (m.wr Reg.Rekey.RK_END_TIDE m.tide).inc Reg.Rekey.RK_COUNT
    let m : Mach := { m.stepFree 3 with cry := { m.cry with rkRead := none, rkPaid := none, rkDone := false } }
    let m : Mach := { m with lev := { m.lev with
      chains := m.lev.chains.map fun c => if c.2.who = .rekey then (c.1, { c.2 with who := .repair }) else c
      done := m.lev.done.filter fun d => d.who != .rekey } }
    m.event .rekey 0 0x2821 (m.rd Reg.Rekey.RK_ACT_TRACT) 1
  else m

/-- Zeroise slots: `who` is the slot or 0xFF, `why` 0 for a command and 1 for the threshold (R305, R320). -/
def Mach.zeroise (m : Mach) (slots : List Nat) (who why : Nat) : Mach :=
  let m := m.each slots fun m k => m.setSlot k (m.slot k).zeroed
  let m := (m.inc Reg.Crypto.ZEROISATIONS).event .crypto 0 0x2813 who why
  (m.raiseCause 4).stopRekey slots

/-! ### MAC64 failures (R303, R305) -/

/-- Count a MAC64 failure against a slot and judge the window of `ZERO_MODE` (R305). -/
def Mach.slotMacFail (m : Mach) (k : Nat) : Mach :=
  let w := m.rd Reg.Crypto.ZERO_WINDOW_MS * 1000000
  let x := m.slot k
  let recent := m.tide :: x.recent.filter fun t => m.tide ≤ t + w
  let m := m.setSlot k { x with macFails := min (x.macFails + 1) (2 ^ 32 - 1), recent := recent }
  if m.rd Reg.Crypto.ZERO_MODE = 0 || recent.length < m.rd Reg.Crypto.ZERO_THRESH then m
  else if m.rd Reg.Crypto.ZERO_MODE = 1 then m.zeroise [k] k 1
  else m.zeroise (List.range 64) 0xFF 1

/-- A MAC64 failure of a stored line (R303): `addr` the DPA line or the PL, `slot` the slot it counts towards, if any.
The table key is said by `table`. -/
def Mach.macFailure (m : Mach) (addr : Nat) (byPl table : Bool) (slot : Option Nat) (canal : Nat) : Mach :=
  let m := m.inc Reg.Crypto.MAC_FAILS_TOTAL
  let m := m.raiseCause 0
  let m := m.event .crypto 0 0x2810 addr
    (addr / 2 ^ 32 % 2 ^ 8 + (slot.getD 0) * 2 ^ 8 + byPl.toNat * 2 ^ 14 + table.toNat * 2 ^ 15 + canal * 2 ^ 16)
  match slot with
  | some k => m.slotMacFail k
  | none => m

end Sys2Proof.Machine
end

