-- ==== Sys2Proof/Machine/State.lean ====
section
/-! DEFINITION. The whole state: the queue of waiting commands, the fuses, and the device. -/

namespace Sys2Proof.Machine

/-- What stops the machine with a fault. No command of this block has an effect the spec leaves without a state, so
nothing raises it today; it is declared because the host's interface has three outcomes. Safe. -/
inductive Fault where
  /-- Raised by no meaning: kept for a repair that finds a command the spec gives no effect at all. Safe. -/
  | noEffect (what : String)
deriving DecidableEq, Repr

/-- Why a command is refused. -/
inductive Refusal where
  /-- The command has no meaning yet; raised only by arms of `exec`. Safe. -/
  | notModelled (mnemonic : String)
deriving DecidableEq, Repr

/-- The state of the block. -/
structure State where
  /-- The commands that are waiting, first in, first out. -/
  pending : List Instr
  fuse : Fuses
  m : Mach
deriving DecidableEq, Repr

/-- The outcome of a command. -/
abbrev Out := Host.Outcome State Fault Refusal

/-- A key made of two free values (R297, R298). -/
def resetKey (n : Nat) : KeySlot :=
  { state := 1, epoch := 1, gen := true, k1 := (Config.freeValue n).toNat % 2 ^ 256
    k2 := (Config.freeValue n).toNat / 2 ^ 256, k3 := (Config.freeValue (n + 1)).toNat % 2 ^ 256 }

/-- The device right after reset: every register field at its Reset value, no command waiting. Key slot 0 and the table key are the
ones that R297 and R298 generate, which are free values; bring-up generates them again. -/
def State.reset : State :=
  { pending := [], fuse := {}, m := { cry := { slots := [(0, resetKey 0)], tableKey := resetKey 2 }, free := 4 } }

end Sys2Proof.Machine
end

