-- ==== Sys2Proof/Machine/Run.lean ====
section
/-! DEFINITION. The common form of a meaning: the tide moves on to the command's time and the device changes. -/

namespace Sys2Proof.Machine

/-- A change of the device that needs its rails: while a monitored rail is lost nothing happens (R525). -/
def Mach.railed (m : Mach) (f : Mach → Mach) : Mach := if m.boot.powered then f m else m

/-- A command that happens at tide `t` and changes the device by `f`; the queue and the fuses stay. -/
def State.run (s : State) (t : Nat) (f : Mach → Mach) : Out := .next { s with m := (s.m.at t).railed f }

/-- A command that may change the fuses too. -/
def State.runFuse (s : State) (t : Nat) (f : Fuses → Mach → Fuses × Mach) : Out :=
  let m := s.m.at t
  if m.boot.powered then .next { s with fuse := (f s.fuse m).1, m := (f s.fuse m).2 } else .next { s with m := m }

/-- A command that the always-on domain, the rails or the board's pins bring, whether or not the rails are present. -/
def State.runAlways (s : State) (t : Nat) (f : Mach → Mach) : Out := .next { s with m := f (s.m.at t) }

end Sys2Proof.Machine
end

