-- ==== Sys2Proof/Machine/Link.lean ====
section
/-! DEFINITION. Host port links (R53 to R66, R77, R79): the latency table, training and retraining, HDM decoders. -/

namespace Sys2Proof.Machine

/-! ### Latencies and payload (R57, R58) -/

/-- The latency table at x16: flit time, ingress, egress-data, egress-NDR (ns), payload (MB/s), by rate code (R57). -/
def rateRow (r : Nat) : Nat × Nat × Nat × Nat × Nat :=
  match r with
  | 0 => (64, 370, 660, 490, 3600)
  | 1 => (32, 190, 340, 250, 7200)
  | 2 => (16, 106, 186, 138, 14170)
  | 3 => (8, 62, 108, 80, 28350)
  | 4 => (4, 40, 70, 52, 56700)
  | 5 => (2, 28, 52, 38, 115200)
  | _ => (1, 24, 46, 34, 230400)

/-- Ingress, egress-data, egress-NDR, rate adder and payload at a rate and a width (R57). -/
def linkFigures (r w : Nat) : Nat × Nat × Nat × Nat × Nat :=
  let (flit, ing, dat, ndr, pay) := rateRow r
  let d := flit * (16 / w - 1)
  (ing + d, dat + d, ndr + d, ing + d + (dat + d) - 80, pay * w / 16)

/-- Show a rate and a width in STATE with the latencies and the payload in force (R57). -/
def Mach.showLink (m : Mach) (p r w : Nat) : Mach :=
  let (ing, dat, ndr, add, pay) := linkFigures r w
  let m := (m.wr Reg.HostPort.RATE r p).wr Reg.HostPort.WIDTH w p
  let m := (m.wr Reg.HostPort.ING_NS ing p).wr Reg.HostPort.EGR_DATA_NS dat p
  let m := (m.wr Reg.HostPort.EGR_NDR_NS ndr p).wr Reg.HostPort.RATE_ADDER_NS add p
  m.wr Reg.HostPort.PAYLOAD_MBPS pay p

/-- The highest rate the port offers: 128 GT/s only with `MAX_RATE` = 6, and after a failed equalisation not before `EQ128_RETRY` and then
`RETRAIN` are written (R56). -/
def Mach.topRate (m : Mach) (p : Nat) : Nat :=
  if m.flag Reg.HostPort.EQ128_FAILED p || (m.port p).eqHold then min 5 (m.rd Reg.HostPort.MAX_RATE p) else m.rd Reg.HostPort.MAX_RATE p

/-- A width a link can have (R54). -/
def linkWidth (w : Nat) : Nat := if 16 ≤ w then 16 else if 8 ≤ w then 8 else if 4 ≤ w then 4 else if 2 ≤ w then 2 else 1

/-- Whether the port may train: its page enabled, its `PERST_N` released, not held in Detect.Quiet, not in the IDE
insecure state, the device not held down, its core domain on (R55, R61, R84, R505). -/
def Mach.mayTrain (m : Mach) (p : Nat) : Bool :=
  m.enabled .hostPort p && !(m.port p).perst && !(m.port p).holdQuiet && !m.flag Reg.HostPort.IDE_INSECURE p &&
  !m.clk.holdDown && m.pw.st < 2 && !m.clk.lost.testBit p

/-- A failed equalisation at 128 GT/s: counted, latched, event 0x0413 (R56). -/
def Mach.eq128Fail (m : Mach) (p : Nat) (phase lanes : Nat) : Mach :=
  if m.topRate p = 6 then
    let m := (m.inc Reg.HostPort.EQ128_FAILS p).wr Reg.HostPort.EQ128_FAILED 1 p
    (m.modPort p fun x => { x with eqHold := true }).event .hostPort p 0x0413 phase lanes
  else m

/-- The outcome of equalisation at 128 GT/s, where it failed: the phase reached and the failing lanes. -/
def Mach.eq128 (m : Mach) (p : Nat) : Option (Nat × Nat) → Mach
  | some (phase, lanes) => m.eq128Fail p phase lanes
  | none => m

/-- What a training or retrain takes from `LINK_CTL`: whether L0p and L1 are allowed, whether the flit is the latency-optimised one
(R54, R56). -/
def Mach.latchCtl (m : Mach) (p : Nat) : Mach :=
  let m := m.modPort p fun x => { x with l0pEn := m.flag Reg.HostPort.L0P_EN p, l1En := m.flag Reg.HostPort.L1_EN p }
  m.wb Reg.HostPort.FLIT_LO ((m.port p).peerLo && m.flag Reg.HostPort.LOF_EN p) p

/-! ### Training (R55, R56, R79) -/

/-- LINK_TRAINING: a training attempt of a port ends. `reason` is 0 where the partner agreed, else a
`TRAIN_FAIL_REASON`; `again` says that the partner has re-entered Detect since the port stopped. After the third failed
attempt the port holds Detect.Quiet (R55). -/
def linkTraining (p : Nat) (reason ltssm : Nat) (again : Bool) (eq : Option (Nat × Nat)) (m : Mach) : Mach :=
  let m := if again then m.modPort p fun x => { x with holdQuiet := false, trainTries := 0 } else m
  if m.mayTrain p && (m.fsm .hostPort p = 0 || m.fsm .hostPort p = 1) then
    let m := m.setFsm .hostPort 1 p
    if reason = 0 then
      ((m.eq128 p eq).wr Reg.HostPort.LTSSM ltssm p).modPort p fun x => { x with trainTries := 0 }
    else
      let n := (m.port p).trainTries + 1
      if n < 3 then (m.wr Reg.HostPort.LTSSM ltssm p).modPort p fun x => { x with trainTries := n }
      else
        let m := m.modPort p fun x => { x with trainTries := 0, holdQuiet := true }
        let m := ((m.setFsm .hostPort 0 p).wr Reg.HostPort.LTSSM 0 p).wr Reg.HostPort.TRAIN_FAIL_REASON reason p
        m.event .hostPort p 0x0414 reason n
  else m

def execLinkTraining (t : Nat) (p : Port) (reason ltssm : Nat) (again : Bool) (eq : Option (Nat × Nat)) (s : State) : Out :=
  s.run t (linkTraining p reason ltssm again eq)

/-- LINK_UP: training completes at the rate and width that both ends reach, and the host programs the function. The
decoders are uncommitted and IDE is inactive (R79). -/
def linkUp (p : Nat) (rate width ltssm : Nat) (lo : Bool) (cfg : PortCfg) (m : Mach) : Mach :=
  if m.mayTrain p && m.fsm .hostPort p = 1 then
    let r := min rate (m.topRate p)
    let w := linkWidth width
    let m := (m.awake.setFsm .hostPort 2 p).showLink p r w
    let m := (m.wr Reg.HostPort.LTSSM ltssm p).wr Reg.HostPort.DL_UP 1 p
    let m := m.modPort p fun x => { x with
      bme := cfg.bme, mps := cfg.mps, mrrs := cfg.mrrs, biEnabled := cfg.bi, peerRate := rate, peerWidth := width, peerLo := lo }
    let m := (m.latchCtl p).wb Reg.HostPort.MEM_ACTIVE m.memActive p
    m.event .hostPort p 0x0410 r w
  else m

def execLinkUp (t : Nat) (p : Port) (rate width ltssm : Nat) (lo : Bool) (cfg : PortCfg) (s : State) : Out :=
  s.run t (linkUp p rate width ltssm lo cfg)

/-- A link in use changes to a rate and width: counted, event 0x0412, the new latencies at once (R58). -/
def Mach.changeRate (m : Mach) (p r w : Nat) : Mach :=
  let r0 := m.rd Reg.HostPort.RATE p
  let w0 := m.rd Reg.HostPort.WIDTH p
  if r = r0 && w = w0 then m
  else (m.showLink p r w).event .hostPort p 0x0412 (r0 * 256 + w0) (r * 256 + w)

/-- LINK_RETRAIN: a port that holds Detect.Quiet trains again; a link that is up retrains, and comes out at the rate and
width given; after an `EQ128_RETRY` the port offers 128 GT/s again (R55, R56). -/
def linkRetrain (p : Nat) (rate width : Nat) (lo : Bool) (eq : Option (Nat × Nat)) (m : Mach) : Mach :=
  let m := if m.flag Reg.HostPort.EQ128_FAILED p then m else m.modPort p fun x => { x with eqHold := false }
  if m.flag Reg.HostPort.DL_UP p then
    let m := (m.inc Reg.HostPort.RETRAINS p).eq128 p eq
    let m := (m.modPort p fun x => { x with peerRate := rate, peerWidth := width, peerLo := lo }).latchCtl p
    m.changeRate p (min rate (m.topRate p)) (linkWidth width)
  else m.modPort p fun x => { x with holdQuiet := false, trainTries := 0 }

def execLinkRetrain (t : Nat) (src : Source) (p : Port) (rate width : Nat) (lo : Bool) (eq : Option (Nat × Nat))
    (s : State) : Out :=
  s.run t fun m => m.stageWrite .hostPort p src (linkRetrain p rate width lo eq)

/-- EQ128_RETRY: the 128 GT/s failure latch clears (R56). -/
def execEq128Retry (t : Nat) (src : Source) (p : Port) (s : State) : Out :=
  s.run t fun m => m.stageWrite .hostPort p src fun m => m.wr Reg.HostPort.EQ128_FAILED 0 p

/-- LINK_RATE_CHANGE: the link changes rate or width by itself (R58). -/
def linkRateChange (p : Nat) (rate width : Nat) (m : Mach) : Mach :=
  if m.flag Reg.HostPort.DL_UP p then
    ((m.inc Reg.HostPort.RETRAINS p).latchCtl p).changeRate p (min rate (m.topRate p)) (linkWidth width)
  else m

def execLinkRateChange (t : Nat) (p : Port) (rate width : Nat) (s : State) : Out :=
  s.run t (linkRateChange p rate width)

/-! ### HDM decoders (R62 to R65) -/

/-- Whether a decoder commit keeps the limits of R63. -/
def Mach.decoderFits (m : Mach) (p n : Nat) (d : Decoder) : Bool :=
  [1, 2, 3, 4, 6, 8, 12, 16].contains d.ways && [256, 512, 1024, 2048, 4096, 8192, 16384].contains d.gran &&
  d.size % (2 ^ 28 * d.ways) = 0 &&
  m.act Reg.HostPort.DPA_BASE p n * 2 ^ 28 + d.size / d.ways ≤ 2 ^ 46 && m.memActive &&
  (!d.bi || (m.port p).biEnabled)

/-- DECODER_COMMIT: the host commits HDM decoder n of a port (R63). -/
def decoderCommit (p n : Nat) (d : Decoder) (m : Mach) : Mach :=
  if m.decoderFits p n d then
    let m := m.modPort p fun x => { x with decoders := Tbl.put x.decoders n d }
    let m := m.wr Reg.HostPort.DEC_ERR (setBit (m.rd Reg.HostPort.DEC_ERR p) n false) p
    m.wr Reg.HostPort.DEC_COMMITTED (setBit (m.rd Reg.HostPort.DEC_COMMITTED p) n true) p
  else
    let m := m.modPort p fun x => { x with decoders := Tbl.del x.decoders n }
    let m := m.wr Reg.HostPort.DEC_COMMITTED (setBit (m.rd Reg.HostPort.DEC_COMMITTED p) n false) p
    let m := m.wr Reg.HostPort.DEC_ERR (setBit (m.rd Reg.HostPort.DEC_ERR p) n true) p
    m.event .hostPort p 0x0419 d.base 0xFFFF

def execDecoderCommit (t : Nat) (p : Port) (n : Fin 16) (base size ways gran : Nat) (bi : Bool) (s : State) : Out :=
  s.run t fun m =>
    if m.flag Reg.HostPort.DL_UP p then decoderCommit p n { base := base, size := size, ways := ways, gran := gran, bi := bi } m.awake
    else m

/-- DECODER_UNCOMMIT: decoder n no longer matches requests accepted after it (R65). -/
def decoderUncommit (p n : Nat) (m : Mach) : Mach :=
  let m := m.modPort p fun x => { x with decoders := Tbl.del x.decoders n }
  let m := m.wr Reg.HostPort.DEC_ERR (setBit (m.rd Reg.HostPort.DEC_ERR p) n false) p
  m.wr Reg.HostPort.DEC_COMMITTED (setBit (m.rd Reg.HostPort.DEC_COMMITTED p) n false) p

def execDecoderUncommit (t : Nat) (p : Port) (n : Fin 16) (s : State) : Out :=
  s.run t fun m => if m.flag Reg.HostPort.DL_UP p then decoderUncommit p n m.awake else m

/-- The decoder that matches an HPA, and the DPA line it maps it to (R62). -/
def Mach.decode (m : Mach) (p hpa : Nat) : Option (Nat × Decoder × Nat) :=
  ((m.port p).decoders.find? fun e => e.2.base ≤ hpa && hpa < e.2.base + e.2.size).map fun e =>
    let off := hpa - e.2.base
    let dpa := m.act Reg.HostPort.DPA_BASE p e.1 * 2 ^ 28 + off / (e.2.gran * e.2.ways) * e.2.gran + off % e.2.gran
    (e.1, e.2, dpa / 64)

end Sys2Proof.Machine
end

