-- ==== Sys2Proof/Machine/Store.lean ====
section
/-! DEFINITION. Where a line lies and what is stored there: tract entries (R179), frames and stripes (R174 to R176, R253),
plots (R185), the line image and its checks (R232 to R237), encryption (R299 to R302), the flip facility (R258). -/

namespace Sys2Proof.Machine

/-! ### Tract entries (R179) -/

def tMode (e : Nat) : Nat := e % 4
def tStripe (e : Nat) : Bool := e.testBit 2
def tMirror (e : Nat) : Bool := e.testBit 3
def tCache (e : Nat) : Bool := e.testBit 4
def tCompress (e : Nat) : Bool := e.testBit 5
def tKey (e : Nat) : Nat := bits e 11 6
def tShared (e : Nat) : Bool := e.testBit 12
def tRegion (e : Nat) : Nat := bits e 17 13
def tPeerSlot (e : Nat) : Nat := bits e 20 18
def tPeerTract (e : Nat) : Nat := bits e 36 21

/-- The entry with another key slot (R313). -/
def tWithKey (e k : Nat) : Nat := e - tKey e * 64 + k % 64 * 64

/-- Change the storage state. -/
def Mach.modSt (m : Mach) (f : StoreX → StoreX) : Mach := { m with st := f m.st }

/-- The ACTIVE entry of a tract; 0 (NONE) where none is listed. -/
def Mach.tract (m : Mach) (n : Nat) : Nat := Tbl.getD m.st.tracts n 0

/-- The tract of a DPA line. -/
def lineTract (line : Nat) : Nat := line / 2 ^ 24 % 2 ^ 16

/-- The entry of the tract a line lies in. -/
def Mach.entryOf (m : Mach) (line : Nat) : Nat := m.tract (lineTract line)

/-- The plot entry of a plot; an unlisted one is ZERO (R185). -/
def Mach.plot (m : Mach) (p : Nat) : Plot := Tbl.getD m.st.plots p {}

/-- The directory entry of a plot. -/
def Mach.dir (m : Mach) (p : Nat) : Dir := Tbl.getD m.st.dirs p {}

/-! ### Frames, Canals and stripes (R174, R175, R253) -/

/-- The Canal of a physical line (R174). -/
def canalOf (pl : Nat) : Nat := (pl ^^^ (pl / 2 ^ 4) ^^^ (pl / 2 ^ 8) ^^^ (pl / 2 ^ 12)) % 16

/-- The physical line at a Canal line address, the inverse of R174. -/
def plOf (canal cl : Nat) : Nat := cl * 16 + (canal ^^^ cl ^^^ (cl / 2 ^ 4) ^^^ (cl / 2 ^ 8)) % 16

/-- A place in the DRAM of a Canal (R270): the subchannel, the line within the row, the bank group, the bank, the DIMM slot, the package rank,
the logical rank, the row. -/
structure DramAddr where
  sub : Nat
  line : Nat
  group : Nat
  bank : Nat
  slot : Nat
  pkg : Nat
  log : Nat
  row : Nat
deriving DecidableEq, Repr

/-- Where a Canal line address lies in DIMMs of a kind (R270). -/
def dramAddr (d : Spd) (cl : Nat) : DramAddr :=
  let q := cl / 128
  let x := q / 32
  let y := x / max d.dimms 1
  let z := y / max d.pkg 1
  let row := z / max d.log 1
  { sub := cl % 2, line := cl / 2 % 64, group := q % 8 ^^^ row % 8, bank := q / 8 % 4 ^^^ row / 8 % 4
    slot := x % max d.dimms 1, pkg := y % max d.pkg 1, log := z % max d.log 1, row := row }

/-- Line `n` of data frame `s` of the stripe group that starts at frame `f0` (R253). -/
def stripePl (f0 s n : Nat) : Nat := f0 * 2 ^ 24 + 16 * n + (if s < n % 16 then s else s + 1)

/-- The parity line of row `r` (R253). -/
def parityPl (f0 r : Nat) : Nat := f0 * 2 ^ 24 + 16 * r + r % 16

/-- A raw frame; an unlisted one is FREE. -/
def Mach.frame (m : Mach) (f : Nat) : Frame := Tbl.getD m.st.frames f {}

/-- Whether a raw frame is a member of a stripe group. -/
def Mach.striped (m : Mach) (f : Nat) : Bool := (m.frame f).role = 2

/-- The physical line behind a line numbered within a data frame, as plot frames and sectors of a striped group are
numbered (R253). -/
def Mach.realPl (m : Mach) (v : Nat) : Nat :=
  let f := v / 2 ^ 24
  if m.striped f then stripePl (f / 16 * 16) (f % 16) (v % 2 ^ 24) else v

/-- Where a DPA line lies. -/
inductive Place where
  | none
  | remote (slot tract : Nat)
  | zero
  | dram (pl : Nat)
  | cis (frame pl : Nat)
  | comp
deriving DecidableEq, Repr

/-- Resolve a DPA line through the tract table and the plot entry (R180, R186). -/
def Mach.place (m : Mach) (line : Nat) : Place :=
  let e := m.entryOf line
  let n := line % 2 ^ 24
  match tMode e with
  | 0 => .none
  | 1 =>
    let h := Tbl.getD m.st.home (lineTract line) {}
    if h.slot = 15 then .dram (h.frame * 2 ^ 24 + n) else .dram (stripePl h.frame h.slot n)
  | 2 =>
    let p := m.plot (line / 64)
    match p.tier with
    | 0 => .zero
    | 1 => .dram (m.realPl (p.loc + line % 64))
    | 2 => .comp
    | _ => .cis p.cis (m.realPl (p.loc + line % 64))
  | _ => .remote (tPeerSlot e) (tPeerTract e)

/-- The row of the promise table a line takes (R155), without the parity adder. -/
def Mach.rowOf (m : Mach) (line : Nat) : Nat :=
  match m.place line with
  | .none => 2
  | .remote _ _ => 5
  | .zero => 2
  | .dram _ => 2
  | .cis _ _ => 1
  | .comp => 3

/-! ### Line images (R232 to R235) -/

/-- The 64 bytes of a line, byte 0 first. -/
def lineBytes (d : Line) : List Nat := leBytes 64 d.toNat

/-- The line whose bytes these are. -/
def bytesLine (l : List Nat) : Line := BitVec.ofNat 512 (fromLe l)

/-- LC32 over covered bytes and an address word (R235). -/
def lc32 (covered : List Nat) (addr : Nat) : Nat := crc32c (covered ++ leBytes 8 addr)

/-- The address word of a DPA-bound line (R235). -/
def dpaWord (line : Nat) : Nat := line * 64

/-- The address word of a PL-bound line (R235). -/
def plWord (pl : Nat) : Nat := pl * 64 + 2 ^ 63

/-- The blank line at a physical line (R177, R280). -/
def blankImage (pl : Nat) : Image := { lc := lc32 (lineBytes 0) (plWord pl) }

/-- The canonical form of the DRAM contents: physical lines strictly rising, none listed that holds the blank line. -/
def memoryWf (l : List (Nat × Image)) : Bool := Tbl.sorted l && l.all fun e => e.2 != blankImage e.1

/-- What the DRAM holds at a physical line; blank where nothing is listed. -/
def Mach.image (m : Mach) (pl : Nat) : Image := (Tbl.find m.st.dram pl).getD (blankImage pl)

/-- Store an image. -/
def Mach.putImage (m : Mach) (pl : Nat) (i : Image) : Mach :=
  m.modSt fun s => { s with dram := if i = blankImage pl then Tbl.del s.dram pl else Tbl.put s.dram pl i }

/-- An image with an 80-byte mask XORed in: 64 data bytes, LC32, MAC64, VER16, FLG16 (R232, R258). -/
def Image.xor (i : Image) (k : BitVec 640) : Image :=
  { data := i.data ^^^ k.extractLsb' 0 512
    lc := i.lc ^^^ (k.extractLsb' 512 32).toNat
    mac := i.mac ^^^ (k.extractLsb' 544 64).toNat
    ver := i.ver ^^^ (k.extractLsb' 608 16).toNat
    flg := i.flg ^^^ (k.extractLsb' 624 16).toNat }

def Image.poisoned (i : Image) : Bool := i.flg.testBit 0
def Image.blank (i : Image) : Bool := i.flg.testBit 1

/-! ### Encryption (R299) -/

/-- MAC64 over ciphertext, address word, slot number and epoch (R299). -/
def mac64 (x : KeySlot) (no epoch : Nat) (addr : Nat) (ct : List Nat) : Nat :=
  fromLe ((cmac (leBytes 32 x.k3) (ct ++ leBytes 8 addr ++ [no, 0] ++ leBytes 2 epoch ++ [0, 0, 0, 0])).take 8)

/-- Encrypt a line under a key set: the stored bytes and MAC64. -/
def sealLine (x : KeySlot) (no epoch addr : Nat) (d : Line) : Line × Nat :=
  let ct := xtsEnc (leBytes 32 x.k1) (leBytes 32 x.k2) addr (lineBytes d)
  (bytesLine ct, mac64 x no epoch addr ct)

/-- Decrypt the stored bytes of a line. -/
def openLine (x : KeySlot) (addr : Nat) (d : Line) : Line :=
  bytesLine (xtsDec (leBytes 32 x.k1) (leBytes 32 x.k2) addr (lineBytes d))

/-! ### Which slot (R301, R302, R310) -/

/-- Whether a running, paused or stopped rekey holds the tract (R308, R313). -/
def Mach.rekeyOn (m : Mach) (tract : Nat) : Bool := m.fsm .rekey != 0 && m.rd Reg.Rekey.RK_ACT_TRACT = tract

/-- The slot of a line outside a rekey: the plot's for a MANAGED tract with storage, else the tract's. -/
def Mach.homeSlot (m : Mach) (line : Nat) : Nat :=
  let e := m.entryOf line
  if tMode e = 2 && (m.plot (line / 64)).tier != 0 then (m.plot (line / 64)).key else tKey e

/-- The slot a store of the line uses (R301, R310). -/
def Mach.storeSlot (m : Mach) (line : Nat) : Nat :=
  if m.rekeyOn (lineTract line) then
    if m.cry.rkDone || line % 2 ^ 24 < m.rd Reg.Rekey.RK_BOUNDARY then m.rd Reg.Rekey.RK_NEW else m.rd Reg.Rekey.RK_OLD
  else m.homeSlot line

/-- The candidate slot of a stored line by its `KEY_LO`; none where a rekey has no slot that matches (R302). The flag
says whether `KEY_LO` matches. -/
def Mach.candidate (m : Mach) (line flg : Nat) : Option Nat × Bool :=
  let lo := bits flg 6 4
  if m.rekeyOn (lineTract line) then
    if m.rd Reg.Rekey.RK_NEW % 8 = lo then (some (m.rd Reg.Rekey.RK_NEW), true)
    else if m.rd Reg.Rekey.RK_OLD % 8 = lo then (some (m.rd Reg.Rekey.RK_OLD), true)
    else (none, false)
  else (some (m.homeSlot line), m.homeSlot line % 8 = lo)

/-! ### Verifying a stored line (R233, R236, R302, R306) -/

/-- The verdict on a stored line: whether its checks pass, the plaintext, whether MAC64 failed and whether that counts
(R306), the slot the failure counts towards. -/
structure Seen where
  ok : Bool
  val : LineVal := {}
  mac : Bool := false
  counted : Bool := false
  slot : Option Nat := none
  blank : Bool := false
  ver : Nat := 0
  flg : Nat := 0
deriving DecidableEq, Repr

/-- The checks of an encrypted image at a physical line under the slot that R302 names and an address word. -/
def Mach.checkImage (m : Mach) (line : Nat) (addr : Nat) (pl : Nat) (i : Image) : Seen :=
  if i.flg.testBit 7 then { ok := false, ver := i.ver, flg := i.flg }
  else if i.blank then
    { ok := i.data = 0 && i.mac = 0 && i.ver = 0 && i.lc = (blankImage pl).lc, blank := true, ver := i.ver, flg := i.flg
      val := { lc := lc32 (lineBytes 0) addr, poison := i.poisoned } }
  else
    match m.candidate line i.flg with
    | (none, _) => { ok := false, mac := true, counted := true, ver := i.ver, flg := i.flg }
    | (some k, hit) =>
      let x := m.slot k
      if x.state = 2 then { ok := false, mac := true, slot := some k, ver := i.ver, flg := i.flg }
      else if !hit || x.state = 0 || mac64 x k x.epoch addr (lineBytes i.data) != i.mac then
        { ok := false, mac := true, counted := true, slot := some k, ver := i.ver, flg := i.flg }
      else
        let d := openLine x addr i.data
        { ok := lc32 (lineBytes d) addr = i.lc, val := { data := d, lc := i.lc, poison := i.poisoned }
          slot := some k, ver := i.ver, flg := i.flg }

/-! ### The flip facility (R258) -/

/-- Whether the armed facility acts on a line and its physical line, in read mode or in store mode. -/
def Mach.flipFor (m : Mach) (store : Bool) (line pl : Nat) : Option Flip :=
  match m.lev.flip with
  | none => none
  | some f =>
    if m.flag Reg.Levee.FLIP_EN && ((f.mode = 1) = store) &&
       (if f.scope = 1 then f.canal = canalOf pl else if f.byPl then f.line = pl else f.line = line)
    then some f else none

/-- Use the facility once: a counted mode counts down and disarms at 0. -/
def Mach.useFlip (m : Mach) (f : Flip) : Mach :=
  if f.mode = 2 then m
  else
    let left := m.rd Reg.Levee.FLIP_LEFT - 1
    let m := m.wr Reg.Levee.FLIP_LEFT left
    if left = 0 then { m with lev := { m.lev with flip := none } }.wr Reg.Levee.FLIP_ARMED 0 else m

/-! ### Table blocks (R185, R189, R214, R298) -/

/-- Word 0 of a plot entry (R185). -/
def Plot.word0 (p : Plot) : Nat :=
  p.tier + p.poison.toNat * 4 + p.pinned.toNat * 8 + p.migrating.toNat * 16 + p.key % 64 * 2 ^ 5 + p.sectors % 128 * 2 ^ 11 + p.loc * 2 ^ 20

/-- Word 1 of a plot entry (R185). -/
def Plot.word1 (p : Plot) : Nat := p.cis + p.version % 2 ^ 16 * 2 ^ 16 + p.heat % 256 * 2 ^ 32 + p.epoch % 256 * 2 ^ 40

/-- Directory word 0 (R214). -/
def Dir.word0 (d : Dir) : Nat :=
  d.kind + ((List.range 4).map fun r => d.enc.getD r 0 * 2 ^ (2 + 2 * r)).sum +
  ((List.range 4).map fun r => d.cnt.getD r 0 * 2 ^ (10 + 5 * r)).sum + d.version % 2 ^ 16 * 2 ^ 30 + d.sectors * 2 ^ 46

/-- Directory word 1 (R214). -/
def Dir.word1 (d : Dir) : Nat := d.loc + d.pool * 2 ^ 38

/-- The other line of a table block that holds the same entries: a primary line's copy, or a copy's primary line (R189, R214). -/
def tabCopy (n : Nat) : Nat :=
  let i := n % 65536 ^^^ 8
  match n / 65536 with
  | 0 => 65536 + i
  | 1 => i
  | 2 => 196608 + i
  | _ => 131072 + i

/-- The physical line of a line of a tract's table block (R189). -/
def Mach.tabPl (m : Mach) (tract n : Nat) : Nat :=
  let h := Tbl.getD m.st.home tract {}
  h.frame * 2 ^ 24 + h.block * 262144 + n

/-- What a line of a table block says: four plot entries, or four directory entries (R189, R214). -/
def Mach.tabData (m : Mach) (tract n : Nat) : Line :=
  let i := if n / 65536 % 2 = 0 then n % 65536 else n % 65536 ^^^ 8
  let entry := fun j =>
    let p := tract * 2 ^ 18 + 4 * i + j
    if n < 131072 then (m.plot p).word0 + (m.plot p).word1 * 2 ^ 64 else (m.dir p).word0 + (m.dir p).word1 * 2 ^ 64
  BitVec.ofNat 512 ((List.range 4).map fun j => entry j * 2 ^ (128 * j)).sum

/-- The stored image of a line of a table block, under the table key; blank where nothing has been stored yet (R232, R235, R298, R299). -/
def Mach.tabImage (m : Mach) (tract n : Nat) : Image :=
  let pl := m.tabPl tract n
  match Tbl.find m.st.tabs pl with
  | none => blankImage pl
  | some x =>
    let d := m.tabData tract n
    let (ct, mac) := sealLine m.cry.tableKey 0xFF 0 (plWord pl) d
    ({ data := ct, lc := lc32 (lineBytes d) (plWord pl), mac := mac, ver := x.ver, flg := 0 } : Image).xor x.mask

/-- The checks of an image of a table block under the table key (R233, R235, R298). -/
def Mach.checkTable (m : Mach) (pl : Nat) (i : Image) : Bool :=
  if i.flg.testBit 7 then false
  else if i.blank then i.data = 0 && i.mac = 0 && i.ver = 0 && i.lc = (blankImage pl).lc
  else
    mac64 m.cry.tableKey 0xFF 0 (plWord pl) (lineBytes i.data) = i.mac &&
      lc32 (lineBytes (openLine m.cry.tableKey (plWord pl) i.data)) (plWord pl) = i.lc

/-- Whether a Canal takes writes: it is in service or rebuilding (R285, R287). -/
def Mach.canalTakes (m : Mach) (pl : Nat) : Bool :=
  let s := m.fsm .canal (canalOf pl)
  3 ≤ s && s ≤ 5

/-- A line of a table block is put in place with a VER16: the count of the table key, the flip facility (R234, R258, R307). -/
def Mach.putTab (m : Mach) (pl ver : Nat) : Mach :=
  let put := fun (m : Mach) k => (m.modSt fun s => { s with tabs := Tbl.put s.tabs pl { ver := ver, mask := k } }).bumpKey none
  match m.flipFor true (2 ^ 40) pl with
  | none => put m 0
  | some f => put (m.useFlip f) (if f.side = 0 then f.mask else f.mask &&& BitVec.ofNat 640 (2 ^ 544 - 1))

/-- One line of a table block is stored: its VER16 goes up (R234). One whose Canal is away is not (R285). -/
def Mach.storeTable (m : Mach) (tract n : Nat) : Mach :=
  let pl := m.tabPl tract n
  if !m.canalTakes pl then m
  else m.putTab pl (((Tbl.find m.st.tabs pl).map fun x => x.ver + 1).getD 1 % 2 ^ 16)

/-- Both lines that hold an entry of a plot are stored: part 0 and its copy, or the directory line and its copy (R189, R214). DESIGN CHOICE
(log entry 133): they take no merge-buffer entry and count on no Canal. -/
def Mach.storeEntry (m : Mach) (p : Nat) (dir : Bool) : Mach :=
  let n := (if dir then 131072 else 0) + p % 2 ^ 18 / 4
  (m.storeTable (p / 2 ^ 18) n).storeTable (p / 2 ^ 18) (tabCopy n)

/-- Replace a plot entry. A change of anything but `HEAT` and `EPOCH` is stored at once; those go to DRAM when the entry is evicted
(R189, R192). -/
def Mach.setPlot (m : Mach) (p : Nat) (x : Plot) : Mach :=
  let was := m.plot p
  let m := m.modSt fun s => { s with plots := Tbl.putD s.plots p x {} }
  if { was with heat := x.heat, epoch := x.epoch, clean := x.clean } = x then m else m.storeEntry p false

/-- Replace a directory entry; the entry of a plot that is not COMPRESSED reads 0 (R214). -/
def Mach.setDir (m : Mach) (p : Nat) (x : Dir) : Mach :=
  let was := m.dir p
  let m := m.modSt fun s => { s with dirs := Tbl.putD s.dirs p x {} }
  if was = x then m else m.storeEntry p true

/-- The row counts of a Canal. -/
def Mach.rowCount (m : Mach) (c : Nat) : RowCount := Tbl.getD m.rows c {}

/-- Count an access that met an open row (0), none open (1), or another row (2); a count stops at all ones (R535). -/
def RowCount.add (x : RowCount) (k : Nat) : RowCount :=
  let up := fun n j => if k = j then min (n + 1) (2 ^ 64 - 1) else n
  { hits := up x.hits 0, empty := up x.empty 1, conflicts := up x.conflicts 2 }

/-- A Canal serves one line: its class (R161), and which of its rows it met, a free value that the hint may steer (R127). -/
def Mach.servedBy (m : Mach) (c : Nat) : Mach :=
  let m : Mach := { m with rows := Tbl.put m.rows c ((m.rowCount c).add (Config.rowMet m.lev.hint m.free % 3)) }
  m.nextFree.inc Reg.Canal.CLASS_LINES c m.lev.cls

/-- The Canal of a physical line serves it. -/
def Mach.served (m : Mach) (pl : Nat) : Mach := m.servedBy (canalOf pl)

/-- A line is read on its Canal. -/
def Mach.readLine (m : Mach) (pl : Nat) : Mach := (m.inc Reg.Canal.RD_LINES (canalOf pl)).served pl

/-- A line is written on its Canal. -/
def Mach.wroteLine (m : Mach) (pl : Nat) : Mach := (m.inc Reg.Canal.WR_LINES (canalOf pl)).served pl

/-- The accesses that follow are of a class of R161, less 1, and carry a hint: AUTO for the device's own (R127, R128). -/
def Mach.asClass (m : Mach) (k : Nat) (hint : Nat := 0) : Mach := { m with lev := { m.lev with cls := k, hint := hint } }

/-- Read a line from its place in DRAM: `err` is what the DRAM, the DIMM and the channel have done to the 80 bytes.
Answers the device, the verdict, and whether a flip alone caused a failure (R259). -/
def Mach.readDram (m : Mach) (line addr pl : Nat) (err : BitVec 640) : Mach × Seen × Bool :=
  let m := m.readLine pl
  let i := (m.image pl).xor err
  match m.flipFor false line pl with
  | none => (m, m.checkImage line addr pl i, false)
  | some f =>
    let m := m.useFlip f
    let plain := m.checkImage line addr pl i
    if f.side = 0 then
      let s := m.checkImage line addr pl (i.xor f.mask)
      (m, s, plain.ok && !s.ok)
    else if plain.ok && !plain.blank then
      let d := plain.val.data ^^^ f.mask.extractLsb' 0 512
      let lc := plain.val.lc ^^^ (f.mask.extractLsb' 512 32).toNat
      let good := lc32 (lineBytes d) addr = lc
      (m, { plain with ok := good, val := { plain.val with data := d, lc := lc } }, !good)
    else (m, plain, false)

/-! ### Storing a line (R236, R299, R301, R306, R307) -/

/-- The image of a line sealed under a slot. -/
def Mach.sealed (m : Mach) (k addr : Nat) (v : LineVal) (ver flg : Nat) : Image :=
  let x := m.slot k
  let (ct, mac) := sealLine x k x.epoch addr v.data
  { data := ct, lc := v.lc, mac := mac, ver := ver % 2 ^ 16
    flg := flg % 2 + k % 8 * 16 + (flg / 4 % 2) * 4 }

/-- Store a line at its place under the slot of R301. Where that slot is ZEROISED the data is discarded and counted;
a slot that holds no key stores nothing (R293, R306). `flg` carries POISON and SECTOR. -/
def Mach.storeAt (m : Mach) (line addr pl : Nat) (v : LineVal) (ver flg : Nat) : Mach :=
  let k := m.storeSlot line
  if (m.slot k).state != 1 then m.inc Reg.Crypto.ZEROISED_WRITES
  else ((m.putImage pl (m.sealed k addr v ver flg)).bumpKey (some k)).wroteLine pl

/-- The line value with its own LC32. -/
def freshVal (line : Nat) (d : Line) (poison : Bool) : LineVal :=
  { data := d, lc := lc32 (lineBytes d) (dpaWord line), poison := poison }

end Sys2Proof.Machine
end

