-- ==== Sys2Proof/Machine/Canal.lean ====
section
/-! DEFINITION. The Canals (R268 to R286): training, refresh, temperature, CA parity, leaving service and its protection
check, the start of a return, the blank fill. The rebuild itself is in Rebuild.lean. -/

namespace Sys2Proof.Machine

/-- A Canal's own state. -/
def Mach.canal (m : Mach) (c : Nat) : CanalX := Tbl.getD m.canals c {}

/-- Change a Canal's own state. -/
def Mach.modCanal (m : Mach) (c : Nat) (f : CanalX → CanalX) : Mach :=
  { m with canals := Tbl.put m.canals c (f (m.canal c)) }

/-- Whether a Canal serves its lines: IN_SERVICE, or LEAVING and not yet gone (R282). -/
def Mach.canalIn (m : Mach) (c : Nat) : Bool := m.fsm .canal c = 4 || m.fsm .canal c = 5

/-- Whether a Canal counts in D: in service or rebuilding, its island neither lost nor parked (R157). -/
def Mach.canalCounts (m : Mach) (c : Nat) : Bool :=
  3 ≤ m.fsm .canal c && m.fsm .canal c ≤ 5 && !m.islandDown (13 + c)

/-- Whether mirroring is active (R412). -/
def Mach.mirrorOn (m : Mach) : Bool := m.flag Reg.Twin.MIRROR_ACTIVE

/-- Move a Canal's state machine; `HALTED` stands in OFF, OUT_OF_SERVICE and FAILED (R291). -/
def Mach.setCanal (m : Mach) (c v : Nat) : Mach :=
  let m := m.setFsm .canal v c
  if v = 0 || v = 6 || v = 7 then
    if m.flag (Reg.Hdr.HALT .canal) c then m.reachHalted .canal c else m.wr (Reg.Hdr.HALTED .canal) 1 c
  else m.wr (Reg.Hdr.HALTED .canal) 0 c

/-! ### Training (R269, R272) -/

/-- CANAL_TRAINING_START: a Canal whose riser has power-good begins to train during bring-up, once the DDR PHY PLL is locked (R272,
R503). -/
def canalTrainingStart (c : Nat) (m : Mach) : Mach :=
  if m.fsm .canal c = 0 && m.flag Reg.Canal.RISER_PG c && m.flag Reg.Clock.DDR_LOCK && m.enabled .canal c && !m.memActive then
    (m.setCanal c 1).modCanal c fun x => { x with trainStart := m.tide, returned := false }
  else m

def execCanalTrainingStart (t : Nat) (c : Fin 16) (s : State) : Out := s.run t (canalTrainingStart c)

/-- A Canal becomes FAILED with a training failure code (R272). -/
def Mach.canalFail (m : Mach) (c code : Nat) : Mach :=
  let m := (m.wr Reg.Canal.TRAIN_FAIL code c).setCanal c 7
  let m := if code = 4 then
      (m.wr Reg.Canal.POP_MATCH 0 c).event .canal c 0x2419 c (((m.canal c).spd.map fun s => s.gb).getD 0)
    else m
  m.event .canal c 0x2411 c code

/-- Whether the DIMMs that an SPD reports are of the two modes' kinds (R268). -/
def spdOk (d : Spd) : Bool :=
  32 ≤ d.gb && d.gb ≤ 512 && [4, 8].contains d.width && [16, 24, 32].contains d.dens && d.log ≤ 8

/-- The failure code of a training run: the first failing step, where the DIMMs' presence, kind and population are checked against their SPD
(R268, R272). DESIGN CHOICE (log entry 135): DIMMs of another capacity, width, density or height fail with code 3. -/
def trainCode (fail : Nat) (spd : Spd) (mismatch : Bool) : Nat :=
  if 1 ≤ fail && fail ≤ 3 then fail
  else if spd.dimms = 0 then 1
  else if !spdOk spd then 3
  else if mismatch then 4
  else if 5 ≤ fail && fail ≤ 10 then fail
  else 0

/-- The raw capacity and its frames: 16 times the reference Canal capacity, fixed at bring-up; the highest-numbered
frame is RESERVED (R177, R269). -/
def Mach.setPopulation (m : Mach) (c : Nat) (spd : Spd) : Mach :=
  if m.memActive then m
  else
    let gb := 16 * (spd.dimms * spd.gb)
    let m := m.modSt fun s => { s with refPop := some (c, spd), rawGb := gb, frames := [(gb - 1, { role := 6 })] }
    (m.wr Reg.TractTable.RAW_GB gb).wr Reg.Clock.CANAL_MHZ (if spd.dimms = 1 then 1000 else 800)

/-- Canals that trained with another population than a new reference fail with code 4; one that failed only because its population differs
from a reference that was higher-numbered trains again (R269; DEDUCED, log entry 135). -/
def Mach.rejudge (m : Mach) (spd : Spd) : Mach :=
  if m.memActive then m
  else m.each (List.range 16) fun m c =>
    if (m.fsm .canal c = 2 || m.fsm .canal c = 4) && (m.canal c).spd != some spd then m.canalFail c 4
    else if m.fsm .canal c = 7 && m.rd Reg.Canal.TRAIN_FAIL c = 4 && (m.canal c).spd = some spd then
      (m.wr Reg.Canal.TRAIN_FAIL 0 c).setCanal c 1
    else m

/-- Show what the SPD of a trained Canal reports. -/
def Mach.showSpd (m : Mach) (c : Nat) (spd : Spd) : Mach :=
  let m := (m.wr Reg.Canal.DIMMS_PRESENT (2 ^ spd.dimms - 1) c).wr Reg.Canal.POP_MATCH 1 c
  let m := (m.wr Reg.Canal.RATE_MTS (if spd.dimms = 1 then 8000 else 6400) c).wr Reg.Canal.DIMM_GB spd.gb c
  let m := (m.wr Reg.Canal.PKG_RANKS spd.pkg c).wr Reg.Canal.LOG_RANKS spd.log c
  (m.wr Reg.Canal.DEV_WIDTH spd.width c).wr Reg.Canal.CANAL_GB (spd.dimms * spd.gb) c

/-- CANAL_TRAINING_DONE: training ends, with the code of its first failing step or on a match with the reference
population; the reference is the population of the lowest-numbered Canal that trains (R269, R272). -/
def canalTrainingDone (c fail : Nat) (spd : Spd) (raw : List (List Nat)) (m : Mach) : Mach :=
  if m.fsm .canal c = 1 then
    let m := m.modCanal c fun x => { x with spd := some spd, spdBytes := (List.range 2).zip raw, tempFirst := true }
    let m := m.wr Reg.Canal.TRAIN_MS ((m.tide - (m.canal c).trainStart) / 1000000) c
    let lower := match m.st.refPop with | none => true | some (r, _) => !m.memActive && c < r
    let same := match m.st.refPop with | none => true | some (_, p) => p = spd
    let code := trainCode fail spd (!same && !lower)
    if code != 0 then (if 4 ≤ code then (m.showSpd c spd).wb Reg.Canal.POP_MATCH (same || lower) c else m).canalFail c code
    else
      let m := if lower then (m.setPopulation c spd).rejudge spd else m
      ((m.showSpd c spd).setCanal c 2).modCanal c fun x => { x with fillStart := m.tide }
  else m

/-! ### The blank fill (R280, R286) -/

/-- Every line of a Canal is blank. -/
def Mach.blankCanal (m : Mach) (c : Nat) : Mach :=
  m.modSt fun s => { s with dram := s.dram.filter fun e => canalOf e.1 != c, tabs := s.tabs.filter fun e => canalOf e.1 != c }

/-- The end of a Canal's fill: IN_SERVICE after the initial fill, else the rebuild starts (R280, R286). -/
def Mach.canalFilled (m : Mach) (c : Nat) : Mach :=
  let m := (m.blankCanal c).wr Reg.Canal.FILL_MS ((m.tide - (m.canal c).fillStart) / 1000000) c
  if (m.canal c).returned then
    let m := ((m.wr Reg.Canal.BOUNDARY 0 c).wr Reg.Canal.PLOT_BOUNDARY 0 c).wr Reg.Canal.PHASE 0 c
    let m := (m.wb Reg.Canal.SRC_TWIN m.mirrorOn c).setCanal c 3
    m.event .canal c 0x2414 c m.mirrorOn.toNat
  else (m.setCanal c 4).event .canal c 0x2410 c 0

/-- Whether the initial fill is complete: every Canal IN_SERVICE or FAILED, and one IN_SERVICE (R281). -/
def Mach.fillComplete (m : Mach) : Bool :=
  (List.range 16).all (fun c => m.fsm .canal c = 4 || m.fsm .canal c = 7) &&
  (List.range 16).any fun c => m.fsm .canal c = 4

/-! ### Leaving service (R282 to R284, R290) -/

/-- Whether every tract that satisfies `f` among those listed is mirrored while mirroring is active. -/
def Mach.allMirrored (m : Mach) (f : Nat → Nat → Bool) : Bool :=
  m.mirrorOn && m.st.tracts.all fun e => !f e.1 e.2 || tMirror e.2

/-- Whether a raw frame would hold a line without a source while the Canals of a set are away (R283). -/
def Mach.frameExposed (m : Mach) (set : List Nat) (f : Nat) (x : Frame) : Bool :=
  match x.role with
  | 1 => !(m.mirrorOn && tMirror (m.tract x.owner))
  | 2 => 1 < set.length &&
      !(Tbl.find m.st.groups (f / 16) = some .direct &&
        m.allMirrored fun n e => tMode e = 1 && tStripe e && (Tbl.getD m.st.home n {}).frame = f / 16 * 16)
  | 3 => !m.allMirrored fun _ e => tMode e = 2
  | 4 => !m.allMirrored fun _ e => tMode e = 2
  | 5 => set.any fun c => set.contains (c ^^^ 8)
  | _ => false

/-- The first raw frame that would hold a line without a source (R283). -/
def Mach.exposed (m : Mach) (set : List Nat) : Option Nat :=
  (m.st.frames.find? fun e => m.frameExposed set e.1 e.2).map fun e => e.1

/-- The Canals that would be out of service or rebuilding if `cs` left too (R283). -/
def Mach.awaySet (m : Mach) (cs : List Nat) : List Nat :=
  (List.range 16).filter fun c => cs.contains c || m.fsm .canal c != 4

/-- A Canal that rebuilds when another leaves records the loss of a source (R290). -/
def Mach.sourceLost (m : Mach) (but : Nat) : Mach :=
  m.each (List.range 16) fun m c =>
    if c != but && m.fsm .canal c = 3 then m.event .canal c 0x2415 c (m.rd Reg.Canal.BOUNDARY c % 2 ^ 32) else m

/-- `SRC_TWIN` of the Canals that rebuild follows the mirroring; one that loses the twin as a source tells it (R290). -/
def Mach.showTwinSource (m : Mach) : Mach :=
  m.each (List.range 16) fun m c =>
    if m.fsm .canal c != 3 || m.flag Reg.Canal.SRC_TWIN c = m.mirrorOn then m
    else
      let m := m.wb Reg.Canal.SRC_TWIN m.mirrorOn c
      if m.mirrorOn then m else m.event .canal c 0x2415 c (m.rd Reg.Canal.BOUNDARY c % 2 ^ 32)

/-- The Canal that takes what is spilled next: one of those that count, where there is one (R335, R336, R362). -/
def Mach.spillCanal (m : Mach) (key : Nat) : Option Nat :=
  let on := (List.range 16).filter m.canalCounts
  on[Config.spillCanal key % on.length]?

/-- `n` lines of a spill area are written or read on a Canal, in class 5 (R221, R335, R362). -/
def Mach.spillLines (m : Mach) (write : Bool) (c n : Nat) : Mach :=
  let was := m.lev
  let reg := if write then Reg.Canal.WR_LINES else Reg.Canal.RD_LINES
  let m := (m.asClass 4).each (List.range n) fun m _ => (m.inc reg c).servedBy c
  let m := if write then m.each (List.range n) fun m _ => m.bumpKey none else m
  { m with lev := was }

/-- Spilled flits whose lines lie on a Canal that leaves service are marked missing (R337). -/
def Mach.spillLost (m : Mach) (c : Nat) : Mach :=
  m.each m.links fun m e =>
    let gone := fun (f : Flit) => f.spill && f.on = c
    if e.2.held.any gone then
      let held := e.2.held.map fun f => if gone f then { f with missing := true } else f
      let m : Mach := { m with links := Tbl.put m.links e.1 { e.2 with held := held } }
      m.wr Reg.Culvert.MISSING 1 e.1
    else m

/-- A Canal leaves service at once: cause, count, tide, event, and its boundaries are discarded (R282, R284, R290). Its
queued work is disposed of as the rules of the steps that meet it say. -/
def Mach.leaveNow (m : Mach) (c cause : Nat) : Mach :=
  if 3 ≤ m.fsm .canal c && m.fsm .canal c ≤ 5 then
    let m := m.modCanal c fun x => { x with leave := none, returned := false, alerts := [], fails := [] }
    let m := (m.wr Reg.Canal.OOS_CAUSE cause c).inc Reg.Canal.OOS_COUNT c
    let m := (m.wr Reg.Canal.OOS_TIDE m.tide c).wr Reg.Canal.BOUNDARY 0 c
    let m := (m.wr Reg.Canal.PLOT_BOUNDARY 0 c).wr Reg.Canal.PHASE 0 c
    let m := m.setCanal c (if m.flag Reg.Canal.RISER_PG c then 6 else 0)
    ((m.event .canal c 0x2412 c cause).sourceLost c).spillLost c
  else m

/-- A request to leave service at the next turn boundary (R282, R283): refused with event 0x2413 where the protection
check finds a frame without a source. -/
def Mach.requestLeave (m : Mach) (cs : List Nat) (c cause : Nat) (force : Bool) : Mach :=
  let live := cs.filter fun k => m.fsm .canal k = 3 || m.fsm .canal k = 4
  if live.contains c then
    match (if force then none else m.exposed (m.awaySet live)) with
    | some f => m.event .canal c 0x2413 c f
    | none => m.each live fun m k =>
        (m.modCanal k fun x => { x with leave := some ⟨cause, force, m.fsm .canal k⟩ }).setCanal k 5
  else m

/-- The Canals a request names: with `PAIR`, both of the riser position (R282). -/
def pairOf (c : Nat) (pair : Bool) : List Nat := if pair then [c / 2 * 2, c / 2 * 2 + 1] else [c]

/-- OOS_REQ: a write of 1 to `OOS_REQ` with the `OOS_FORCE` and `PAIR` of the same write (R282, R283). -/
def Mach.oosReq (m : Mach) (c : Nat) : Mach :=
  m.requestLeave (pairOf c (m.flag Reg.Canal.PAIR c)) c 1 (m.flag Reg.Canal.OOS_FORCE c)

def execOosReq (t : Nat) (src : Source) (c : Fin 16) (force pair : Bool) (s : State) : Out :=
  s.run t fun m => m.stageWrite .canal c src fun m =>
    ((m.wb Reg.Canal.OOS_FORCE force c).wb Reg.Canal.PAIR pair c).oosReq c

/-- At a turn boundary the Canals that asked to leave do so; an unforced one is checked against the Canals that are away
by now, and stays where a frame would lose its source (R282, R283). -/
def Mach.canalBoundary (m : Mach) (c : Nat) : Mach :=
  match (m.canal c).leave with
  | none => m
  | some l =>
    let away := (List.range 16).filter fun k => m.fsm .canal k != 4 || k = c
    match (if l.force then none else m.exposed away) with
    | some f =>
      ((m.modCanal c fun x => { x with leave := none }).setCanal c l.was).event .canal c 0x2413 c f
    | none => m.leaveNow c l.cause

/-- More than `FAIL_LIMIT` check failures within 1 s raise cause 3, with `FAIL_OOS` deciding whether the Canal asks to
leave (R279). -/
def Mach.canalCheckFail (m : Mach) (c : Nat) : Mach :=
  let lim := m.rd Reg.Canal.FAIL_LIMIT c
  let fs := m.tide :: (m.canal c).fails.filter fun t => m.tide < t + 1000000000
  if lim != 0 && lim < fs.length then
    let m := (m.modCanal c fun x => { x with fails := [] }).event .canal c 0x241A c fs.length
    if m.flag Reg.Canal.FAIL_OOS c then m.requestLeave [c] c 3 false else m
  else m.modCanal c fun x => { x with fails := fs }

/-- The fall of a riser's power-good: the Canal goes out at once with cause 5 and is OFF (R279, R284, R444). -/
def Mach.riserPg (m : Mach) (c : Nat) (pg : Bool) : Mach :=
  let m := m.wb Reg.Canal.RISER_PG pg c
  if pg then m
  else if 3 ≤ m.fsm .canal c && m.fsm .canal c ≤ 5 then m.leaveNow c 5
  else if m.fsm .canal c = 0 then m
  else (m.setCanal c 0).modCanal c fun x => { x with returned := false }

/-! ### Refresh and temperature (R273 to R275) -/

/-- Show the largest count of refreshes owed by a rank. -/
def Mach.showOwed (m : Mach) (c : Nat) : Mach :=
  m.wr Reg.Canal.REF_OWED (((m.canal c).owed.map fun e => e.2).foldl max 0) c

/-- REFRESH_DUE: the refresh is issued where the rank is idle, else postponed; a rank that owes `REF_POSTPONE` issues all
it owes as one make-up burst (R274). A drift reading taken inside may take the Canal out (R273). -/
def refreshDue (c rank : Nat) (busy drift : Bool) (m : Mach) : Mach :=
  if 2 ≤ m.fsm .canal c && m.fsm .canal c ≤ 5 then
    let owed := Tbl.getD (m.canal c).owed rank 0 + 1
    let lim := m.act Reg.Canal.REF_POSTPONE c
    let issue := !busy || lim ≤ owed
    let m := m.modCanal c fun x => { x with owed := Tbl.putD x.owed rank (if issue then 0 else owed) 0 }
    let m := if busy && issue && lim != 0 then m.inc Reg.Canal.REF_BURSTS c else m
    let m := m.showOwed c
    if issue && drift then m.leaveNow c 7 else m
  else m

def execRefreshDue (t : Nat) (c : Fin 16) (rank : Nat) (busy drift : Bool) (s : State) : Out :=
  s.run t (refreshDue c rank busy drift)

/-- A signed 8-bit reading as its byte. -/
def tempByte (v : Int) : Nat := (v % 256).toNat

/-- The signed reading of a byte. -/
def byteTemp (b : Nat) : Int := if b < 128 then b else (b : Int) - 256

/-- The readings that count: one for each slot that holds a DIMM. -/
def Mach.temps (m : Mach) (c : Nat) (t0 t1 : Int) : List Int :=
  let d := m.rd Reg.Canal.DIMMS_PRESENT c
  (if d.testBit 0 then [t0] else []) ++ (if d.testBit 1 then [t1] else [])

/-- DIMM_THERMAL_READ: the refresh rate follows the readings, and a trip crossing is recorded and may ask the Canal to
leave with cause 4 (R275). -/
def dimmThermalRead (c : Nat) (t0 t1 : Int) (m : Mach) : Mach :=
  if 2 ≤ m.fsm .canal c && m.fsm .canal c ≤ 5 then
    let trip : Int := (m.rd Reg.Canal.THERM_TRIP_C c : Int)
    let was := m.temps c (byteTemp (m.rd Reg.Canal.TEMP0 c)) (byteTemp (m.rd Reg.Canal.TEMP1 c))
    let now := m.temps c t0 t1
    let top := now.foldl max (-128)
    let cross := now.any (fun v => trip < v) && ((m.canal c).tempFirst || was.all fun v => v ≤ trip)
    let m := (m.wr Reg.Canal.TEMP0 (tempByte t0) c).wr Reg.Canal.TEMP1 (tempByte t1) c
    let m := if byteTemp (m.rd Reg.Canal.TEMP_PEAK c) < top then m.wr Reg.Canal.TEMP_PEAK (tempByte top) c else m
    let m := m.modCanal c fun x => { x with tempFirst := false }
    let m :=
      if now.any (fun v => 85 < v) && !m.flag Reg.Canal.REF_2X c then
        (m.wr Reg.Canal.REF_2X 1 c).event .canal c 0x2417 c (top % 2 ^ 32).toNat
      else if now.all fun v => v ≤ 83 then m.wr Reg.Canal.REF_2X 0 c
      else m
    if cross then
      let m := m.event .canal c 0x2418 c (top % 2 ^ 32).toNat
      if m.flag Reg.Canal.THERM_OOS c then m.requestLeave [c] c 4 false else m
    else m
  else m

def execDimmThermalRead (t : Nat) (c : Fin 16) (t0 t1 : Int) (s : State) : Out := s.run t (dimmThermalRead c t0 t1)

/-! ### CA parity and RCD errors (R278, R279) -/

/-- CA_PARITY_ALERT: the retry is counted and recorded; a retry that itself meets `ALERT_n`, or more than `CAPAR_LIMIT`
errors within 1 ms, takes the Canal out with cause 2 (R278). -/
def caParityAlert (c : Nat) (again : Bool) (m : Mach) : Mach :=
  if 2 ≤ m.fsm .canal c && m.fsm .canal c ≤ 5 then
    let as := m.tide :: (m.canal c).alerts.filter fun t => m.tide < t + 1000000
    let m := (m.modCanal c fun x => { x with alerts := as }).wr Reg.Canal.LAST_ALERT_TIDE m.tide c
    let m := m.inc Reg.Canal.CAPAR_ERRS c
    let m := m.event .canal c 0x2416 c (m.rd Reg.Canal.CAPAR_ERRS c)
    if (again || m.rd Reg.Canal.CAPAR_LIMIT c < as.length) && 3 ≤ m.fsm .canal c then
      (m.inc Reg.Canal.CAPAR_STORMS c).leaveNow c 2
    else m
  else m

def execCaParityAlert (t : Nat) (c : Fin 16) (again : Bool) (s : State) : Out := s.run t (caParityAlert c again)

/-- RCD_INTERNAL_ERROR: `ALERT_n` without a CA parity error takes the Canal out with cause 8 (R279). -/
def rcdInternalError (c : Nat) (m : Mach) : Mach := (m.wr Reg.Canal.LAST_ALERT_TIDE m.tide c).leaveNow c 8

def execRcdInternalError (t : Nat) (c : Fin 16) (s : State) : Out := s.run t (rcdInternalError c)

/-! ### Starting a return (R286) -/

/-- Whether a Canal meets the conditions of a return. -/
def Mach.mayReturn (m : Mach) (c : Nat) : Bool :=
  (m.fsm .canal c = 0 || m.fsm .canal c = 6 || m.fsm .canal c = 7) && m.flag Reg.Canal.RISER_PG c && m.enabled .canal c

/-- Start a Canal's return with training. -/
def Mach.startReturn (m : Mach) (c : Nat) : Mach :=
  (m.setCanal c 1).modCanal c fun x => { x with returned := true, trainStart := m.tide }

/-- RETURN_GO: a write of 1 to `RETURN_GO` (R286). -/
def Mach.returnGo (m : Mach) (c : Nat) : Mach :=
  if m.mayReturn c then
    m.each ((pairOf c (m.flag Reg.Canal.PAIR c)).filter fun k => m.mayReturn k) fun m k => m.startReturn k
  else m

def execReturnGo (t : Nat) (src : Source) (c : Fin 16) (pair : Bool) (s : State) : Out :=
  s.run t fun m => m.stageWrite .canal c src fun m => (m.wb Reg.Canal.PAIR pair c).returnGo c

end Sys2Proof.Machine
end

