-- ==== Sys2Proof/Machine/Weir.lean ====
section
/-! DEFINITION. The Weir (R152 to R169): the admission sum, the best-effort allowance, freeboard, degraded operation, and
the budgets of the Headgates (R132 to R146). -/

namespace Sys2Proof.Machine

/-- A configuration: the value of each field of an instance and index. -/
abbrev Cfg := Field → Nat → Nat → Nat

/-- The ACTIVE configuration. -/
def Mach.cfg (m : Mach) : Cfg := fun f i n => m.act f i n

/-! ### Deliverable bandwidth (R157) -/

/-- Whether the DRAM mode is 1DPC-8000 (R157). DESIGN CHOICE (log entry 127): it is while no reference population is known. -/
def Mach.oneDpc (m : Mach) : Bool :=
  match m.st.refPop with
  | some (_, spd) => spd.dimms != 2
  | none => true

/-- The deliverable bandwidth of one Canal, MB/s (R157). -/
def dcMbps (oneDpc : Bool) (tq : Nat) : Nat :=
  if oneDpc then min 38000 (44000 - (48000 + tq - 1) / tq) else min 30000 (35000 - (40000 + tq - 1) / tq)

/-- The mask of Canals that count in D. -/
def Mach.canalsIn (m : Mach) : Nat :=
  ((List.range 16).map fun c => if m.canalCounts c then 2 ^ c else 0).sum

/-- How many Canals count in D. -/
def Mach.nIn (m : Mach) : Nat := ((List.range 16).filter m.canalCounts).length

/-! ### The admission sum (R159) -/

/-- The weight of an allotment's writes (R159). -/
def wrWeight (g : Cfg) (a : Nat) : Nat := if g Reg.Allotment.STRIPE_WR a 0 != 0 then 4 else 1

/-- 2 while mirroring is active, else 1 (R159). -/
def Mach.mirrorFactor (m : Mach) : Nat := if m.mirrorOn then 2 else 1

/-- The sum of a quantity over the guaranteed allotments. -/
def sumGuar (g : Cfg) (f : Nat → Nat) : Nat :=
  ((List.range 16).map fun a => if g Reg.Allotment.GUARANTEED a 0 != 0 then f a else 0).sum

/-- The read part of W. -/
def sumRd (g : Cfg) : Nat := sumGuar g fun a => g Reg.Allotment.RES_RD a 0

/-- The unweighted write reservations. -/
def sumWr (g : Cfg) : Nat := sumGuar g fun a => g Reg.Allotment.RES_WR a 0

/-- The weighted write part of W. -/
def sumWrW (g : Cfg) (mir : Nat) : Nat := sumGuar g fun a => g Reg.Allotment.RES_WR a 0 * wrWeight g a * mir

/-- The weighted reservation W (R159). -/
def sumW (g : Cfg) (mir : Nat) : Nat := sumRd g + sumWrW g mir

/-- What a bandwidth leaves after freeboard, in thousandths of MB/s. -/
def afterFb (g : Cfg) (d : Nat) : Nat := d * (1000 - g Reg.Weir.FREEBOARD 0 0)

/-- The shortfall of a demand against a bandwidth, rounded up (R160). -/
def shortMbps (g : Cfg) (demand d : Nat) : Nat := (demand * 1000 - afterFb g d + 999) / 1000

/-- The sector shortfall of a pool under C3: the further free sectors that it would need, rounded up (R160, R226; DESIGN CHOICE, log
entry 126). -/
def shortSect (g : Cfg) (reserve free : Nat) : Nat :=
  let k := 1000 - g Reg.Weir.FREEBOARD 0 0
  (reserve * 64 * 1000 - free * k + k - 1) / k

/-- L_twin: the payloads in force of the links assigned to the twin (R159). -/
def Mach.lTwin (m : Mach) (g : Cfg) : Nat :=
  ((List.range 8).map fun l => if (g Reg.Twin.TWIN_LINKS 0 0).testBit l then m.rd Reg.Culvert.PAYLOAD_MBPS l else 0).sum

/-- Show the quantities of the admission sum for the ACTIVE configuration and the capacity there is (R170). -/
def Mach.showSum (m : Mach) : Mach :=
  let g := m.cfg
  let dc := dcMbps m.oneDpc (g Reg.Weir.TURN_LEN 0 0)
  let m := (m.wr Reg.Weir.CANALS_IN m.canalsIn).wr Reg.Weir.N_IN m.nIn
  let m := (m.wr Reg.Weir.DC_MBPS dc).wr Reg.Weir.D_MBPS (m.nIn * dc)
  let m := m.wr Reg.Weir.RESERVABLE_MBPS (afterFb g (m.nIn * dc) / 1000)
  let m := m.wr Reg.Weir.TWIN_LINK_MBPS (if m.mirrorOn then m.lTwin g else 0)
  let m := m.wr Reg.Weir.W_MBPS (sumW g m.mirrorFactor)
  (m.wr Reg.Weir.W_RD_MBPS (sumRd g)).wr Reg.Weir.W_WR_MBPS (sumWrW g m.mirrorFactor)

/-- The recomputation of R166: the values, its tide and count, event 0x0C10. -/
def Mach.recompute (m : Mach) : Mach :=
  let m := m.showSum
  let m := (m.wr Reg.Weir.RECALC_TIDE m.tide).inc Reg.Weir.RECALCS
  m.event .weir 0 0x0C10 (m.rd Reg.Weir.D_MBPS) (m.rd Reg.Weir.RESERVABLE_MBPS)

/-- Whether C1, and C2 where it applies, hold for the ACTIVE configuration and the values last computed (R166). -/
def Mach.fits (m : Mach) : Bool :=
  let g := m.cfg
  sumW g m.mirrorFactor * 1000 ≤ afterFb g (m.rd Reg.Weir.D_MBPS) &&
  (!m.mirrorOn || sumWr g * 1000 ≤ afterFb g (m.rd Reg.Weir.TWIN_LINK_MBPS))

/-! ### Lines per turn (R132) -/

/-- A rate in MB/s as lines per turn. -/
def lines (rate tq : Nat) : Nat := rate * tq / 256

/-- T_q in force. -/
def Mach.tq (m : Mach) : Nat := m.act Reg.Weir.TURN_LEN

/-- The fields of a direction: reservation, floors, pool left, the grant shown. -/
def resField (wrt : Bool) : Field := if wrt then Reg.Allotment.RES_WR else Reg.Allotment.RES_RD
def floorField (wrt : Bool) : Field := if wrt then Reg.Headgate.FLOOR_WR else Reg.Headgate.FLOOR_RD
def poolField (wrt : Bool) : Field := if wrt then Reg.Allotment.POOL_LEFT_WR else Reg.Allotment.POOL_LEFT_RD

/-- G of an allotment (R132). -/
def Mach.grantLines (m : Mach) (wrt : Bool) (a : Nat) : Nat := lines (m.act (resField wrt) a) m.tq

/-- F(p) of an allotment (R132). -/
def Mach.floorLines (m : Mach) (wrt : Bool) (p a : Nat) : Nat := lines (m.act (floorField wrt) p a) m.tq

/-- P of an allotment (R132). -/
def Mach.poolLines (m : Mach) (wrt : Bool) (a : Nat) : Nat :=
  m.grantLines wrt a - ((List.range 4).map fun p => m.floorLines wrt p a).sum

/-- Whether an allotment is guaranteed. -/
def Mach.guar (m : Mach) (a : Nat) : Bool := m.act Reg.Allotment.GUARANTEED a != 0

/-! ### Headgate ledgers (R134, R136, R139) -/

/-- The floor lines a Headgate has left. -/
def PortX.floor (x : PortX) (wrt : Bool) (a : Nat) : Nat := Tbl.getD (if wrt then x.floorWr else x.floorRd) a 0

/-- The unused lines of a Headgate's pool grants. -/
def PortX.granted (x : PortX) (wrt : Bool) (a : Nat) : Nat := Tbl.getD (if wrt then x.grantWr else x.grantRd) a 0

/-- Set the floor lines left. -/
def PortX.setFloor (x : PortX) (wrt : Bool) (a v : Nat) : PortX :=
  if wrt then { x with floorWr := Tbl.putD x.floorWr a v 0 } else { x with floorRd := Tbl.putD x.floorRd a v 0 }

/-- Set the unused grant lines. -/
def PortX.setGranted (x : PortX) (wrt : Bool) (a v : Nat) : PortX :=
  if wrt then { x with grantWr := Tbl.putD x.grantWr a v 0 } else { x with grantRd := Tbl.putD x.grantRd a v 0 }

/-- A Headgate reloads its floors and discards what was left (R134). `z` holds the configuration of the turn that begins. -/
def Mach.reloadFloors (m z : Mach) (p : Nat) : Mach :=
  let ld := fun wrt => (List.range 16).filterMap fun a =>
    let v := z.floorLines wrt p a
    if v = 0 then none else some (a, v)
  m.modPort p fun x => { x with floorRd := ld false, floorWr := ld true, grantRd := [], grantWr := [] }

/-- Island 4 reloads the pools; what the turn debited becomes the previous turn's count (R134, R148). `z` holds the floors of the
turn that begins, which the Headgates apply on their own beacon arrival. -/
def Mach.reloadPools (m z : Mach) : Mach :=
  let m := m.each (List.range 16) fun m a =>
    let m := (m.wr Reg.Allotment.USED_RD_LAST (Tbl.getD m.weir.usedRd a 0) a).wr Reg.Allotment.USED_WR_LAST
      (Tbl.getD m.weir.usedWr a 0) a
    let m := (m.wr Reg.Allotment.GRANT_RD (m.grantLines false a) a).wr Reg.Allotment.GRANT_WR (m.grantLines true a) a
    (m.wr Reg.Allotment.POOL_LEFT_RD (z.poolLines false a) a).wr Reg.Allotment.POOL_LEFT_WR (z.poolLines true a) a
  { m with weir := { m.weir with usedRd := [], usedWr := [] } }

/-- Count lines debited against an allotment in the turn. -/
def Mach.countUsed (m : Mach) (wrt : Bool) (a n : Nat) : Mach :=
  let w := m.weir
  if wrt then { m with weir := { w with usedWr := Tbl.put w.usedWr a (Tbl.getD w.usedWr a 0 + n) } }
  else { m with weir := { w with usedRd := Tbl.put w.usedRd a (Tbl.getD w.usedRd a 0 + n) } }

/-- The `CALL` level in use of a port (R142). -/
def Mach.call (m : Mach) (p : Nat) : Nat := m.rd Reg.Headgate.CALL_USED p

/-- The port that wins a pool grant: the highest level, and among equals the first after the last winner (R139). DESIGN CHOICE (log
entry 124): before there is a winner port A is first. -/
def Mach.poolWinner (m : Mach) (asks : List Nat) (key : Nat) : Option Nat :=
  let top := (asks.map m.call).foldl max 0
  let last := Tbl.getD m.weir.lastWin key 3
  ([1, 2, 3, 4].map fun d => (last + d) % 4).find? fun p => asks.contains p && m.call p = top

/-- The lines of a grant of size `n` from a pool that holds `left`: at least one, at most 8 (R139). -/
def grantSize (n left : Nat) : Nat := min (min 8 (max 1 n)) left

/-- POOL_GRANT: Headgates ask for the same pool in one cycle; the winner gets up to 8 lines, of which the spec leaves the
size `n` open, or finds the pool empty (R139). DESIGN CHOICE (log entry 123): of several that ask for an empty pool only the one that would
have won counts a denial (R150). -/
def poolGrant (asks : List Nat) (a : Nat) (wrt : Bool) (n : Nat) (m : Mach) : Mach :=
  let key := a * 2 + wrt.toNat
  match m.poolWinner asks key with
  | none => m
  | some p =>
    let left := m.rd (poolField wrt) a
    if left = 0 then m.inc Reg.Headgate.POOL_DENIALS p
    else
      let n := grantSize n left
      let m := (m.wr (poolField wrt) (left - n) a).modPort p fun x => x.setGranted wrt a (x.granted wrt a + n)
      let m := { m with weir := { m.weir with lastWin := Tbl.put m.weir.lastWin key p } }
      m.inc Reg.Headgate.POOL_GRANTS p

def execPoolGrant (t : Nat) (asks : List Port) (a : Fin 16) (wrt : Bool) (n : Nat) (s : State) : Out :=
  s.run t (poolGrant (asks.map fun p => p.val) a wrt n)

/-- Whether the turn has come to a point `n` sixteenths of its length after its boundary (R136, R162). -/
def Mach.pastPoint (m : Mach) (n : Nat) : Bool := m.rd Reg.Clock.TURN_START * 16 + m.tq * 250 * n ≤ m.tide * 16

/-- FLOOR_HOLD_POINT: a Headgate below `CALL_KEEP` moves what is left of its floors into the pools (R136). -/
def floorHoldPoint (p : Nat) (m : Mach) : Mach :=
  if m.weir.holdDone.contains p || !m.clk.running || !m.pastPoint (m.act Reg.Headgate.FLOOR_HOLD p) then m
  else
    let m := { m with weir := { m.weir with holdDone := m.weir.holdDone ++ [p] } }
    if m.act Reg.Headgate.CALL_KEEP p ≤ m.call p then m
    else m.each (List.range 16) fun m a => m.each [false, true] fun m wrt =>
      let n := (m.port p).floor wrt a
      (m.wr (poolField wrt) (m.rd (poolField wrt) a + n) a).modPort p fun x => x.setFloor wrt a 0

def execFloorHoldPoint (t : Nat) (p : Port) (s : State) : Out := s.run t (floorHoldPoint p)

/-! ### The best-effort allowance (R162) -/

/-- The best-effort allowance A of a turn in lines (R162). -/
def Mach.beAllow (m : Mach) : Nat :=
  let peak := if m.oneDpc then 64000 else 51200
  lines (m.rd Reg.Weir.N_IN * peak * m.act Reg.Weir.BE_PCT / 100 - sumW m.cfg m.mirrorFactor) m.tq

/-- The best-effort share that a port has left. DESIGN CHOICE (log entry 131): the 16 bits of `BE_SHARE_LEFT` show a larger share as 65,535,
and the share itself is kept. -/
def Mach.beShare (m : Mach) (p : Nat) : Nat := m.rd Reg.Weir.BE_SHARE_LEFT 0 p + Tbl.getD m.weir.beOver p 0

/-- Set the best-effort share of a port. -/
def Mach.setBeShare (m : Mach) (p n : Nat) : Mach :=
  let m := m.wr Reg.Weir.BE_SHARE_LEFT (min n 65535) 0 p
  { m with weir := { m.weir with beOver := Tbl.putD m.weir.beOver p (n - 65535) 0 } }

/-- Divide an allowance among the ports whose link is up by 2^level; the rest is the remainder (R162). -/
def Mach.splitBe (m : Mach) : Mach :=
  let allow := m.beAllow
  let up := (List.range 4).filter fun p => m.flag Reg.HostPort.DL_UP p
  let total := (up.map fun p => 2 ^ m.call p).sum
  let share := fun p => if up.contains p then allow * 2 ^ m.call p / total else 0
  let given := ((List.range 4).map share).sum
  let m := (m.wr Reg.Weir.BE_ALLOW allow).wr Reg.Weir.BE_LEFT (allow - given)
  m.each (List.range 4) fun m p => m.setBeShare p (share p)

/-- The best-effort gate of a port is open (R162). -/
def Mach.beOpen (m : Mach) (p : Nat) : Bool :=
  m.beShare p != 0 || m.rd Reg.Weir.BE_LEFT != 0

/-- Debit lines from a port's share, then from the remainder, never below 0 (R162). -/
def Mach.beDebit (m : Mach) (p n : Nat) : Mach :=
  let sh := m.beShare p
  (m.setBeShare p (sh - n)).wr Reg.Weir.BE_LEFT (m.rd Reg.Weir.BE_LEFT - (n - sh))

/-- A best-effort read has hit the Cistern: its line returns to the remainder (R162). -/
def Mach.backBe (m : Mach) : Mach := m.wr Reg.Weir.BE_LEFT (m.rd Reg.Weir.BE_LEFT + 1)

/-! ### Freeboard (R163) -/

/-- The freeboard sixteenths of a kind. -/
def fbShare : Nat → Field
  | 0 => Reg.Weir.FB_SHARE_MIG
  | 1 => Reg.Weir.FB_SHARE_SCRUB
  | 2 => Reg.Weir.FB_SHARE_RESILVER
  | 3 => Reg.Weir.FB_SHARE_REKEY
  | _ => Reg.Weir.FB_SHARE_REBUILD

/-- The freeboard lines of a turn (R163). -/
def Mach.fbLines (m : Mach) : Nat := m.rd Reg.Weir.D_MBPS * m.act Reg.Weir.FREEBOARD * m.tq / 256000

/-- Grant the freeboard lines of a turn to the kinds; the rest is open (R163). -/
def Mach.grantFb (m : Mach) : Mach :=
  let fb := m.fbLines
  let m := { m with weir := { m.weir with
    fbOpen := fb - ((List.range 5).map fun k => fb * m.act (fbShare k) / 16).sum } }
  m.each (List.range 5) fun m k =>
    let n := fb * m.act (fbShare k) / 16
    (m.wr Reg.Weir.FB_GRANT n 0 k).wr Reg.Weir.FB_LEFT n 0 k

/-- Whether a kind finds a freeboard line. -/
def Mach.hasFb (m : Mach) (k : Nat) : Bool := m.rd Reg.Weir.FB_LEFT 0 k != 0 || m.weir.fbOpen != 0

/-- Whether a kind finds `n` freeboard lines (R163). -/
def Mach.hasFbN (m : Mach) (k n : Nat) : Bool := n ≤ m.rd Reg.Weir.FB_LEFT 0 k + m.weir.fbOpen

/-- Take one freeboard line: from the kind's own share first, then an open line (R163). -/
def Mach.takeFb (m : Mach) (k : Nat) : Mach :=
  let own := m.rd Reg.Weir.FB_LEFT 0 k
  if own != 0 then m.wr Reg.Weir.FB_LEFT (own - 1) 0 k
  else { m with weir := { m.weir with fbOpen := m.weir.fbOpen - 1 } }

/-- Take `n` freeboard lines. -/
def Mach.takeFbN (m : Mach) (k n : Nat) : Mach :=
  let own := m.rd Reg.Weir.FB_LEFT 0 k
  let m := m.wr Reg.Weir.FB_LEFT (own - n) 0 k
  { m with weir := { m.weir with fbOpen := m.weir.fbOpen - (n - own) } }

/-- HALF_TURN_POINT: unused best-effort shares join the remainder, unused freeboard shares become open (R162, R163). -/
def halfTurnPoint (m : Mach) : Mach :=
  if m.weir.halfDone || !m.pastPoint 8 then m
  else
    let sh := ((List.range 4).map m.beShare).sum
    let fb := ((List.range 5).map fun k => m.rd Reg.Weir.FB_LEFT 0 k).sum
    let m := m.wr Reg.Weir.BE_LEFT (m.rd Reg.Weir.BE_LEFT + sh)
    let m := m.each (List.range 4) fun m p => m.setBeShare p 0
    let m := m.each (List.range 5) fun m k => m.wr Reg.Weir.FB_LEFT 0 0 k
    { m with weir := { m.weir with halfDone := true, fbOpen := m.weir.fbOpen + fb } }

def execHalfTurnPoint (t : Nat) (s : State) : Out := s.run t halfTurnPoint

/-! ### Degraded operation (R167 to R169) -/

/-- The walk over the guaranteed allotments: the first whose contribution exceeds what remains, and what remains for it
(R167). -/
def walk (g : Cfg) (lineOf : Nat → Nat) : List Nat → Nat → Option (Nat × Nat)
  | [], _ => none
  | a :: l, left =>
    if g Reg.Allotment.GUARANTEED a 0 = 0 then walk g lineOf l left
    else if left < lineOf a then some (a, left)
    else walk g lineOf l (left - lineOf a)

/-- The cut allotment and its cut lines: of the C1 walk, or of the C2 walk where it cuts a lower-numbered allotment
(R167). -/
def Mach.cutOf (m : Mach) : Option (Nat × Nat) :=
  let g := m.cfg
  let c1 := walk g (fun a => lines (g Reg.Allotment.RES_RD a 0 + g Reg.Allotment.RES_WR a 0 * wrWeight g a * m.mirrorFactor)
    m.tq) (List.range 16) (afterFb g (m.rd Reg.Weir.D_MBPS) * m.tq / 256000)
  let c2 := if m.mirrorOn then
      walk g (fun a => lines (g Reg.Allotment.RES_WR a 0) m.tq) (List.range 16)
        (afterFb g (m.rd Reg.Weir.TWIN_LINK_MBPS) * m.tq / 256000)
    else none
  match c1, c2 with
  | some (a, n), some (b, k) => if b < a then some (b, k) else some (a, n)
  | some x, none => some x
  | none, y => y

/-- The ports in descending `CALL` level, ties in port order (R168). -/
def Mach.byCall (m : Mach) : List Nat := [3, 2, 1, 0].flatMap fun lv => (List.range 4).filter fun p => m.call p = lv

/-- Assign the cut lines to the ports; what is left serves pool releases (R168). -/
def assignCut (want : Nat → Nat) : List Nat → Nat → List (Nat × Nat) × Nat
  | [], left => ([], left)
  | p :: l, left =>
    let n := min left (want p)
    let (r, rest) := assignCut want l (left - n)
    ((p, n) :: r, rest)

/-- Enter or continue degraded operation at a boundary (R167, R168). `z` holds the floors of the turn that begins. -/
def Mach.degrade (m z : Mach) : Mach :=
  let was := m.flag Reg.Weir.DEGRADED
  let cut := m.cutOf
  let m := (m.wr Reg.Weir.DEGRADED 1).setFsm .weir 1
  let m := m.wr Reg.Weir.AVAIL_LINES (afterFb m.cfg (m.rd Reg.Weir.D_MBPS) * m.tq / 256000)
  let m := m.inc Reg.Weir.DEGRADED_TURNS
  let m := match cut with
    | none =>
      let m := ((m.wr Reg.Weir.NO_CUT 1).wr Reg.Weir.CUT_ALLOT 0).wr Reg.Weir.CUT_LINES 0
      { m with weir := { m.weir with cutPort := [], cutPool := 0 } }
    | some (a, n) =>
      let want := fun p => z.floorLines false p a + z.floorLines true p a * wrWeight m.cfg a * m.mirrorFactor
      let (ports, rest) := assignCut want m.byCall n
      let m := ((m.wr Reg.Weir.NO_CUT 0).wr Reg.Weir.CUT_ALLOT a).wr Reg.Weir.CUT_LINES n
      { m with weir := { m.weir with cutPort := ports, cutPool := rest } }
  if was then m
  else m.event .weir 0 0x0C11 (match cut with | some (a, _) => a | none => 16) (m.rd Reg.Weir.CUT_LINES)

/-- Leave degraded operation (R169). -/
def Mach.undegrade (m : Mach) : Mach :=
  let m := ((m.wr Reg.Weir.DEGRADED 0).wr Reg.Weir.NO_CUT 0).setFsm .weir 0
  let m := ((m.wr Reg.Weir.CUT_ALLOT 0).wr Reg.Weir.CUT_LINES 0).wr Reg.Weir.AVAIL_LINES 0
  let m := { m with weir := { m.weir with cutPort := [], cutPool := 0 } }
  m.event .weir 0 0x0C12 (m.rd Reg.Weir.DEGRADED_TURNS) (m.rd Reg.Weir.W_MBPS)

/-- At a boundary the Weir enters, continues or leaves degraded operation. `was` says that the configuration before the
boundary's commits fits: a commit ends degraded operation at the first boundary after it applies (R167, R169). -/
def Mach.weirMode (m z : Mach) (was : Bool) : Mach :=
  if !was || !m.fits then m.degrade z else if m.flag Reg.Weir.DEGRADED then m.undegrade else m

/-- Whether degraded operation cuts an allotment: -1 below the cut, 0 the cut allotment, 1 above it. -/
def Mach.cutSide (m : Mach) (a : Nat) : Int :=
  if m.flag Reg.Weir.DEGRADED && !m.flag Reg.Weir.NO_CUT then
    if a < m.rd Reg.Weir.CUT_ALLOT then -1 else if a = m.rd Reg.Weir.CUT_ALLOT then 0 else 1
  else -1

/-- Whether cut lines are left for a release of the cut allotment: the port's for a floor release, the rest for a pool
release (R168). -/
def Mach.cutLeft (m : Mach) (p : Option Nat) : Nat :=
  match p with
  | some p => Tbl.getD m.weir.cutPort p 0
  | none => m.weir.cutPool

/-- Consume cut lines. -/
def Mach.useCut (m : Mach) (p : Option Nat) (n : Nat) : Mach :=
  match p with
  | some p => { m with weir := { m.weir with cutPort := Tbl.put m.weir.cutPort p (m.cutLeft (some p) - n) } }
  | none => { m with weir := { m.weir with cutPool := m.weir.cutPool - n } }

/-! ### `CALL` (R142) -/

/-- A `CALL` level comes into use: the time at the level before, and the change, are counted. -/
def Mach.useCall (m : Mach) (p level : Nat) : Mach :=
  let was := m.call p
  if was = level then m
  else
    ((m.markCall p).wr Reg.Headgate.CALL_USED level p).inc Reg.Headgate.CALL_CHANGES p

/-- The level in use follows the pins, or `CALL_FORCE` while `CALL_EN` = 0 (R142). -/
def Mach.followCall (m : Mach) (p : Nat) : Mach :=
  m.useCall p (if m.flag Reg.Headgate.CALL_EN p then (m.port p).callPin else m.rd Reg.Headgate.CALL_FORCE p)

/-- CALL_LEVEL_CHANGE: a level at the pins has held for 16 core cycles (R142). -/
def callLevelChange (p level : Nat) (m : Mach) : Mach :=
  ((m.wr Reg.Headgate.CALL_PIN level p).modPort p fun x => { x with callPin := level }).followCall p

def execCallLevelChange (t : Nat) (p : Port) (level : Fin 4) (s : State) : Out := s.run t (callLevelChange p level)

/-! ### What a boundary counts (R146, R149, R151, R158) -/

/-- The port cap of a Headgate at a boundary, with the configuration `z` of the turn that begins (R146). -/
def Mach.portCap (m z : Mach) (p : Nat) : Mach :=
  let need := ((List.range 16).map fun a => if z.guar a then z.act Reg.Headgate.FLOOR_RD p a else 0).sum
  let pay := m.rd Reg.HostPort.PAYLOAD_MBPS p
  let was := m.flag Reg.Headgate.CAPPED p
  if m.flag Reg.HostPort.DL_UP p && pay < need then
    let m := (m.wr Reg.Headgate.CAPPED 1 p).setFsm .headgate 1 p
    let m := (m.wr Reg.Headgate.PORT_LEFT_RD (lines pay z.tq) p).inc Reg.Headgate.CAPPED_TURNS p
    if was then m else m.event .headgate p 0x0811 pay need
  else
    let m := ((m.wr Reg.Headgate.CAPPED 0 p).setFsm .headgate 0 p).wr Reg.Headgate.PORT_LEFT_RD 0 p
    if was then m.event .headgate p 0x0812 pay (m.rd Reg.Headgate.CAPPED_TURNS p) else m

/-- Late reads of the turn that ends: shown, and told once after a turn without any (R149). -/
def Mach.lateTurn (m : Mach) (a : Nat) : Mach :=
  let n := Tbl.getD m.weir.lateNow a 0
  let m := m.wr Reg.Allotment.LATE_LAST_TURN n a
  if n != 0 && !m.weir.lateBefore.contains a then m.event .allotment a 0x0C40 a n else m

/-- A held request has seen one more boundary: `CARRIED` at its first, event 0x0810 at its fifth (R151). -/
def Mach.heldBoundary (m : Mach) (p : Nat) : Mach :=
  m.each ((m.port p).tags.filter fun e => e.2.st = .held) fun m e =>
    let g := { e.2 with turns := e.2.turns + 1 }
    let m := m.modPort p fun x => { x with tags := Tbl.put x.tags e.1 g }
    let m := if g.turns = 1 then m.inc Reg.Headgate.CARRIED p g.allot else m
    if g.turns = 5 then m.event .headgate p 0x0810 g.allot (g.line % 2 ^ 32) else m

/-- A Canal's guaranteed lines beyond its share in the turn that ends (R158). -/
def Mach.overShare (m : Mach) (c : Nat) : Nat :=
  (m.canal c).guarLines - m.rd Reg.Weir.DC_MBPS * (1000 - m.act Reg.Weir.FREEBOARD) * m.tq / 256000

/-- Canals over their share are counted, and event 0x0C14 told after a turn without any (R158). -/
def Mach.hotTurn (m : Mach) : Mach :=
  let hot := (List.range 16).filter fun c => m.overShare c != 0
  let m := m.inc Reg.Weir.CANAL_HOT_TURNS 0 0 hot.length
  let m := match hot with
    | c :: _ => if m.weir.hotBefore then m else m.event .weir 0 0x0C14 c (m.overShare c)
    | [] => m
  let m := m.each (List.range 16) fun m c => if (m.canal c).guarLines = 0 then m else m.modCanal c fun x => { x with guarLines := 0 }
  { m with weir := { m.weir with hotBefore := !hot.isEmpty } }

/-- The counts of the turn that ends, at a boundary: Canals over their share, Late reads, what the turn noted (R149, R158). -/
def Mach.weirEnds (m : Mach) : Mach :=
  let m := m.hotTurn
  let m := m.each (List.range 16) fun m a => m.lateTurn a
  let late := (m.weir.lateNow.filter fun e => e.2 != 0).map fun e => e.1
  { m with weir := { m.weir with lateBefore := late, lateNow := [], demotedNow := [], overNow := [], halfDone := false, holdDone := [] } }

/-- What island 4 does for the turn that begins: degraded operation, best-effort shares, freeboard (R162, R163, R167,
R169). -/
def Mach.weirBegins (m z : Mach) (was : Bool) : Mach := ((m.weirMode z was).splitBe).grantFb

end Sys2Proof.Machine
end

