-- ==== Sys2Proof/Machine/Egress.lean ====
section
/-! DEFINITION. Tags and egress (R91, R98 to R103): finding and changing a tag, the check of R19, Late completions, the
Late FIFO, the last bit of a response. -/

namespace Sys2Proof.Machine

/-! ### Headgate queues (R89, R137) -/

/-- The requests of an allotment that a Headgate holds, oldest first (R89, R137). -/
def Mach.queueOf (m : Mach) (p a : Nat) : List Nat := Tbl.getD (m.port p).queues a []

/-- Replace the queue of an allotment. -/
def Mach.setQueue (m : Mach) (p a : Nat) (q : List Nat) : Mach :=
  m.modPort p fun x => { x with queues := Tbl.putD x.queues a q [] }

/-! ### Tags (R91) -/

/-- A tag of a port; none where it is FREE. -/
def Mach.tag? (m : Mach) (p g : Nat) : Option Tag := Tbl.find (m.port p).tags g

/-- Replace a tag. -/
def Mach.setTag (m : Mach) (p g : Nat) (x : Tag) : Mach := m.modPort p fun y => { y with tags := Tbl.put y.tags g x }

/-- Change a tag where it is not FREE. -/
def Mach.modTag (m : Mach) (p g : Nat) (f : Tag → Tag) : Mach :=
  match m.tag? p g with
  | some x => m.setTag p g (f x)
  | none => m

/-- Free a tag. A halted port whose last tag is free is HALTED (R84). -/
def Mach.freeTag (m : Mach) (p g : Nat) : Mach :=
  let m := m.modPort p fun y => { y with tags := Tbl.del y.tags g }
  if p < 4 && (m.port p).tags.isEmpty && m.flag (Reg.Hdr.HALT .hostPort) p then m.reachHalted .hostPort p else m

/-- The lowest free tag number of a port. -/
def Mach.newTag (m : Mach) (p : Nat) : Option Nat :=
  let ts := (m.port p).tags
  (List.range (ts.length + 1)).find? fun g => (Tbl.find ts g).isNone && g < 4096

/-- Whether an operation reads. -/
def MemOp.reads : MemOp → Bool
  | .memRd | .memRdData => true
  | _ => false

/-- Whether an operation writes. -/
def MemOp.writes : MemOp → Bool
  | .memWr | .memWrPtl => true
  | _ => false

/-- Every tag of the four ports, the fabric side and the Data Mover that satisfies a test, as port and tag. -/
def Mach.tagsWhere (m : Mach) (f : Nat → Tag → Bool) : List (Nat × Nat × Tag) :=
  m.ports.flatMap fun e => (e.2.tags.filter fun t => f e.1 t.2).map fun t => (e.1, t.1, t.2)

/-! ### The Late FIFO (R100 to R103) -/

/-- Word 0 of an entry (R100). -/
def lateW0 (line allot code hostTag : Nat) : Nat :=
  line % 2 ^ 40 + allot % 16 * 2 ^ 40 + code % 8 * 2 ^ 44 + 2 ^ 47 + hostTag % 2 ^ 16 * 2 ^ 48

/-- Word 1 of an entry (R100). -/
def lateW1 (deadline stage row : Nat) (lost : Bool) : Nat :=
  deadline % 2 ^ 32 + stage % 16 * 2 ^ 32 + row % 8 * 2 ^ 36 + lost.toNat * 2 ^ 63

/-- Put an entry into a port's Late FIFO of 1,024 entries, or count it as lost (R102). -/
def Mach.pushLate (m : Mach) (p : Nat) (w0 : Nat) (w1 : Bool → Nat) : Mach :=
  let x := m.port p
  if x.late.length < 1024 then
    let m := m.modPort p fun x => { x with late := x.late ++ [⟨w0, w1 x.lateLost⟩], lateLost := false }
    let m := m.peak Reg.Headgate.LATE_PEAK (x.late.length + 1) p
    if x.late.isEmpty then m.sendVec p 128 else m
  else
    let m := (m.inc Reg.Headgate.LATE_LOST p).modPort p fun x => { x with lateLost := true, lateEvt := true }
    if x.lateEvt then m else m.event .headgate p 0x0830 p (m.rd Reg.Headgate.LATE_LOST p)

/-- LATE_W0_READ: the head entry's word 1 is latched; word 0 is what the read returns (R101). DESIGN CHOICE
(log entry 121): a read of an empty FIFO leaves `LATE_W1` as it was. -/
def lateW0Read (p : Nat) (m : Mach) : Mach :=
  match (m.port p).late with
  | e :: _ => (m.wr Reg.Headgate.LATE_W0 e.w0 p).wr Reg.Headgate.LATE_W1 e.w1 p
  | [] => m.wr Reg.Headgate.LATE_W0 0 p

def execLateW0Read (t : Nat) (p : Port) (s : State) : Out :=
  s.run t fun m => if 2 ≤ m.pw.st then m else lateW0Read p m.awake

/-- LATE_POP: the head entry is removed; vector 128 goes out again where entries remain (R101, R103). -/
def latePop (p : Nat) (m : Mach) : Mach :=
  match (m.port p).late with
  | [] => m
  | _ :: l =>
    let m := m.modPort p fun x => { x with late := l, lateEvt := if l.isEmpty then false else x.lateEvt }
    if l.isEmpty then m else m.sendVec p 128

def execLatePop (t : Nat) (src : Source) (p : Port) (s : State) : Out :=
  s.run t fun m => m.stageWrite .headgate p src (latePop p)

/-! ### Answering a host request (R19, R20, R91, R98) -/

/-- The tide after which a read's response may not enter egress (R19). -/
def Mach.egressLimit (m : Mach) (p : Nat) (g : Tag) : Nat := g.deadline - m.rd Reg.HostPort.EGR_DATA_NS p

/-- The Late FIFO entry of a tag. DESIGN CHOICE (log entry 122): a read answered FENCED before its acceptance shows deadline 0 and row 7. -/
def Mach.lateEntry (m : Mach) (p : Nat) (g : Tag) (code stage : Nat) : Mach :=
  m.pushLate p (lateW0 g.line g.allot code g.hostTag) (lateW1 g.deadline stage g.row)

/-- Count a Late read (R20, R102, R168). -/
def Mach.countLate (m : Mach) (g : Tag) : Mach :=
  let m := (m.inc Reg.Allotment.LATE_COUNT g.allot).inc Reg.Weir.LATE_TOTAL
  let m := if g.atRisk then m.inc Reg.Weir.AT_RISK_LATE else m
  { m with weir := { m.weir with lateNow := Tbl.put m.weir.lateNow g.allot (Tbl.getD m.weir.lateNow g.allot 0 + 1) } }

/-- A chain that runs for a read that is answered goes on for the line as repair work; a Late read counts (R240). -/
def Mach.dropChain (m : Mach) (p g : Nat) (late : Bool) : Mach :=
  if m.lev.chains.any fun c => c.2.who = .read p g then
    let m := { m with lev := { m.lev with
      chains := m.lev.chains.map fun c => if c.2.who = .read p g then (c.1, { c.2 with who := .repair }) else c } }
    if late then m.inc Reg.Levee.CHAIN_LATE else m
  else m

/-- A read is abandoned: poisoned response, Late FIFO entry with code 1, counted (R20). -/
def Mach.late (m : Mach) (p g : Nat) (x : Tag) (stage : Nat) : Mach :=
  let m := (m.countLate x).lateEntry p x 1 stage
  (m.dropChain p g true).setTag p g { x with st := .responding, stage := stage, resp := some (.memData 0 true 0) }

/-- A response enters the egress link layer of a host port. A read past its limit is abandoned instead (R19); a poisoned
read form with a code enters the Late FIFO (R98, R100). -/
def Mach.egress (m : Mach) (p g : Nat) (r : Resp) (code stage : Nat) : Mach :=
  match m.tag? p g with
  | none => m
  | some x =>
    if x.st != .held && x.st != .accepted then m
    else
      match r with
      | .memData _ poison _ =>
        if x.st = .accepted && m.egressLimit p x < m.tide then m.late p g x 7
        else
          let m := if code = 1 then m.countLate x else m
          let m := if poison && code != 0 then m.lateEntry p x code stage else m
          (m.dropChain p g (code = 1)).setTag p g { x with st := .responding, stage := stage, resp := some r }
      | r => m.setTag p g { x with st := .responding, stage := stage, resp := some r }

/-- The unmapped form of a read (R64, R98). -/
def unmappedData : Resp := .memData (BitVec.allOnes 512) true 0

/-- A poisoned read response of zero data. -/
def poisonData : Resp := .memData 0 true 0

/-- RESPONSE_SENT: the last bit of a response leaves the pins and the tag is freed (R91). -/
def responseSent (p g : Nat) (m : Mach) : Mach :=
  match m.tag? p g with
  | some x =>
    match x.st, x.resp with
    | .responding, some r => ((m.emit (.resp p x.hostTag r)).inc Reg.HostPort.RESP_SENT p).freeTag p g
    | _, _ => m
  | none => m

def execResponseSent (t : Nat) (p : Port) (g : Fin 4096) (s : State) : Out := s.run t (responseSent p g)

/-- READ_EGRESS_LIMIT: a read stands elsewhere on its path at its deadline less the egress latency, and is abandoned
(R19, R20). -/
def readEgressLimit (p g : Nat) (m : Mach) : Mach :=
  match m.tag? p g with
  | some x => if x.st = .accepted && x.op.reads && m.egressLimit p x ≤ m.tide then m.late p g x x.stage else m
  | none => m

def execReadEgressLimit (t : Nat) (p : Port) (g : Fin 4096) (s : State) : Out := s.run t (readEgressLimit p g)

end Sys2Proof.Machine
end

