-- ==== Sys2Proof/Machine/Flow.lean ====
section
/-! DEFINITION. Sending over the fabric and to the twin: the path to a destination (R356), flows and credits (R361 to
R365), unit check words (R360), control flits, and the records of the twin stream (R401 to R406). -/

namespace Sys2Proof.Machine

/-! ### Links -/

/-- A Culvert link's own state. -/
def Mach.link (m : Mach) (l : Nat) : LinkX := Tbl.getD m.links l {}

/-- Change a link's own state. -/
def Mach.modLink (m : Mach) (l : Nat) (f : LinkX → LinkX) : Mach := { m with links := Tbl.put m.links l (f (m.link l)) }

/-- Change Turnout's own state. -/
def Mach.modTurn (m : Mach) (f : TurnX → TurnX) : Mach := { m with turn := f m.turn }

/-- Change the Twin logic's own state. -/
def Mach.modTwin (m : Mach) (f : TwinX → TwinX) : Mach := { m with twin := f m.twin }

/-- Change the rights directory. -/
def Mach.modShared (m : Mach) (f : SharedX → SharedX) : Mach := { m with shared := f m.shared }

/-- Whether the Twin page assigns a link to the twin (R398, R399). -/
def Mach.twinLink (m : Mach) (l : Nat) : Bool := m.rd Reg.Twin.ROLE != 0 && (m.act Reg.Twin.TWIN_LINKS).testBit l

/-- Whether a link is a fabric link: UP or retraining, and not the twin's (R348, R356). -/
def Mach.fabricLink (m : Mach) (l : Nat) : Bool :=
  (m.fsm .culvert l = 3 || m.fsm .culvert l = 4) && !m.twinLink l

/-- Whether fabric units may move: the Turnout page enabled, not in CONFLICT (R348, R351). -/
def Mach.fabricOn (m : Mach) : Bool := m.enabled .turnout && m.fsm .turnout != 4 && m.flag Reg.Turnout.ID_VALID

/-- Queue a control flit on a link. -/
def Mach.ctrl (m : Mach) (l : Nat) (c : Ctrl) : Mach := m.modLink l fun x => { x with ctrlQ := x.ctrlQ ++ [c] }

/-! ### Paths (R354, R356) -/

/-- `PATH_USE` of a destination: 0 NONE, 1 primary, 2 alternate, 3 LOCAL. -/
def Mach.pathUse (m : Mach) (d : Nat) : Nat :=
  if d < 32 then m.rd Reg.Turnout.PATH_USE_LO / 4 ^ d % 4 else m.rd Reg.Turnout.PATH_USE_HI / 4 ^ (d - 32) % 4

/-- A routing entry's fields: primary link and validity, alternate link and validity, the hop counts (R354). -/
def rPri (e : Nat) : Nat := e % 8
def rPriV (e : Nat) : Bool := e.testBit 3
def rAlt (e : Nat) : Nat := bits e 6 4
def rAltV (e : Nat) : Bool := e.testBit 7
def rPriHops (e : Nat) : Nat := bits e 11 8
def rAltHops (e : Nat) : Nat := bits e 15 12

/-- The link in use towards a destination. -/
def Mach.pathLink (m : Mach) (d : Nat) : Option Nat :=
  let e := m.act Reg.Turnout.ROUTE 0 d
  match m.pathUse d with
  | 1 => some (rPri e)
  | 2 => some (rAlt e)
  | _ => none

/-- The hop count of the path in use. -/
def Mach.pathHops (m : Mach) (d : Nat) : Nat :=
  let e := m.act Reg.Turnout.ROUTE 0 d
  if m.pathUse d = 2 then rAltHops e else rPriHops e

/-- Whether a destination can be reached (R369). -/
def Mach.reachable (m : Mach) (d : Nat) : Bool := m.fabricOn && (m.pathUse d = 1 || m.pathUse d = 2)

/-- Set `PATH_USE` of a destination with the masks and the member count that follow from it. -/
def Mach.putPath (m : Mach) (d v : Nat) : Mach :=
  let m := if d < 32 then m.wr Reg.Turnout.PATH_USE_LO (m.rd Reg.Turnout.PATH_USE_LO - m.pathUse d * 4 ^ d + v * 4 ^ d)
    else m.wr Reg.Turnout.PATH_USE_HI (m.rd Reg.Turnout.PATH_USE_HI - m.pathUse d * 4 ^ (d - 32) + v * 4 ^ (d - 32))
  let m := m.wr Reg.Turnout.REACH_MASK (setBit (m.rd Reg.Turnout.REACH_MASK) d (v != 0))
  m.wr Reg.Turnout.MEMBERS ((List.range 64).filter fun k => (m.rd Reg.Turnout.REACH_MASK).testBit k).length

/-! ### Flows (R361 to R365) -/

/-- The key of the flow to or from a device in an allotment. -/
def flowKey (d a : Nat) : Nat := d * 16 + a

/-- The send flow to a destination in an allotment. -/
def Mach.txFlow (m : Mach) (d a : Nat) : TxFlow := Tbl.getD m.turn.tx (flowKey d a) {}

/-- Replace a send flow. -/
def Mach.setTx (m : Mach) (d a : Nat) (f : TxFlow) : Mach := m.modTurn fun x => { x with tx := Tbl.put x.tx (flowKey d a) f }

/-- The receive flow from a source in an allotment. -/
def Mach.rxFlow (m : Mach) (d a : Nat) : RxFlow := Tbl.getD m.turn.rx (flowKey d a) {}

/-- Replace a receive flow. -/
def Mach.setRx (m : Mach) (d a : Nat) (f : RxFlow) : Mach := m.modTurn fun x => { x with rx := Tbl.put x.rx (flowKey d a) f }

/-- Whether a unit is sequenced (R359). -/
def seqUnit (u : FUnit) : Bool := (1 ≤ u.utype && u.utype ≤ 6) || u.utype = 11 || u.utype = 12

/-- Whether a unit uses a credit (R359, R389). -/
def credUnit (u : FUnit) : Bool :=
  (1 ≤ u.utype && u.utype ≤ 3) || (u.utype = 12 && [1, 2, 3].contains (u.be % 256))

/-- Put a unit on the send queue of the path in use, with the acknowledgment and the credits of the reverse flow (R357,
R362, R363); a RESYNC_ACK carries the grant instead (R365). A unit without a path is dropped; transport recovers it. -/
def Mach.emitUnit (m : Mach) (u : FUnit) : Mach :=
  match m.pathLink u.dst with
  | none => m
  | some l =>
    let r := m.rxFlow u.dst u.allot
    let ret := if u.utype = 9 then u.credRet else r.ret
    let u := { u with src := m.rd Reg.Turnout.MY_ID, fackV := r.known, fack := (r.next + 2 ^ 32 - 1) % 2 ^ 32, credRet := ret }
    let m := if r.known then m.setRx u.dst u.allot { r with ret := 0, due := none } else m
    (m.modLink l fun x => { x with queue := x.queue ++ [u] }).inc Reg.Turnout.UNITS_TX

/-- Debit the best-effort remainder for lines beyond a request's own (R221). -/
def Mach.debitRest (m : Mach) (n : Nat) : Mach := m.wr Reg.Weir.BE_LEFT (m.rd Reg.Weir.BE_LEFT - n)

/-- The units the send side holds. -/
def Mach.txHeld (m : Mach) : Nat := (m.turn.tx.map fun f => f.2.held.length).sum

/-- Once 4,096 units are on chip, each further one moves the oldest to the spill area: two lines under the table key (R298, R362). -/
def Mach.spillUnit (m : Mach) : Mach :=
  if 4096 < m.txHeld then ((m.spillCanal (2 ^ 23 + m.free)).elim m fun c => m.spillLines true c 2).debitRest 2 else m

/-- Show how many units the send side holds on chip and in the spill area (R362). -/
def Mach.showTxr (m : Mach) : Mach :=
  let n := m.txHeld
  (m.wr Reg.Turnout.TXR_ONCHIP (min n 4096)).wr Reg.Turnout.TXR_SPILL (n - 4096)

/-- Send the waiting units of an open flow while credits last; `n` bounds how many. -/
def Mach.pump (m : Mach) (d a : Nat) : Nat → Mach
  | 0 => m
  | n + 1 =>
    let f := m.txFlow d a
    match f.wait with
    | [] => m
    | u :: rest =>
      if f.st != 1 || (credUnit u && f.cred = 0) || (credUnit u && m.quiet .turnout) then m
      else
        let u := { u with dst := d, allot := a, fseq := f.next }
        let f := { f with wait := rest, next := (f.next + 1) % 2 ^ 32, held := f.held ++ [u] }
        let f := if credUnit u then
            { f with cred := f.cred - 1, out := f.out + 1, moved := if f.out = 0 then m.tide else f.moved }
          else f
        (((m.setTx d a f).spillUnit).emitUnit u).pump d a n

/-- Start a RESYNC exchange on a flow (R365). -/
def Mach.resync (m : Mach) (d a : Nat) : Mach :=
  let f := m.txFlow d a
  let e := (f.epoch + 1) % 2 ^ 16
  let n := (f.resyncs + 1) % 2 ^ 32
  let m := m.setTx d a { f with st := 2, epoch := e, resyncAt := m.tide, seenAt := m.tide, resyncs := n, lastTide := m.tide }
  let oldest := (f.acked + 1) % 2 ^ 32
  (m.inc Reg.Turnout.RESYNCS).emitUnit
    { utype := 8, dst := d, allot := a, fseq := oldest, line := f.next + e / 2 ^ 8 * 2 ^ 32, xid := e % 2 ^ 8 }

/-- Put a unit on a flow: it is sent while the flow is open and has credit; a flow that is DOWN resynchronises first
(R364). -/
def Mach.sendOn (m : Mach) (d a : Nat) (u : FUnit) : Mach :=
  let f := m.txFlow d a
  let m := m.setTx d a { f with wait := f.wait ++ [{ u with dst := d, allot := a }] }
  let m := if f.st = 0 && m.reachable d then m.resync d a else m.pump d a (f.wait.length + 1)
  m.showTxr

/-- The check word of a unit's data at its destination (R360). -/
def unitLc (d : Line) (line : Nat) : Nat := lc32 (lineBytes d) (dpaWord line)

/-- The XID of a host request, or of an internal tracker entry (R358). -/
def hostXid (p g : Nat) : Nat := p % 4 * 2 ^ 12 + g % 2 ^ 12
def trackXid (n : Nat) : Nat := 2 ^ 14 + n % 2 ^ 13

/-! ### The twin stream (R401 to R406) -/

/-- Whether mirrored writes and coherence of a twin region go to the peer: mirroring is active (R412). -/
def Mach.paired (m : Mach) : Bool := m.fsm .twin = 4

/-- `DIVERSE_NS` for a record: as its write was accepted, or as it stands now (R8). -/
def Mach.diverseOf (m : Mach) : Option TokAct → Nat
  | some (.write p g) => match m.tag? p g with | some x => x.diverse | none => m.rd Reg.Twin.DIVERSE_NS
  | _ => m.rd Reg.Twin.DIVERSE_NS

/-- Put a sequenced record on the stream; its acknowledgment runs the action, if any. `of` names the write it is made for. -/
def Mach.twSend (m : Mach) (r : TwRec) (act : Option TokAct := none) (of : Option TokAct := act) : Mach :=
  let k := m.twin.nextTok
  let r := if r.lc = 0 then { r with lc := unitLc r.data r.line } else r
  m.modTwin fun x => { x with
    want := x.want ++ [{ tok := k, r := r, diverse := m.diverseOf of }], nextTok := k + 1
    toks := match act with | some a => x.toks ++ [(k, a)] | none => x.toks }

/-- The twin links that are UP. -/
def Mach.twinUp (m : Mach) : List Nat := (List.range 8).filter fun l => m.twinLink l && m.fsm .culvert l = 3

/-- Send an unsequenced record on a twin link. -/
def Mach.twNow (m : Mach) (l : Nat) (r : TwRec) : Mach := m.modLink l fun x => { x with recQ := x.recQ ++ [(2 ^ 32, r)] }

/-- The next UP twin link in rotation after a link (R405). -/
def Mach.nextTwin (m : Mach) (l : Nat) : Option Nat :=
  ([1, 2, 3, 4, 5, 6, 7, 8].map fun k => (l + k) % 8).find? fun k => m.twinUp.contains k

/-- Send a record again, unchanged, on the next twin link in rotation (R405). -/
def Mach.divert (m : Mach) (r : TRec) : Mach :=
  match m.nextTwin r.link with
  | none => m
  | some l =>
    let m := m.modLink l fun x => { x with recQ := x.recQ ++ [(r.seq, r.r)] }
    let m := m.modTwin fun x => { x with
      held := x.held.map fun h => if h.tok = r.tok then { h with link := l, tide := m.tide } else h }
    m.inc Reg.Twin.DIVERTED

/-- Tell the first diversion of a turn (R405). -/
def Mach.divertAll (m : Mach) (l : Nat) (rs : List TRec) : Mach :=
  if rs.isEmpty || m.twinUp.isEmpty then m
  else
    let m := m.each rs fun m r => m.divert r
    if m.twin.divTold then m
    else (m.modTwin fun x => { x with divTold := true }).event .twin 0 0x3819 l rs.length

/-- The records held whose link is not UP any more are diverted (R405). -/
def Mach.divertFrom (m : Mach) (l : Nat) : Mach := m.divertAll l (m.twin.held.filter fun r => r.link = l)

/-! ### Answering a request, wherever it came from (R97, R98, R366, R367) -/

/-- `BE` of a COHERENCE unit (R389). -/
def cohBe (op right port region : Nat) : Nat := op + right * 2 ^ 8 + port * 2 ^ 16 + region * 2 ^ 24

/-- The operand word of a COH record (R429). -/
def cohArg (op right port region : Nat) : Nat := op + right * 2 ^ 4 + port * 2 ^ 6 + region * 2 ^ 8

/-- Send a coherence operation to a fabric device, or to the twin's peer, which stands as device 64 (R389, R429). `tail` is
the byte 2 of a COH record: the state granted, the answer, the member. Bit 32 of `BE` says that a unit carries line data. -/
def Mach.sendCoh (m : Mach) (d a : Nat) (op right port region line xid code tail : Nat) (data : Option Line)
    (act : Option TokAct := none) : Mach :=
  if d = 64 then
    let b : Line := BitVec.ofNat 512 (xid % 2 ^ 16 + tail % 2 ^ 8 * 2 ^ 16 + (if data.isSome then 2 ^ 24 else 0))
    let m := m.twSend { op := 0x14, line := line, arg := cohArg op right port region, data := b } act
    match data with
    | some v => m.twSend { op := 0x15, line := line, data := v }
    | none => m
  else
    m.sendOn d a { utype := 12, line := line, xid := xid, code := code
                   be := cohBe op right port region + (if data.isSome then 2 ^ 32 else 0)
                   data := data.getD 0, lc := unitLc (data.getD 0) line }

/-- The fabric response to a unit: data and code of a read, the completion of a write, the grant of a coherent request
(R366, R367, R389). -/
def Mach.unitResp (m : Mach) (x : Tag) (r : Resp) (code : Nat) : Mach :=
  match x.coh with
  | some c =>
    let (d, st) := match r with
      | .memData d poison st => (if code = 0 && !poison then some d else none, st)
      | .cmpE => (none, 2)
      | .cmpS => (none, 1)
      | _ => (none, 0)
    m.sendCoh x.src x.allot 5 st (x.hostTag % 4) c.region x.hpa x.xid code st d
  | none =>
    match r with
    | .memData d _ _ =>
      let d := if code = 0 || code = 2 && x.row = 0 then d else 0
      m.sendOn x.src x.allot
        { utype := 4, line := x.hpa, xid := x.xid, code := code, demoted := x.demoted, data := d, lc := unitLc d x.hpa
          guar := x.guar }
    | _ => m.sendOn x.src x.allot { utype := 5, line := x.hpa, xid := x.xid, code := code, guar := x.guar }

/-! ### The internal operation tracker (R94, R95) -/

/-- The reserved entries of a kind (R94). -/
def trackReserve : Nat → Nat
  | 0 => 1024 | 1 => 512 | 2 => 2048 | 3 => 512 | _ => 1024

/-- Whether a kind finds a reserved or a shared entry free; the flag says that it would be a shared one. -/
def Mach.trackRoom (m : Mach) (k : Nat) : Option Bool :=
  if (m.mover.tracks.filter fun t => t.2.kind = k && !t.2.shared).length < trackReserve k then some false
  else if (m.mover.tracks.filter fun t => t.2.shared).length < 3072 then some true
  else none

/-- Take a tracker entry; its number is the one before `nextTrack` afterwards. Where none is free the wait is counted
(R95). -/
def Mach.track (m : Mach) (k line deadline : Nat) : Option Mach :=
  (m.trackRoom k).map fun sh =>
    let n := m.mover.nextTrack
    { m with mover := { m.mover with
      tracks := Tbl.put m.mover.tracks n { kind := k, line := line, deadline := deadline, shared := sh }, nextTrack := n + 1 } }.showTrack k

/-- Whether a step of a kind is under way: it holds its tracker entry (R94). -/
def Mach.stepOn (m : Mach) (k : Nat) : Bool := (Tbl.find m.mover.steps k).any fun n => (Tbl.find m.mover.tracks n).isSome

/-- A tracker entry belongs to something. -/
def Mach.claim (m : Mach) (n : Nat) : Mach :=
  match Tbl.find m.mover.tracks n with
  | some t => { m with mover := { m.mover with tracks := Tbl.put m.mover.tracks n { t with claimed := true } } }
  | none => m

/-- The tracker entry of a step of an internal operation: its own, the one that INTERNAL_OP_START has taken for its kind, or a new one; none
where none is free (R94, R95). -/
def Mach.stepEntry (m : Mach) (k line deadline : Nat) : Option Mach :=
  if m.stepOn k then some m
  else
    let own := fun (m : Mach) n => ({ m with mover := { m.mover with steps := Tbl.put m.mover.steps k n } } : Mach).claim n
    match m.mover.tracks.find? fun e => e.2.kind = k && !e.2.claimed with
    | some e => some (own m e.1)
    | none => (m.track k line deadline).map fun t => own t m.mover.nextTrack

/-- A step of a kind starts, or goes on: a new one takes its tracker entry and its freeboard lines (R95, R163); none where it waits. -/
def Mach.stepStart (m : Mach) (k line deadline n : Nat) : Option Mach :=
  if m.stepOn k then some m
  else if !m.hasFbN k n then none
  else (m.stepEntry k line deadline).map fun m => m.takeFbN k n

/-- A step that has its freeboard lines and finds no tracker entry waits, and is counted (R95). -/
def Mach.stepWait (m : Mach) (k n : Nat) : Mach := if m.hasFbN k n then m.inc Reg.DataMover.TRACK_WAITS else m

/-! ### Data Mover jobs (R116 to R118) -/

/-- Change a Data Mover job. -/
def Mach.modJob (m : Mach) (j : Nat) (f : Job → Job) : Mach :=
  match Tbl.find m.mover.jobs j with
  | some x => { m with mover := { m.mover with jobs := Tbl.put m.mover.jobs j (f x) } }
  | none => m

/-- A Data Mover job ends with a code once; the first code met stands (R117). -/
def Mach.jobCode (m : Mach) (j code : Nat) : Mach :=
  m.modJob j fun x => if x.code = 0 then { x with code := code } else x

/-- A line of a job is complete (R118). -/
def Mach.jobLine (m : Mach) (j : Nat) : Mach :=
  match Tbl.find m.mover.jobs j with
  | some x =>
    let m := m.modJob j fun x => { x with done := x.done + 1, retries := 0 }
    (m.wr Reg.DataMover.LINES_DONE (x.done + 1) 0 j).inc Reg.DataMover.LINES_MOVED
  | none => m

/-- A line access of a job ends (R116, R117): a read's data is posted to host memory; a Late read is tried again up to
`RETRY_MAX` times. -/
def Mach.jobAnswer (m : Mach) (x : Tag) (r : Resp) (code : Nat) : Mach :=
  let j := x.xid
  match Tbl.find m.mover.jobs j with
  | none => m
  | some b =>
    if code = 1 && x.op.reads && b.retries < m.rd Reg.DataMover.RETRY_MAX then
      m.modJob j fun b => { b with retries := b.retries + 1 }
    else if code != 0 then m.jobCode j code
    else
      match r with
      | .memData d _ _ =>
        if b.code = 0 then (m.emit (.hostWrite b.port (b.hpa + 64 * b.done) d.toNat 64)).jobLine j else m
      | _ => if b.code = 0 then m.jobLine j else m

/-- Answer a fabric unit or a Data Mover line access, whose read ends LATE past its deadline (R116, R367), or send a host request's response into egress. Index 4 of the ports
is the fabric side, index 5 the Data Mover. -/
def Mach.answer (m : Mach) (p g : Nat) (r : Resp) (code stage : Nat) : Mach :=
  if p < 4 then m.egress p g r code stage
  else
    match m.tag? p g with
    | none => m
    | some x =>
      let late := x.op.reads && code = 0 && x.deadline < m.tide
      let (r, code) := if late then (.memData 0 true 0, 1) else (r, code)
      let m := ((m.dropChain p g (code = 1)).freeTag p g).untrack x.want
      let m := if code = 1 && x.atRisk then m.inc Reg.Weir.AT_RISK_LATE else m
      if p = 4 then
        let m := if code = 1 && x.op.reads then m.inc Reg.Turnout.OWNER_LATE else m
        m.unitResp x r code
      else
        let m := if code = 1 then m.inc Reg.DataMover.LATE_STEPS 0 4 else m
        m.jobAnswer x r code

end Sys2Proof.Machine
end

