-- ==== Sys2Proof/Machine/Lines.lean ====
section
/-! DEFINITION. Lines in flight: acceptance order (R88), the merge buffer's entries and what a read of a line finds there
(R105, R247 to R249), the poison record (R246), the away map (R417). -/

namespace Sys2Proof.Machine

/-- The next place in acceptance order (R88). -/
def Mach.nextOrder (m : Mach) : Mach := { m with order := m.order + 1 }

/-- Change the Levee's own state. -/
def Mach.modLev (m : Mach) (f : LeveeX → LeveeX) : Mach := { m with lev := f m.lev }

/-! ### The away map (R417, R430) -/

/-- The 256 KB region of a line. -/
def lineRegion (line : Nat) : Nat := line / 4096

/-- Insert a number into a rising list. -/
def insertNat (n : Nat) : List Nat → List Nat
  | [] => [n]
  | a :: l => if n < a then n :: a :: l else if n = a then a :: l else a :: insertNat n l

/-- Whether the Twin page keeps the away map: WAITING, PAIRING or SOLO (R415, R417). -/
def Mach.keepsAway (m : Mach) : Bool := m.fsm .twin = 1 || m.fsm .twin = 2 || m.fsm .twin = 5

/-- Mark the region of a line of a mirrored tract (R417). -/
def Mach.markAway (m : Mach) (line : Nat) : Mach :=
  if m.keepsAway && tMirror (m.entryOf line) then
    let m := m.modTwin fun x => { x with away := insertNat (lineRegion line) x.away }
    m.wr Reg.Twin.AWAY_REGIONS m.twin.away.length
  else m

/-! ### The poison record (R246) -/

/-- Show the record's length; `PREC_OVF` clears when it becomes empty. -/
def Mach.showPrec (m : Mach) : Mach :=
  let m := m.wr Reg.Levee.PREC_COUNT m.lev.prec.length
  if m.lev.prec.isEmpty then m.wr Reg.Levee.PREC_OVF 0 else m

/-- A line is marked poisoned: event 0x1C12, and its entry unless it has one or the record is full (R246). -/
def Mach.recordPoison (m : Mach) (line cause : Nat) : Mach :=
  let m := (m.event .levee 0 0x1C12 (line % 2 ^ 32) (line / 2 ^ 32 + cause * 2 ^ 8)).markAway line
  if m.lev.prec.any fun e => e.line = line then m
  else if m.lev.prec.length < 256 then
    (m.modLev fun x => { x with prec := x.prec ++ [⟨line, cause, m.tide⟩] }).showPrec
  else (m.wr Reg.Levee.PREC_OVF 1).event .levee 0 0x1C15 256 0

/-- A line's entry leaves the record. -/
def Mach.clearPrec (m : Mach) (line : Nat) : Mach :=
  (m.modLev fun x => { x with prec := x.prec.filter fun e => e.line != line }).showPrec

/-! ### Merge-buffer entries (R247 to R249) -/

/-- A merge-buffer entry. -/
def Mach.merge? (m : Mach) (e : Nat) : Option Merge := Tbl.find m.lev.merge e

/-- Show the occupancy of the merge buffer. -/
def Mach.showMerge (m : Mach) : Mach :=
  let n := m.lev.merge.length
  let m := (m.wr Reg.Levee.MB_USED n).peak Reg.Levee.MB_PEAK n
  let m := m.wr Reg.Levee.MB_FETCH (m.lev.merge.filter fun e => e.2.st = .fetch).length
  m.wr Reg.Levee.MB_DRAIN (m.lev.merge.filter fun e => e.2.st = .drain).length

/-- Replace an entry. -/
def Mach.setMerge (m : Mach) (e : Nat) (x : Merge) : Mach :=
  (m.modLev fun y => { y with merge := Tbl.put y.merge e x }).showMerge

/-- Free an entry; a Levee that was full takes writes again (R247). -/
def Mach.freeMerge (m : Mach) (e : Nat) : Mach :=
  let m := (m.modLev fun y => { y with merge := Tbl.del y.merge e, full := false }).showMerge
  m.setFsm .levee 0

/-- The lowest FREE entry of 4,096; none where the buffer is full (R247). -/
def Mach.newMerge (m : Mach) : Option Nat :=
  if 4096 ≤ m.lev.merge.length then none
  else (List.range (m.lev.merge.length + 1)).find? fun e => (m.merge? e).isNone

/-- The entry of a line in HELD or FETCH, of which there is at most one (R249). -/
def Mach.openMerge (m : Mach) (line : Nat) : Option (Nat × Merge) :=
  m.lev.merge.find? fun e => e.2.line = line && (e.2.st = .held || e.2.st = .fetch)

/-- The entries that hold a line, the older first (R249). -/
def Mach.mergesOf (m : Mach) (line : Nat) : List (Nat × Merge) :=
  let es := m.lev.merge.filter fun e => e.2.line = line && e.2.st != .reserved
  (es.filter fun e => e.2.st = .drain || e.2.st = .flume) ++ es.filter fun e => e.2.st = .held || e.2.st = .fetch

/-- Merge a write into a line value: its bytes where the mask is set; a full write clears poison, a partial one keeps it
(R244, R245). -/
def WrLog.apply (w : WrLog) (v : LineVal) : LineVal :=
  let m512 : Line := (List.range 64).foldl (fun acc i =>
    if w.mask.getLsbD i then acc ||| (BitVec.ofNat 512 255 <<< (8 * i)) else acc) 0
  { data := (v.data &&& ~~~m512) ||| (w.data &&& m512), lc := v.lc
    poison := w.poison || (v.poison && w.mask != BitVec.allOnes 64) }

/-- Whether a write covers the line, so that no old line is needed (R245, R249). -/
def WrLog.full (w : WrLog) : Bool := w.mask = BitVec.allOnes 64

/-- The writes of a log that a read of a given acceptance order sees (R107). -/
def seenLogs (ls : List WrLog) (order : Nat) : List WrLog := ls.filter fun w => w.order ≤ order

/-- The value of a line after the writes of a log, over a base if one is at hand; none where the base is needed and not
there. -/
def applyLogs (base : Option LineVal) : List WrLog → Option LineVal
  | [] => base
  | w :: l => applyLogs (if w.full then some (w.apply {}) else base.map w.apply) l

/-- What the merge buffer gives a read of a line: the value where its entries hold it, or the entries' writes over a base
that the read must still fetch (R105). -/
def Mach.mergedVal (m : Mach) (line order : Nat) (base : Option LineVal) : Option LineVal :=
  (m.mergesOf line).foldl (fun b e => applyLogs (if e.2.base.isSome then e.2.base else b) (seenLogs e.2.logs order)) base

/-- The newest write of an entry, in acceptance order. -/
def Merge.last (x : Merge) : Nat := (x.logs.map fun w => w.order).foldl max 0

/-- Whether an entry holds a write to the line that a read of the order sees. -/
def Mach.hasMerge (m : Mach) (line order : Nat) : Bool :=
  (m.mergesOf line).any fun e => !(seenLogs e.2.logs order).isEmpty

/-- Whether a write to the line was accepted at or after an order and is still on its way to DRAM, its reserved entry included, or has been
stored since. -/
def Mach.writtenSince (m : Mach) (line order : Nat) : Bool :=
  (m.lev.merge.any fun e => e.2.line = line && if e.2.st = .reserved then order ≤ e.2.order else e.2.logs.any fun w => order ≤ w.order) ||
  (match Tbl.find m.lev.lastStore line with | some o => order ≤ o | none => false)

/-- Whether the device is in Twin mode (R398). -/
def Mach.twinMode (m : Mach) : Bool := m.rd Reg.Twin.ROLE != 0 && m.enabled .twin

end Sys2Proof.Machine
end

