-- ==== Sys2Proof/Machine/Frames.lean ====
section
/-! DEFINITION. Raw frames, plot frames and stripe rows (R174 to R178, R187, R188, R253 to R257): what is free, taking and
releasing storage, the write hold, what is stored at a physical line, parity. -/

namespace Sys2Proof.Machine

/-! ### What is free (R175, R187, R188, R536) -/

/-- The FREE raw frames that no passed commit has set aside, ascending. -/
def Mach.freeFrames (m : Mach) : List Nat :=
  (List.range m.st.rawGb).filter fun f =>
    (Tbl.find m.st.frames f).isNone && !(m.commits.any fun k => k.frames.contains f)

/-- The first frames of the groups of 16 FREE frames, ascending (R176). -/
def Mach.freeGroups (m : Mach) : List Nat :=
  let free := m.freeFrames
  free.filter fun f => f % 16 = 0 && (List.range 16).all fun k => free.contains (f + k)

/-- The raw frames of a role. -/
def Mach.framesOf (m : Mach) (role : Nat) : List Nat := (m.st.frames.filter fun e => e.2.role = role).map fun e => e.1

/-- The first frames of the stripe groups of a use. -/
def Mach.groupsOf (m : Mach) (u : GrpUse) : List Nat := (m.st.groups.filter fun e => e.2 = u).map fun e => e.1 * 16

/-- The plot frames in use, each by the number of its first line (R253 for a striped group). -/
def Mach.usedPlotFrames (m : Mach) : List Nat :=
  (m.st.plots.filterMap fun e => if e.2.tier = 1 || e.2.tier = 3 then some e.2.loc else none) ++
  m.st.plotFrames.map fun e => e.1

/-- The data frames that hold plot frames of striped or unstriped tracts. -/
def Mach.plotDataFrames (m : Mach) (striped : Bool) : List Nat :=
  if striped then (m.groupsOf .plots).flatMap fun f0 => (List.range 15).map fun s => f0 + s else m.framesOf 3

/-- `PLOT_FREE` (R188). -/
def Mach.plotFree (m : Mach) : Nat :=
  ((m.plotDataFrames false).length + (m.plotDataFrames true).length + m.freeFrames.length) * 262144 -
    m.usedPlotFrames.length

/-- Whether taking `n` plot frames leaves `PLOT_FREE` above the reserve (R188). -/
def Mach.abovePlotReserve (m : Mach) (n : Nat) : Bool := m.act Reg.TractTable.FRAME_RESERVE + n < m.plotFree

/-- `WRITE_HOLD` rises when `PLOT_FREE` falls to the reserve and lifts 4,096 above it (R188). -/
def Mach.holdCheck (m : Mach) : Mach :=
  let free := m.rd Reg.TractTable.PLOT_FREE
  let res := m.act Reg.TractTable.FRAME_RESERVE
  if !m.flag Reg.TractTable.WRITE_HOLD && free ≤ res then
    let m := ((m.wr Reg.TractTable.WRITE_HOLD 1).setFsm .tractTable 1).inc Reg.TractTable.HOLD_TURNS
    m.event .tractTable 0 0x1011 free res
  else if m.flag Reg.TractTable.WRITE_HOLD && res + 4096 < free then
    let m := (m.wr Reg.TractTable.WRITE_HOLD 0).setFsm .tractTable 0
    m.event .tractTable 0 0x1012 free (m.rd Reg.TractTable.HOLD_TURNS)
  else m

/-- Show the counts of frames and tracts (R202, R203). -/
def Mach.showFrames (m : Mach) : Mach :=
  let n := fun r => (m.framesOf r).length
  let md := fun k => (m.st.tracts.filter fun e => tMode e.2 = k).length
  let m := (m.wr Reg.TractTable.F_FREE (m.st.rawGb - m.st.frames.length)).wr Reg.TractTable.F_DIRECT (n 1)
  let m := (m.wr Reg.TractTable.F_STRIPE (n 2)).wr Reg.TractTable.F_PLOT (n 3)
  let m := (m.wr Reg.TractTable.F_SECTOR (n 4)).wr Reg.TractTable.F_TABLE (n 5)
  let m := (m.wr Reg.TractTable.F_RESERVED (n 6)).wr Reg.TractTable.F_DRAINING (n 7)
  let m := (m.wr Reg.TractTable.N_DIRECT (md 1)).wr Reg.TractTable.N_MANAGED (md 2)
  let m := (m.wr Reg.TractTable.N_REMOTE (md 3)).wr Reg.TractTable.MANAGED_GB (md 2)
  let span := (m.st.tracts.map fun e => if tMode e.2 = 0 then 0 else e.1 + 1).foldl max 0
  let m := (m.wr Reg.TractTable.SPAN_GB span).wr Reg.TractTable.PLOT_FREE m.plotFree
  if m.st.rawGb = 0 then m else m.holdCheck

/-- Give a frame a role. -/
def Mach.setFrame (m : Mach) (f : Nat) (x : Frame) : Mach :=
  m.modSt fun s => { s with frames := Tbl.putD s.frames f x {} }

/-- A frame is released: DRAINING until it is blank and every earlier request has completed (R178). -/
def Mach.releaseFrame (m : Mach) (f : Nat) (next : Option Nat) : Mach :=
  m.setFrame f { role := 7, order := m.order, next := next }

/-- A stripe group forms from 16 frames. -/
def Mach.newGroup (m : Mach) (f0 : Nat) (u : GrpUse) : Mach :=
  let m := m.each (List.range 16) fun m k => m.setFrame (f0 + k) { role := 2 }
  m.modSt fun s => { s with groups := Tbl.put s.groups (f0 / 16) u }

/-- A stripe group ends. -/
def Mach.endGroup (m : Mach) (f0 : Nat) : Mach :=
  let m := m.each (List.range 16) fun m k => m.releaseFrame (f0 + k) none
  m.modSt fun s => { s with groups := Tbl.del s.groups (f0 / 16) }

/-- The lowest unused plot frame of a data frame. -/
def Mach.plotFrameIn (m : Mach) (f : Nat) : Option Nat :=
  let used := m.usedPlotFrames.filter fun v => v / 2 ^ 24 = f
  if 262144 ≤ used.length then none
  else ((List.range (used.length + 1)).map fun k => f * 2 ^ 24 + 64 * k).find? fun v => !used.contains v

/-- Take a plot frame for a plot; none where there is no room (R187). -/
def Mach.takePlotFrame (m : Mach) (plot : Nat) (striped : Bool) : Option (Mach × Nat) :=
  let put := fun (m : Mach) (v : Nat) =>
    ((m.modSt fun s => { s with plotFrames := Tbl.put s.plotFrames v plot }).showFrames, v)
  match (m.plotDataFrames striped).findSome? m.plotFrameIn with
  | some v => some (put m v)
  | none =>
    if striped then (m.freeGroups.head?).map fun f0 => put (m.newGroup f0 .plots) (f0 * 2 ^ 24)
    else (m.freeFrames.head?).map fun f => put (m.setFrame f { role := 3 }) (f * 2 ^ 24)

/-- A plot frame that a move took is not in its hands any more. -/
def Mach.dropPlotFrame (m : Mach) (v : Nat) : Mach :=
  (m.modSt fun s => { s with plotFrames := Tbl.del s.plotFrames v }).showFrames

/-! ### What lies at a physical line -/

/-- The group, the slot and the row of a physical line in a stripe group; slot 15 stands for the parity line (R253). -/
def rowPlace (pl : Nat) : Nat × Nat × Nat :=
  let f0 := pl / 2 ^ 28 * 16
  let off := pl % 2 ^ 28
  let r := off / 16
  let i := off % 16
  let p := r % 16
  (f0, if i = p then 15 else if i < p then i else i - 1, r)

/-- What is stored at a physical line: a line of a tract, a Flume sector of a plot, a parity line, or nothing known. -/
inductive Stored where
  | line (l : Nat)
  | sector (plot : Nat)
  | parity
  | nothing
deriving DecidableEq, Repr

/-- What a line numbered within a data frame holds, in a frame of plots or sectors. -/
def Mach.virtualHolds (m : Mach) (v : Nat) : Stored :=
  match m.st.plots.find? fun e => (e.2.tier = 1 || e.2.tier = 3) && e.2.loc = v / 64 * 64 with
  | some e => .line (e.1 * 64 + v % 64)
  | none =>
    match m.st.plots.find? fun e => e.2.tier = 2 && e.2.loc ≤ v && v < e.2.loc + e.2.sectors with
    | some e => .sector e.1
    | none => .nothing

/-- What a physical line holds. -/
def Mach.holds (m : Mach) (pl : Nat) : Stored :=
  let fr := m.frame (pl / 2 ^ 24)
  match fr.role with
  | 1 => .line (fr.owner * 2 ^ 24 + pl % 2 ^ 24)
  | 2 =>
    let (f0, s, r) := rowPlace pl
    if s = 15 then .parity
    else
      match Tbl.find m.st.groups (f0 / 16) with
      | some .direct =>
        match m.st.home.find? fun e => e.2.frame = f0 && e.2.slot = s with
        | some e => .line (e.1 * 2 ^ 24 + r)
        | none => .nothing
      | some _ => m.virtualHolds ((f0 + s) * 2 ^ 24 + r)
      | none => .nothing
  | 3 => m.virtualHolds pl
  | 4 => m.virtualHolds pl
  | _ => .nothing

/-- The checks of an image at a physical line, whatever lies there (R233, R235, R254, R302). -/
def Mach.checkAt (m : Mach) (pl : Nat) (i : Image) : Seen :=
  match m.holds pl with
  | .line l => m.checkImage l (dpaWord l) pl i
  | .sector p => m.checkImage (p * 64) (plWord pl) pl i
  | _ =>
    { ok := i.blank && !i.flg.testBit 7 && i.data = 0 && i.mac = 0 && i.ver = 0 && i.lc = (blankImage pl).lc, blank := i.blank }

/-! ### Parity (R254 to R257) -/

/-- The fields of a line that parity covers: stored bytes, MAC64, VER16, and FLG16 AND 0x0075; a blank line contributes
zero (R254). -/
def contrib (i : Image) : Image :=
  if i.blank then { data := 0, lc := 0, mac := 0, ver := 0, flg := 0 } else { i with lc := 0, flg := i.flg &&& 0x75 }

/-- The exclusive or of two contributions. -/
def xorImg (a b : Image) : Image :=
  { data := a.data ^^^ b.data, lc := 0, mac := a.mac ^^^ b.mac, ver := a.ver ^^^ b.ver, flg := a.flg ^^^ b.flg }

/-- What a stored parity line says of its row. -/
def parityBody (i : Image) : Image :=
  if i.blank then contrib i else { i with lc := 0, flg := i.flg / 2 ^ 8 % 2 ^ 8 }

/-- The LC32 of a parity line over its bytes and its metadata bytes 4 to 15 (R235). -/
def parityLc (pl : Nat) (i : Image) : Nat :=
  lc32 (lineBytes i.data ++ leBytes 8 i.mac ++ leBytes 2 i.ver ++ leBytes 2 i.flg) (plWord pl)

/-- The parity line of a row with a body (R254). -/
def parityImage (pl : Nat) (c : Image) (poison : Bool) : Image :=
  let i : Image := { data := c.data, lc := 0, mac := c.mac, ver := c.ver, flg := poison.toNat + 8 + c.flg * 2 ^ 8 }
  { i with lc := parityLc pl i }

/-- Whether a stored parity line passes its checks (R233, R235). -/
def parityReads (pl : Nat) (i : Image) : Bool :=
  !i.flg.testBit 7 &&
  if i.blank then i.data = 0 && i.mac = 0 && i.ver = 0 && i.lc = (blankImage pl).lc
  else i.flg.testBit 3 && parityLc pl i = i.lc

/-- Whether a stored parity line passes its checks and is not poisoned, so that its row can be rebuilt from it (R257). -/
def parityOk (pl : Nat) (i : Image) : Bool := parityReads pl i && (i.blank || !i.poisoned)

/-- The physical lines of the data lines of a row. -/
def rowLines (f0 r : Nat) : List Nat := (List.range 15).map fun s => stripePl f0 s r

/-- The parity of some data lines as they are stored. -/
def Mach.rowSum (m : Mach) (pls : List Nat) : Image :=
  pls.foldl (fun a pl => xorImg a (contrib (m.image pl))) { data := 0, lc := 0, mac := 0, ver := 0, flg := 0 }

/-- Whether a Canal takes reads and writes of a line: in service, or rebuilding and the line below its boundary (R287). -/
def Mach.canalServes (m : Mach) (pl line : Nat) : Bool :=
  let c := canalOf pl
  match m.fsm .canal c with
  | 4 => true
  | 5 => true
  | 3 =>
    let role := (m.frame (pl / 2 ^ 24)).role
    if role = 3 || role = 4 then m.flag Reg.Canal.PHASE c && line / 64 < m.rd Reg.Canal.PLOT_BOUNDARY c
    else m.flag Reg.Canal.PHASE c || pl / 16 < m.rd Reg.Canal.BOUNDARY c
  | _ => false

/-- A line of a table block is read and checked; `err` is what the DRAM and the channel have done to it. A line whose Canal does not serve it
is none (R190, R191, R229, R260). -/
def Mach.readTable (m : Mach) (tract n : Nat) (err : BitVec 640) : Mach × Bool :=
  let pl := m.tabPl tract n
  if !m.canalServes pl pl then (m, false)
  else
    let m := m.readLine pl
    let (m, k) := match m.flipFor false (2 ^ 40) pl with
      | some f => (m.useFlip f, if f.side = 0 then f.mask else f.mask &&& BitVec.ofNat 640 (2 ^ 544 - 1))
      | none => (m, 0)
    let stored := match Tbl.find m.st.tabs pl with | some x => x.mask | none => 0
    (m, stored ^^^ err ^^^ k = 0 || m.checkTable pl ((m.tabImage tract n).xor (err ^^^ k)))

/-- Rebuild the parity line of a physical line's row from its 15 stored data lines. -/
def Mach.fixParity (m : Mach) (pl : Nat) : Mach :=
  if m.striped (pl / 2 ^ 24) then
    let (f0, _, r) := rowPlace pl
    let p := parityPl f0 r
    let ls := rowLines f0 r
    if ls.all fun x => (m.image x).blank then m.putImage p (blankImage p)
    else m.putImage p (parityImage p (m.rowSum ls) false)
  else m

/-- Blank a plot frame that is not in use any more, so that it is blank when it is next used. -/
def Mach.blankPlotFrame (m : Mach) (v : Nat) : Mach :=
  m.each (List.range 64) fun m k =>
    let pl := m.realPl (v + k)
    (m.putImage pl (blankImage pl)).fixParity pl

/-! ### Releases at a boundary (R187, R189) -/

/-- Frames of plots and of table blocks without use are released (R187, R189). -/
def Mach.releaseUnused (m : Mach) : Mach :=
  let used := m.usedPlotFrames.map fun v => v / 2 ^ 24
  let m := m.each (m.framesOf 3) fun m f => if used.contains f then m else m.releaseFrame f none
  let m := m.each (m.groupsOf .plots) fun m f0 =>
    if (List.range 15).any fun s => used.contains (f0 + s) then m else m.endGroup f0
  let m := m.each (m.framesOf 5) fun m f =>
    if m.st.home.any fun e => e.2.frame = f then m else m.releaseFrame f none
  m.showFrames

/-- Whether a line's tract waits for storage that a commit took from its own releases: a frame of the tract that is DRAINING
toward its next role. Every request to the tract is held until then (R536). -/
def Mach.tractHeld (m : Mach) (line : Nat) : Bool :=
  let n := line / 2 ^ 24
  let waits := fun f => (m.frame f).role = 7 && (m.frame f).next.isSome
  match Tbl.find m.st.home n with
  | none => false
  | some h =>
    if tMode (m.tract n) = 1 && h.slot != 15 then (List.range 16).any fun k => waits (h.frame + k) else waits h.frame

/-- Whether a request accepted up to an order is still open. -/
def Mach.openBefore (m : Mach) (order : Nat) : Bool :=
  !(m.tagsWhere fun _ x => x.st = .accepted && x.order ≤ order).isEmpty ||
  m.lev.merge.any fun e => e.2.order ≤ order && e.2.st != .reserved

/-- A guaranteed access to a physical line counts on its Canal in the turn: 1, or for a striped write 2 there and 2 on the Canal of its
parity (R158, R159). -/
def Mach.guarAt (m : Mach) (pl : Nat) (write : Bool) : Mach :=
  let add := fun (m : Mach) c n => m.modCanal c fun y => { y with guarLines := y.guarLines + n }
  if write && m.striped (pl / 2 ^ 24) then
    let (f0, _, r) := rowPlace pl
    add (add m (canalOf pl) 2) (canalOf (parityPl f0 r)) 2
  else add m (canalOf pl) 1

/-- Every line of a frame is blank. -/
def Mach.blankFrame (m : Mach) (f : Nat) : Mach :=
  m.modSt fun s => { s with dram := s.dram.filter fun e => e.1 / 2 ^ 24 != f }

/-- FRAME_DRAIN_COMPLETE: the Siphon writes the last blank line of a released frame, which takes its next role (R178, R536): a line of
kind 0, on its freeboard and with a tracker entry (R94, R163), which waits while the Siphon is HALTED (R206). The spec gives no command for the
lines before it. -/
def frameDrainComplete (f : Nat) (m : Mach) : Mach :=
  let x := m.frame f
  if x.role = 7 && !m.openBefore x.order && m.hasFb 0 && (m.trackRoom 0).isSome && !m.quiet .siphon then
    let m := (m.takeFb 0).blankFrame f
    let w := Tbl.find m.st.waitFrames f
    let m := m.setFrame f (match x.next with | some r => { role := r, owner := w.getD 0 } | none => {})
    (m.modSt fun s => { s with waitFrames := Tbl.del s.waitFrames f }).showFrames
  else m

def execFrameDrainComplete (t : Nat) (f : Nat) (s : State) : Out := s.run t (frameDrainComplete f)

end Sys2Proof.Machine
end

