-- ==== Sys2Proof/Machine/Lz.lean ====
section
/-! DEFINITION. The Flume-LZ format (R214 to R218): decoding a row, the forms of a row and of a plot, the directory word. -/

namespace Sys2Proof.Machine

/-! ### Decoding (R217) -/

/-- Copy `n` bytes at a distance from the end of the output, which is held last byte first. -/
def lzCopy : Nat → Nat → List Nat → List Nat
  | 0, _, out => out
  | n + 1, d, out => lzCopy n d (out.getD (d - 1) 0 :: out)

/-- Decode tokens: the output last byte first, the bytes after the end token, and how many bytes the stream has; none on
a format error. `n` bounds the number of tokens. -/
def lzTokens : Nat → List Nat → List Nat → Nat → Option (List Nat × List Nat × Nat)
  | 0, _, _, _ => none
  | _ + 1, [], _, _ => none
  | n + 1, c :: l, out, used =>
    if c = 0 then some (out, l, used + 1)
    else if c < 128 then
      if l.length < c || 1024 < out.length + c then none
      else lzTokens n (l.drop c) ((l.take c).reverse ++ out) (used + 1 + c)
    else
      match l with
      | [] => none
      | b :: l =>
        let len := c / 4 % 32 + 3
        let d := c % 4 * 256 + b + 1
        if out.length < d || 1024 < out.length + len then none
        else lzTokens n l (lzCopy len d out) (used + 2)

/-- Decode an LZ row from its sectors' bytes: the 1,024 bytes, the stream, the stored check; none on a format error. -/
def lzDecode (bs : List Nat) : Option (List Nat × List Nat × Nat) :=
  match lzTokens (bs.length + 1) bs [] 0 with
  | some (out, rest, used) =>
    if out.length = 1024 && 4 ≤ rest.length then some (out.reverse, bs.take used, fromLe (rest.take 4)) else none
  | none => none

/-- The row check: CRC-32C over the DPA of the row's first byte and the stream (R218). -/
def rowCheck (line : Nat) (stream : List Nat) : Nat := crc32c (leBytes 8 (line / 16 * 16 * 64) ++ stream)

/-! ### Encoding (R216) -/

/-- Sixteen lines as 1,024 bytes. -/
def rowBytes (ls : List Line) : List Nat := ls.flatMap lineBytes

/-- Bytes as whole lines, padded with 0. -/
def linesOf (bs : List Nat) : List Line := (pieces 64 ((bs.length + 63) / 64) bs).map bytesLine

/-- The form of a row and its sectors: ZERO, LZ with the stream that the engine found where it is a valid one of at most
956 bytes, else LITERAL (R216). -/
def encodeRow (line : Nat) (ls : List Line) (stream : List Nat) : Nat × List Line :=
  let bs := rowBytes ls
  if bs.all (· = 0) then (0, [])
  else
    match lzTokens (stream.length + 1) stream [] 0 with
    | some (out, [], _) =>
      if out.reverse = bs && stream.length ≤ 956 then
        (1, linesOf (stream ++ leBytes 4 (rowCheck line stream)))
      else (2, ls)
    | _ => (2, ls)

/-- Row `r` of 64 lines. -/
def plotRow (ls : List Line) (r : Nat) : List Line := (ls.drop (16 * r)).take 16

/-- The four rows of a plot encoded: their forms and their sectors. -/
def encodePlot (plot : Nat) (ls : List Line) (streams : List (List Nat)) : List (Nat × List Line) :=
  (List.range 4).map fun r => encodeRow (plot * 64 + 16 * r) (plotRow ls r) (streams.getD r [])

/-! ### The directory (R214) -/

/-- The first sector of a row. -/
def Dir.start (d : Dir) (r : Nat) : Nat := d.loc + (d.cnt.take r).sum

end Sys2Proof.Machine
end

