-- ==== Sys2Proof/Machine/Chain.lean ====
section
/-! DEFINITION. Reading a stored line wherever it lies, storing a line, and the recovery chain with its ends (R193, R194,
R219, R220, R236 to R246, R255, R258, R259, R285, R287). -/

namespace Sys2Proof.Machine

/-! ### Reading (R193, R219, R285, R287) -/

/-- What a read of a line's own storage finds: the line, a failed check at a physical line, a bad row of a compressed
plot (a format error or its check), or a Canal that does not serve it. -/
inductive Try where
  | ok (v : LineVal)
  | bad (pl : Nat) (s : Seen) (flip : Bool)
  | row (format : Bool) (pl : Nat)
  | away (pl : Nat)
deriving DecidableEq, Repr

/-- The slice that event 0x1410 names. -/
def sliceOf (n : Nat) : Nat := Config.cisSlice n % 32

/-- Read one physical line for a line, under an address word. -/
def Mach.readAt (m : Mach) (line addr pl : Nat) (err : BitVec 640) : Mach × Try :=
  if m.canalServes pl line then
    let (m, s, fl) := m.readDram line addr pl err
    if s.ok then (m, .ok s.val) else (m, .bad pl s (fl || m.lev.flipped.contains pl))
  else (m, .away pl)

/-- Read sectors of a plot: their bytes, or the first that does not pass. A poisoned sector makes the read poisoned. -/
def Mach.readSectors (m : Mach) (plot : Nat) : List Nat → List (BitVec 640) → Mach × (Option Try × List Line × Bool)
  | [], _ => (m, none, [], false)
  | v :: l, errs =>
    let pl := m.realPl v
    let (m, r) := m.readAt (plot * 64) (plWord pl) pl (errs.head?.getD 0)
    match r with
    | .ok x =>
      let (m, r', ls, po) := m.readSectors plot l errs.tail
      (m, r', x.data :: ls, po || x.poison)
    | t => (m, some t, [], false)

/-- Decode an LZ row from its sectors (R220, R229). -/
def decodeLz (line : Nat) (ls : List Line) (n : Nat) : Option Line × Bool :=
  match lzDecode (rowBytes ls) with
  | none => (none, true)
  | some (bs, stream, chk) =>
    if rowCheck line stream = chk then (some (bytesLine ((bs.drop (64 * n)).take 64)), false) else (none, false)

/-- Read line `line` of a COMPRESSED plot (R219): the sectors of an LZ row beyond the first run in class 5 on the best-effort remainder, but
for an internal reader (R221). -/
def Mach.readComp (m : Mach) (line : Nat) (errs : List (BitVec 640)) : Mach × Try :=
  let plot := line / 64
  let d := m.dir plot
  let r := line % 64 / 16
  let one := fun (m : Mach) (v : Nat) =>
    let (m, t, ls, po) := m.readSectors plot [v] errs
    match t with
    | some t => (m, t)
    | none => (m, .ok (freshVal line (ls.head?.getD 0) po))
  if d.kind = 1 then one m d.loc
  else
    match d.enc.getD r 0 with
    | 0 => (m, .ok (freshVal line 0 false))
    | 2 => one m (d.start r + line % 16)
    | _ =>
      let n := d.cnt.getD r 0
      let (m, t, ls, po) := m.readSectors plot ((List.range (min 1 n)).map fun k => d.start r + k) errs
      let m := if m.lev.cls = 2 then m else (m.asClass 4 m.lev.hint).debitRest (n - 1)
      let (m, t, ls', po') := if t.isSome then (m, t, [], false)
        else m.readSectors plot ((List.range (n - 1)).map fun k => d.start r + 1 + k) errs.tail
      let ls := ls ++ ls'
      let po := po || po'
      match t with
      | some t => (m, t)
      | none =>
        match decodeLz line ls (line % 16) with
        | (some v, _) => (m, .ok (freshVal line v po))
        | (none, f) => (m, .row f (m.realPl (d.start r)))

/-- Whether the plot entry poisons a line: `POISON` of the plot, until a full-line write clears it for the line (R186). -/
def Mach.plotPoison (m : Mach) (line : Nat) : Bool :=
  tMode (m.entryOf line) = 2 && (m.plot (line / 64)).poison && !(m.plot (line / 64)).clean.testBit (line % 64)

/-- Whether step 3 applies to a line (R238, R410, R423). -/
def Mach.mayRefetch (m : Mach) (line : Nat) : Bool :=
  tMirror (m.entryOf line) && m.mirrorOn && !m.twinUp.isEmpty &&
  !(m.fsm .twin = 3 && m.flag Reg.Twin.RS_SOURCE && m.rd Reg.Twin.RS_BOUNDARY ≤ line)

/-- A Cistern line that fails its LC32 is counted and told (R194). -/
def Mach.cisFail (m : Mach) (slot line : Nat) : Mach :=
  (m.inc Reg.Cistern.CHECK_FAILS).event .cistern 0 0x1410 (sliceOf slot) line

/-- Whether a value of the Cistern passes its LC32; `bad` says that the SRAM has damaged it. -/
def cisOk (line : Nat) (v : LineVal) (bad : Bool) : Bool := !bad && lc32 (lineBytes v.data) (dpaWord line) = v.lc

/-- Show the line cache's use. -/
def Mach.showCis (m : Mach) : Mach := m.wr Reg.Cistern.LINES_VALID m.st.cisLines.length

/-- The Cistern's copy of a line: of its CISTERN plot in the hot tier, or of a `CACHE` tract in the line cache. -/
def Mach.cisCopy (m : Mach) (line : Nat) : Option LineVal :=
  match m.place line with
  | .cis f _ => Tbl.find m.st.cisTier (f * 64 + line % 64)
  | .zero => none
  | _ => if tCache (m.entryOf line) then Tbl.find m.st.cisLines line else none

/-- The Cistern's copy of a line fails its LC32: it is invalidated, counted and told (R194). -/
def Mach.dropCopy (m : Mach) (line : Nat) : Mach :=
  match m.place line with
  | .cis f _ =>
    (m.modSt fun s => { s with cisTier := Tbl.del s.cisTier (f * 64 + line % 64) }).cisFail (f * 64 + line % 64) line
  | _ => ((m.modSt fun s => { s with cisLines := Tbl.del s.cisLines line }).cisFail (2 ^ 21 + line) line).showCis

/-- Read a line from its home, past the Cistern: DRAM, or the row of a COMPRESSED plot. -/
def Mach.homeRead (m : Mach) (line : Nat) (errs : List (BitVec 640)) : Mach × Try :=
  match m.place line with
  | .dram pl => m.readAt line (dpaWord line) pl (errs.headD 0)
  | .cis _ pl => m.readAt line (dpaWord line) pl (errs.headD 0)
  | .comp => m.readComp line errs
  | _ => (m, .ok (freshVal line 0 false))

/-- Whether a read of a line hits the Cistern; `bad` says that the SRAM has damaged the copy (R193, R194). -/
def Mach.cisHit (m : Mach) (line : Nat) (bad : Bool) : Bool :=
  !m.plotPoison line && match m.cisCopy line with | some v => cisOk line v bad | none => false

/-- Read a line from its own storage past the merge buffer: plot poison (a lost plot entry, whose mirrored lines the twin
supplies, R191), the Cistern, DRAM, Flume. -/
def Mach.tryRead (m : Mach) (line : Nat) (errs : List (BitVec 640)) (cisBad : Bool) : Mach × Try :=
  if m.plotPoison line then
    (m, if m.mayRefetch line then .away (2 ^ 38) else .ok (freshVal line 0 true))
  else
    match m.cisCopy line with
    | some v => if cisOk line v cisBad then (m.inc Reg.Cistern.HITS, .ok v) else (m.dropCopy line).homeRead line errs
    | none =>
      let cached := match m.place line with | .cis _ _ => false | .zero => false | _ => tCache (m.entryOf line)
      (if cached then m.inc Reg.Cistern.MISSES else m).homeRead line errs

/-- How many lines the line cache can hold (R193). -/
def Mach.cacheLines (m : Mach) : Nat := (32768 - m.act Reg.Cistern.TIER_FRAMES) * 64

/-- The line that makes room for a line in its set of the line cache, where its 16 ways are in use: `victim`, where it lies in the set, or
one of the set (R193). -/
def Mach.cisVictim (m : Mach) (line victim : Nat) : Option Nat :=
  if m.st.cisLines.length < 16 then none
  else
    let set := fun l => Config.cacheSet 2 l % (m.cacheLines / 16)
    let ways := (m.st.cisLines.filter fun e => set e.1 = set line).map fun e => e.1
    if ways.length < 16 || ways.contains line then none
    else if ways.contains victim then some victim else ways[m.fresh.toNat % 16]?

/-- Fill a line into the line cache for a read, where `en` says that `LINE_FILL_EN` was 1 at its acceptance (R8); `victim` is the line that
pseudo-LRU names where its set is full (R193). Poisoned lines are never filled (R243). -/
def Mach.cacheFill (m : Mach) (line : Nat) (v : LineVal) (victim : Nat) (en : Bool) : Mach :=
  if tCache (m.entryOf line) && en && !v.poison && !m.islandDown 12 then
    if m.cacheLines = 0 then m
    else
      let m := match m.cisVictim line victim with
        | some w => m.nextFree.modSt fun s => { s with cisLines := Tbl.del s.cisLines w }
        | none => m
      (m.modSt fun s => { s with cisLines := Tbl.put s.cisLines line v }).showCis
  else m

/-! ### Storing (R234, R236, R237, R258, R259) -/

/-- An internal check failure: counted and told with its row of R236, unless a flip caused it (R237, R259). -/
def Mach.internalFail (m : Mach) (line row : Nat) (flip : Bool) : Mach :=
  if flip then (m.inc Reg.Levee.FLIP_HITS).event .levee 0 0x1C16 line (m.rd Reg.Levee.FLIP_LEFT)
  else (m.inc Reg.Levee.INTERNAL_FAILS).event .levee 0 0x1C13 line row

/-- Store a line at a physical line under an address word: the checks and the flip facility of the store boundary, and
the counters of its key. `bad` says that the boundary's own check fails. The parity is not touched. -/
def Mach.storeRaw (m : Mach) (line addr pl : Nat) (v : LineVal) (ver flg : Nat) (bad : Bool := false) : Mach :=
  let m := m.modLev fun x => { x with flipped := x.flipped.filter fun q => q != pl }
  let spoil := fun (m : Mach) (d : Line) (flip : Bool) =>
    let m := (m.internalFail line 3 flip).recordPoison line 5
    m.storeAt line addr pl { data := d, lc := lc32 (lineBytes d) addr, poison := true } ver (flg / 2 * 2 + 1)
  match m.flipFor true line pl with
  | none => if bad then spoil m v.data false else m.storeAt line addr pl v ver flg
  | some f =>
    let m := m.useFlip f
    if f.side = 1 then spoil m (v.data ^^^ f.mask.extractLsb' 0 512) true
    else
      let m := m.storeAt line addr pl v ver flg
      let m := m.putImage pl ((m.image pl).xor f.mask)
      m.modLev fun x => { x with flipped := x.flipped ++ [pl] }

/-- Remember the acceptance order of the last write stored to a line. -/
def Mach.noteStore (m : Mach) (line order : Nat) : Mach :=
  m.modLev fun x => { x with lastStore := Tbl.put x.lastStore line (max order (Tbl.getD x.lastStore line 0)) }

/-! ### Stripe rows (R255 to R259, R285) -/

/-- A MAC64 failure met by a chain, at any step (R241, R303). -/
def Mach.chainMac (m : Mach) (line pl : Nat) (s : Seen) (flip : Bool) : Mach :=
  if s.mac && !flip && s.counted then m.macFailure line false false s.slot (canalOf pl) else m

/-- A check failure that a flip alone caused is counted and told (R259). -/
def Mach.flipHit (m : Mach) (line : Nat) : Mach :=
  (m.inc Reg.Levee.FLIP_HITS).event .levee 0 0x1C16 line (m.rd Reg.Levee.FLIP_LEFT)

/-- A line is read for its row, under the line and the address word of its checks: as it was read, and whether it passed. A MAC64
failure counts (R303), and is noted for the chain that reads the row (R241). -/
def Mach.readMember (m : Mach) (line addr pl : Nat) (err : BitVec 640) : Mach × Image × Bool :=
  let i := (m.image pl).xor err
  let j := match m.flipFor false line pl with
    | some f => if f.side = 0 then i.xor f.mask else i
    | none => i
  let flipped := m.lev.flipped.contains pl
  let (m, s, flip) := m.readDram line addr pl err
  if s.ok then (m, j, true)
  else
    let m := m.modLev fun x => { x with rowMac := x.rowMac || s.mac }
    ((if flip || flipped then m.flipHit line else m).chainMac line pl s (flip || flipped), j, false)

/-- A physical line is read for its row, whatever lies there: data, parity or nothing (R255, R256). The flip facility finds a line
that has no DPA by its PL or its Canal only (R258). -/
def Mach.readForRow (m : Mach) (pl : Nat) (err : BitVec 640) : Mach × Image × Bool :=
  match m.holds pl with
  | .line l => m.readMember l (dpaWord l) pl err
  | .sector p => m.readMember (p * 64) (plWord pl) pl err
  | h =>
    let was := (m.image pl).xor err
    let (m, i) := match m.flipFor false (2 ^ 40) pl with
      | some f => (m.useFlip f, was.xor (if f.side = 0 then f.mask else f.mask &&& BitVec.ofNat 640 (2 ^ 544 - 1)))
      | none => (m, was)
    let reads := fun i => match h with | .parity => parityReads pl i | _ => (m.checkAt pl i).ok
    let ok := reads i && (h != .parity || parityOk pl i)
    let m := m.readLine pl
    (if !reads i && (reads was || m.lev.flipped.contains pl) then m.flipHit (pl % 2 ^ 40) else m, i, ok)

/-- Lines are read for their row: as they were read, and whether all passed. -/
def Mach.readRow (m : Mach) : List Nat → List (BitVec 640) → Mach × List Image × Bool
  | [], _ => (m, [], true)
  | pl :: l, errs =>
    let (m, i, ok) := m.readForRow pl (errs.headD 0)
    let (m, is, oks) := m.readRow l errs.tail
    (m, i :: is, ok && oks)

/-- The exclusive or of what lines contribute to their parity, from a start on. -/
def sumImgs (a : Image) (is : List Image) : Image := is.foldl (fun a i => xorImg a (contrib i)) a

/-- A line that has no DPA, a parity line or a blank one, is stored: the flip facility finds it by its PL or its Canal (R258). -/
def Mach.putFlipped (m : Mach) (pl : Nat) (i : Image) : Mach :=
  let m := m.modLev fun x => { x with flipped := x.flipped.filter fun q => q != pl }
  match m.flipFor true (2 ^ 40) pl with
  | none => m.putImage pl i
  | some f =>
    let k := if f.side = 0 then f.mask else f.mask &&& BitVec.ofNat 640 (2 ^ 544 - 1)
    ((m.useFlip f).putImage pl (i.xor k)).modLev fun x => { x with flipped := x.flipped ++ [pl] }

/-- The parity line of a row is written. -/
def Mach.writeParity (m : Mach) (p : Nat) (body : Image) (poison : Bool) : Mach :=
  (m.putFlipped p (parityImage p body poison)).wroteLine p

/-- Whether two Canals of one riser position rebuild together: neither is a stripe source for the other (R290). -/
def Mach.pairRebuilds (m : Mach) (a b : Nat) : Bool := a ^^^ b = 1 && m.fsm .canal a = 3 && m.fsm .canal b = 3

/-- Whether every other line of a physical line's row is served (R285, R290). -/
def Mach.rowServed (m : Mach) (pl line : Nat) : Bool :=
  let (f0, _, r) := rowPlace pl
  ((parityPl f0 r) :: rowLines f0 r).all fun x => x = pl || (m.canalServes x line && !m.pairRebuilds (canalOf pl) (canalOf x))

/-- Whether a store to a physical line updates the parity of its row: striped, and the parity line's Canal serves it (R256, R285). -/
def Mach.parityDue (m : Mach) (pl : Nat) : Bool :=
  m.striped (pl / 2 ^ 24) && m.canalServes (parityPl (pl / 2 ^ 28 * 16) (pl % 2 ^ 28 / 16)) pl

/-- Lines of one row are stored together: one parity read and one parity write (R256). The parity is rebuilt from the row's other lines
where an old line or the parity fails its checks, or where a Canal does not serve the old line (R257, R285); a poisoned parity line, whose row
is unprotected, stays as it is (R257). `fails` and `lost` say
that reads of the old row, and of the rebuild, fail on the way. -/
def Mach.rowUpdate (m : Mach) (ws : List Drained) (fails lost : Bool) : Mach :=
  match ws with
  | [] => m
  | w :: _ =>
    let (f0, _, r) := rowPlace w.pl
    let p := parityPl f0 r
    let others := (rowLines f0 r).filter fun q => !ws.any fun w => w.pl = q
    let away := ws.filter fun w => w.away
    let served := others.all fun q => m.canalServes q q
    if !m.canalServes p p || (!away.isEmpty && !served) then m
    else
      let (m, par, pok) := if away.isEmpty then m.readForRow p 0 else (m, blankImage p, true)
      if away.isEmpty && !pok && parityReads p par then m
      else
      let bad := fails || !pok || ws.any fun w => !w.ok
      if away.isEmpty && !bad then
        m.writeParity p (ws.foldl (fun a w => xorImg a (xorImg (contrib w.old) (contrib w.new))) (parityBody par)) false
      else
        let m := away.foldl (fun m w => m.inc Reg.Canal.DEGRADED_WRITES (canalOf w.pl)) m
        let m := if away.isEmpty then m else m.debitRest 11
        let (m, is, ok) := if served then m.readRow others [] else (m, [], false)
        let body := sumImgs { data := 0, lc := 0, mac := 0, ver := 0, flg := 0 } (is ++ ws.map fun w => w.new)
        if ok && !lost then
          let m := m.writeParity p body false
          if bad then m.inc Reg.Levee.RMW_RECON else m
        else ((m.writeParity p body true).inc Reg.Levee.STRIPE_UNPROT).event .levee 0 0x1C14 f0 r

/-- A write to a striped line whose Canal is away: its parity takes it (R285). A ZEROISED slot discards it (R306). -/
def Mach.degraded (m : Mach) (line addr pl : Nat) (v : LineVal) (ver flg : Nat) : Mach × Option Drained :=
  let k := m.storeSlot line
  if (m.slot k).state != 1 then (m.inc Reg.Crypto.ZEROISED_WRITES, none)
  else (m.bumpKey (some k), some ⟨pl, m.image pl, true, m.sealed k addr v ver flg, true⟩)

/-- A store of the device's own to a striped line whose Canal is away. -/
def Mach.degradedWrite (m : Mach) (line addr pl : Nat) (v : LineVal) (flg : Nat) : Mach :=
  match m.degraded line addr pl v ((m.image pl).ver + 1) flg with
  | (m, some d) => m.rowUpdate [d] false false
  | (m, none) => m

/-- A store of the device's own to a physical line, with its row's parity. -/
def Mach.storeWithRow (m : Mach) (line pl : Nat) (store : Mach → Mach) : Mach :=
  if m.parityDue pl then
    let away := !m.canalServes pl line
    let (m, old, ok) := if away then (m, m.image pl, true) else m.readForRow pl 0
    let m := store m
    m.rowUpdate [⟨pl, old, ok, m.image pl, away⟩] false false
  else store m

/-- An internal store of a line with the version it already had (R234), and its row's parity (R254). -/
def Mach.storeInternal (m : Mach) (line pl : Nat) (v : LineVal) (ver : Nat) : Mach :=
  if m.canalTakes pl then
    m.storeWithRow line pl fun m => m.storeRaw line (dpaWord line) pl { v with lc := lc32 (lineBytes v.data) (dpaWord line) } ver v.poison.toNat
  else if m.striped (pl / 2 ^ 24) then m
  else m.inc Reg.Canal.LOST_WRITES (canalOf pl)

/-- A write's value reaches the Cistern copies of its line (R186, R193, R198). -/
def Mach.updateCistern (m : Mach) (line : Nat) (v : LineVal) : Mach :=
  let m :=
    if (Tbl.find m.st.cisLines line).isSome then
      (m.modSt fun s => { s with
        cisLines := if v.poison then Tbl.del s.cisLines line else Tbl.put s.cisLines line v }).showCis
    else m
  let p := m.plot (line / 64)
  let filling := match m.sip.move with
    | some mv => mv.plot = line / 64 && p.migrating && mv.expanded && (mv.op = 1 || mv.op = 5)
    | none => false
  if !m.islandDown 12 && tMode (m.entryOf line) = 2 && (p.tier = 3 || filling) then
    let m := m.modSt fun s => { s with cisTier := Tbl.put s.cisTier (p.cis * 64 + line % 64) v }
    if filling then
      { m with sip := { m.sip with move := m.sip.move.map fun mv =>
        { mv with written := setBit mv.written (line % 64) true } } }
    else m
  else m

/-! ### The chain (R238 to R246) -/

/-- Change a chain. -/
def Mach.setChain (m : Mach) (k : Nat) (c : Chain) : Mach := m.modLev fun x => { x with chains := Tbl.put x.chains k c }

/-- The requester of event 0x1C10: 0 host read, 1 partial-write fetch, 2 internal (R265). -/
def requester : ChainFor → Nat
  | .read p _ => if p < 4 then 0 else 2
  | .fetch _ => 1
  | _ => 2

/-- The DPA field of parameter 1 (R265). -/
def dpaHi (line : Nat) : Nat := line / 2 ^ 32 % 2 ^ 8

/-- The first failure of a stored line: counted, told, remembered, a sector by its PL (R238, R259, R264, R265, R279). -/
def Mach.firstFail (m : Mach) (who : ChainFor) (line pl : Nat) (s : Seen) (flip : Bool) : Mach :=
  let c := canalOf pl
  let m := (m.inc Reg.Levee.LINE_CHECKS_FAILED).inc Reg.Levee.CANAL_FAILS 0 c
  let m := if s.mac then m.inc Reg.Levee.MAC_FAILS else m
  let sector := match m.holds pl with | .sector _ => true | _ => false
  let m := (m.wr Reg.Levee.LAST_FAIL_LINE (if sector then pl else line)).wr Reg.Levee.LAST_FAIL_CANAL c
  let m := (m.wb Reg.Levee.LAST_FAIL_MAC s.mac).wr Reg.Levee.LAST_FAIL_TIDE m.tide
  let m := if flip then (m.inc Reg.Levee.FLIP_HITS).event .levee 0 0x1C16 line (m.rd Reg.Levee.FLIP_LEFT)
    else m.event .levee 0 0x1C10 line (dpaHi line + c * 2 ^ 8 + s.mac.toNat * 2 ^ 12 + requester who * 2 ^ 13)
  (m.chainMac line pl s flip).canalCheckFail c

/-- What a granted right lets a read say (R380). -/
def cohGrant (x : Tag) : Nat :=
  match x.coh with
  | some c => if c.right = 1 then 1 else if c.right = 2 then 2 else 0
  | none => 0

/-- The line of a read is at hand: it is answered with what the merge buffer makes of it (R98, R105, R243). -/
def Mach.finishRead (m : Mach) (p g : Nat) (v : LineVal) (code stage : Nat) : Mach :=
  match m.tag? p g with
  | none => m
  | some x =>
    if x.st != .accepted then m
    else
      let f := (m.mergedVal x.line x.order (some v)).getD v
      if f.poison then
        let merged := m.hasMerge x.line x.order
        let m := if code = 0 && !merged && p < 4 then m.inc Reg.Levee.POISON_READS else m
        m.answer p g poisonData (if code = 0 || merged then 2 else code) (if merged then 8 else stage)
      else m.answer p g (.memData f.data false (cohGrant x)) 0 stage

/-- The old line of a partial write is at hand; what older entries of the line hold is laid over it (R251); a chain that ended in poison leaves the written bytes, poisoned (R245,
R251, R252). -/
def Mach.finishFetch (m : Mach) (e : Nat) (v : LineVal) (poisoned : Bool) : Mach :=
  match m.merge? e with
  | none => m
  | some x =>
    let older := (m.mergesOf x.line).filter fun y => y.2.st = .flume || y.2.st = .drain
    let v := older.foldl (fun b y => (applyLogs (if y.2.base.isSome then y.2.base else some b) y.2.logs).getD b) v
    if x.st != .fetch then m
    else if poisoned then
      let m := m.setMerge e { x with st := .held, base := some { poison := true }, broken := true }
      (m.inc Reg.Levee.PARTIAL_POISONED).recordPoison x.line 2
    else m.setMerge e { x with st := .held, base := some v }

/-- The chain of an internal reader or of a request hands on what it found. -/
def Mach.deliver (m : Mach) (c : Chain) (v : LineVal) (step code : Nat) (ver : Nat := 0) : Mach :=
  match c.who with
  | .read p g => m.finishRead p g v code (if c.oos then 3 else 4)
  | .fetch e => m.finishFetch e v (code != 0)
  | .repair => m
  | who =>
    let m := match who with
      | .furrow => m.stepFree 1
      | .siphon => m.stepFree 0
      | .rekey => m.stepFree 3
      | _ => m
    m.modLev fun x => { x with done := x.done ++ [⟨who, c.line, v, step, code, ver⟩] }

/-- A repair joins the queue of 256 (R242). -/
def Mach.putRepair (m : Mach) (q : Repair) : Mach :=
  if !m.flag Reg.Levee.REPAIR_EN then m
  else if 256 ≤ m.lev.repairs.length then (m.inc Reg.Levee.REPAIRS_DROPPED).event .levee 0 0x1C18 q.line 0
  else m.modLev fun x => { x with repairs := x.repairs ++ [q] }

/-- Queue a repair of a recovered line (R242): of a line of a LITERAL row or of a PATTERN plot too, which is a whole sector; an LZ row has no
place for one line of its own. -/
def Mach.queueRepair (m : Mach) (c : Chain) (v : LineVal) (ver flg : Nat) : Mach :=
  let lz := m.place c.line = .comp && (m.dir (c.line / 64)).kind = 2 && (m.dir (c.line / 64)).enc.getD (c.line % 64 / 16) 0 = 1
  if c.oos || c.noRep || lz then m
  else m.putRepair { line := c.line, pl := c.pl, val := v, ver := ver, flg := flg, order := c.order }

/-- A step of the chain succeeds. -/
def Mach.chainOk (m : Mach) (k : Nat) (c : Chain) (step : Nat) (v : LineVal) (ver flg : Nat) : Mach :=
  let m := m.modLev fun x => { x with chains := Tbl.del x.chains k }
  let m := if c.oos || c.fix then m
    else
      let m := match step with
        | 1 => m.inc Reg.Levee.REREAD_OK
        | 2 => m.inc Reg.Levee.CISTERN_OK
        | 3 => m.inc Reg.Levee.TWIN_OK
        | _ => m.inc Reg.Levee.STRIPE_OK
      let m := (m.inc Reg.Levee.CANAL_RECOVERED 0 (canalOf c.pl)).wr Reg.Levee.LAST_FAIL_STEP step
      m.event .levee 0 0x1C11 c.line (dpaHi c.line + step * 2 ^ 8)
  let m := if 2 ≤ step then m.queueRepair c v ver flg else m
  m.deliver c v step 0 ver

/-- Whether a later write stores a chain's line afresh (R242, R246). -/
def Mach.overtaken (m : Mach) (c : Chain) : Bool := m.writtenSince c.line (c.order + 1)

/-- A line whose chain ended in poison is stored poisoned, unless a later write stores it afresh (R240, R246). The data
it holds is open. A compressed plot is expanded by the Siphon (R229). A line that would be stored under a ZEROISED slot stays
as it is (R306). -/
def Mach.poisonStored (m : Mach) (c : Chain) : Mach :=
  if m.overtaken c || (m.slot (m.storeSlot c.line)).state = 2 then m
  else
    match m.place c.line with
    | .dram pl =>
      let d : LineVal := { data := m.fresh, poison := true }
      m.nextFree.storeInternal c.line pl d (m.image pl).ver
    | .cis f pl =>
      let d : LineVal := { data := m.fresh, poison := true }
      let m := m.nextFree.modSt fun s => { s with cisTier := Tbl.del s.cisTier (f * 64 + c.line % 64) }
      m.storeInternal c.line pl d (m.image pl).ver
    | .comp =>
      if m.sip.auto.any fun a => a.1 = c.line / 64 && a.2.1 = 4 then m
      else { m with sip := { m.sip with auto := m.sip.auto ++ [(c.line / 64, 4, 0)] } }
    | _ => m

/-- No step succeeds (R238, R241, R246, R285). -/
def Mach.chainPoison (m : Mach) (k : Nat) (c : Chain) : Mach :=
  let m := m.modLev fun x => { x with chains := Tbl.del x.chains k }
  let v : LineVal := { poison := true }
  if c.fix then m
  else if c.oos then m.deliver c v 5 2
  else
    let m := (m.inc Reg.Levee.CHAIN_POISONED).wr Reg.Levee.LAST_FAIL_STEP 5
    let m := match c.who with
      | .fetch _ => m
      | .furrow => if m.overtaken c then m else (m.poisonStored c).recordPoison c.line 3
      | _ => if m.overtaken c then m else (m.poisonStored c).recordPoison c.line 1
    m.deliver c v 5 (if c.mac then 5 else 2)

/-- Whether a line takes its reads from the source of a resilver (R423). -/
def Mach.rsRemote (m : Mach) (line : Nat) : Bool :=
  m.fsm .twin = 3 && !m.flag Reg.Twin.RS_SOURCE && tMirror (m.entryOf line) && m.rd Reg.Twin.RS_BOUNDARY ≤ line

/-- Send a refetch on two different twin links, or on one (R411). -/
def Mach.refetch (m : Mach) (k line : Nat) : Mach :=
  let n := m.twin.nextReq % 2 ^ 16
  let ls := m.twinUp.take 2
  let m := m.modTwin fun x => { x with
    nextReq := x.nextReq + 1, refetch := x.refetch ++ [{ num := n, chain := k, tide := m.tide, left := ls.length }] }
  (m.each ls fun m l => m.twNow l { op := 0x08, line := line, arg := n }).inc Reg.Twin.REFETCH_SENT

/-- The line as the rebuilding Canal holds it, for a line without a source (R287). -/
def Mach.ownAway (m : Mach) (line pl : Nat) : Option LineVal :=
  if m.canalTakes pl then
    let s := m.checkImage line (dpaWord line) pl (m.image pl)
    if s.ok && !s.blank then some s.val else none
  else none

/-- Go on with a chain from a step: 2 the Cistern, 3 the twin, 4 the stripe, 5 poison. -/
def Mach.chainFrom (m : Mach) (k : Nat) (c : Chain) (step : Nat) : Mach :=
  let i := m.image c.pl
  let flg := i.flg / 4 % 2 * 4
  let two := match m.cisCopy c.line with
    | some v => if step ≤ 2 && cisOk c.line v false then some v else none
    | none => none
  match two with
  | some v => m.chainOk k c 2 v i.ver flg
  | none =>
    if step ≤ 3 && m.mayRefetch c.line then (m.setChain k { c with step := 3 }).refetch k c.line
    else if step ≤ 4 && !m.rsRemote c.line && m.striped (c.pl / 2 ^ 24) && (!c.oos || m.rowServed c.pl c.line) then
      m.setChain k { c with step := 4 }
    else
      match (if c.oos && !m.rsRemote c.line then m.ownAway c.line c.pl else none) with
      | some v => (m.modLev fun x => { x with chains := Tbl.del x.chains k }).deliver c v 1 0
      | none => m.chainPoison k c

/-- Begin a chain: `oos` for a line whose Canal does not serve it, which starts at step 2 without counting (R284, R285). -/
def Mach.beginChain (m : Mach) (c : Chain) : Mach :=
  let k := m.lev.nextChain
  let m := m.modLev fun x => { x with nextChain := k + 1 }
  let c := { c with start := m.tide }
  let m := match c.who with
    | .read p g => m.modTag p g fun x => { x with stage := if c.oos then 3 else 4 }
    | _ => m
  if c.oos then m.chainFrom k c 2 else m.setChain k { c with step := 1 }

/-- A read of a line did not pass: the failure is counted and its chain begins. -/
def Mach.takeTry (m : Mach) (who : ChainFor) (line order : Nat) (t : Try) : Mach :=
  match t with
  | .ok _ => m
  | .away pl => m.beginChain { who := who, line := line, pl := pl, step := 2, order := order, oos := true }
  | .bad pl s flip =>
    let zero := match s.slot with | some k => (m.slot k).state = 2 | none => false
    (m.firstFail who line pl s flip).beginChain
      { who := who, line := line, pl := pl, step := 1, mac := s.mac, flip := flip, order := order, noRep := zero }
  | .row format pl =>
    let m := if format then (m.inc Reg.Flume.FORMAT_ERRS).event .flume 0 0x1817 (line / 64) (line % 64 / 16)
      else (m.inc Reg.Flume.ROW_CHECK_FAILS).event .flume 0 0x1816 (line / 64) (line % 64 / 16)
    m.beginChain { who := who, line := line, pl := pl, step := 1, order := order, noRep := true, row := true }

/-- The class of a tag's reads, less 1 (R161). -/
def Tag.readClass (x : Tag) : Nat := if !x.guar || x.demoted then 4 else if x.atRisk then 3 else 0

/-- The class of a chain's rereads, less 1: that of the read or of the partial write it serves (R161). -/
def Mach.chainClass (m : Mach) : ChainFor → Nat
  | .read p g => match m.tag? p g with | some x => x.readClass | none => 2
  | .fetch e => match m.merge? e with | some x => if x.cls2 then 1 else 4 | none => 2
  | _ => 2

/-- The page-policy hint of a chain's reads: that of the read or of the write it serves (R127, R128). -/
def Mach.chainHint (m : Mach) : ChainFor → Nat
  | .read p g => match m.tag? p g with | some x => x.hint | none => 0
  | .fetch e => match m.merge? e with | some x => x.hint | none => 0
  | _ => 0

/-- RECOVERY_REREAD_DONE: the reread of step 1 is back (R238). -/
def recoveryRereadDone (k : Nat) (errs : List (BitVec 640)) (m : Mach) : Mach :=
  match Tbl.find m.lev.chains k with
  | none => m
  | some c =>
    if c.step != 1 then m
    else
      let (m, t) := (m.asClass (m.chainClass c.who) (m.chainHint c.who)).homeRead c.line errs
      let m := m.asClass 2
      match t with
      | .ok v => m.chainOk k c 1 v 0 0
      | .bad pl s flip =>
        (m.chainMac c.line pl s flip).chainFrom k { c with pl := pl, mac := c.mac || s.mac, flip := c.flip || flip } 2
      | .row _ _ => m.chainFrom k c 2
      | .away pl => m.chainFrom k { c with pl := pl } 2

def execRecoveryRereadDone (t : Nat) (k : Nat) (errs : List (BitVec 640)) (s : State) : Out :=
  s.run t (recoveryRereadDone k errs)

/-! ### Step 4 (R255) -/

/-- Open a rebuilt line: MAC64 decides alone; an all-zero line with a zero MAC64 is blank (R255). -/
def Mach.openRebuilt (m : Mach) (line addr : Nat) (i : Image) : Option LineVal × Seen :=
  if i.data = 0 && i.mac = 0 then
    (some { lc := lc32 (lineBytes 0) addr, poison := i.poisoned }, { ok := true, blank := true })
  else
    match m.candidate line i.flg with
    | (none, _) => (none, { ok := false, mac := true, counted := true })
    | (some k, hit) =>
      let x := m.slot k
      if x.state = 2 then (none, { ok := false, mac := true, slot := some k })
      else if !hit || x.state = 0 || mac64 x k x.epoch addr (lineBytes i.data) != i.mac then
        (none, { ok := false, mac := true, counted := true, slot := some k })
      else
        let d := openLine x addr i.data
        (some { data := d, lc := lc32 (lineBytes d) addr, poison := i.poisoned }, { ok := true })

/-- Whether the row of a physical line has an update in DRAIN. -/
def Mach.rowInDrain (m : Mach) (pl : Nat) : Bool :=
  m.lev.merge.any fun e => e.2.st = .drain && match e.2.drain with | some d => d.pl / 16 = pl / 16 | none => false

/-- Read the parity line and the 14 other data lines of a physical line's row as `errs` leaves them, and rebuild the line; none where
one of them fails or is not served (R255). -/
def Mach.rebuild (m : Mach) (pl line : Nat) (errs : List (BitVec 640)) : Mach × Option Image :=
  let (f0, _, r) := rowPlace pl
  if !m.rowServed pl line then (m, none)
  else
    match m.readRow (parityPl f0 r :: (rowLines f0 r).filter fun x => x != pl) errs with
    | (m, par :: is, true) => (m, some (sumImgs (parityBody par) is))
    | (m, _, _) => (m, none)

/-- A chain reads its line's row, in the class of what it serves (R161, R255). -/
def Mach.rowRead (m : Mach) (c : Chain) (errs : List (BitVec 640)) : Mach × Option Image :=
  let m := (m.asClass (m.chainClass c.who) (m.chainHint c.who)).modLev fun x => { x with rowMac := false }
  let (m, i) := m.rebuild c.pl c.line errs
  (m.asClass 2, i)

/-- A sector as the row of its stripe rebuilds it: the plaintext, and the image with its LC32 (R255). -/
def Mach.openSector (m : Mach) (plot pl : Nat) (i : Image) : Option (LineVal × Image) × Seen :=
  let (v, s) := m.openRebuilt (plot * 64) (plWord pl) i
  (v.map fun v => (v, { i with lc := v.lc }), s)

/-- Every other sector of a compressed row is rebuilt from its own stripe row and put in place on a copy of the machine (R229). -/
def Mach.rebuildRest (m : Mach) (line plot pl : Nat) : Mach × Mach :=
  let d := m.dir plot
  let r := line % 64 / 16
  let ps := ((List.range (d.cnt.getD r 0)).map fun k => m.realPl (d.start r + k)).filter fun q => q != pl
  ps.foldl (fun (e : Mach × Mach) q =>
    match e.1.rebuild q line [] with
    | (m, some i) =>
      match (m.openSector plot q i).1 with
      | some (_, img) => (m, e.2.putImage q img)
      | none => (m, e.2)
    | (m, none) => (m, e.2)) (m, m)

/-- The repair of a rebuilt sector is queued (R242). -/
def Mach.queueSector (m : Mach) (c : Chain) (v : LineVal) (img : Image) : Mach :=
  if c.oos || c.noRep then m else m.putRepair { line := c.line, pl := c.pl, val := v, ver := img.ver, flg := img.flg % 8, order := c.order }

/-- STRIPE_RECOMPUTE_DONE: the row's other lines are back (R255). It waits while the row has an update in DRAIN. -/
def stripeRecomputeDone (k : Nat) (errs : List (BitVec 640)) (m : Mach) : Mach :=
  match Tbl.find m.lev.chains k with
  | none => m
  | some c =>
    if c.step != 4 || m.rowInDrain c.pl then m
    else
      match m.rowRead c errs with
      | (m, none) => m.chainFrom k { c with mac := c.mac || m.lev.rowMac } 5
      | (m, some i) =>
        match m.holds c.pl with
        | .sector plot =>
          match m.openSector plot c.pl i with
          | (none, s) => (m.chainMac c.line c.pl s c.flip).chainFrom k { c with mac := c.mac || s.mac } 5
          | (some (v, img), _) =>
            let (m, fixed) := if c.row then m.rebuildRest c.line plot c.pl else (m, m)
            match (fixed.putImage c.pl img).homeRead c.line [] with
            | (_, .ok w) =>
              let m := if c.row then m else m.queueSector c v img
              m.chainOk k { c with noRep := true } 4 w 0 0
            | _ => m.chainFrom k c 5
        | _ =>
          let (v, s) := m.openRebuilt c.line (dpaWord c.line) i
          match v with
          | some v => m.chainOk k c 4 v i.ver (if s.blank then 2 else 0)
          | none => (m.chainMac c.line c.pl s c.flip).chainFrom k { c with mac := c.mac || s.mac } 5

def execStripeRecomputeDone (t : Nat) (k : Nat) (errs : List (BitVec 640)) (s : State) : Out :=
  s.run t (stripeRecomputeDone k errs)

/-! ### Repairs (R242) -/

/-- The parity of a repaired line's row, where it does not fit the stored lines of the row (R254): a repair gives the line back what the
parity stands for, unless the line is sealed anew. -/
def Mach.repairParity (m : Mach) (pl : Nat) : Mach :=
  if !m.parityDue pl then m
  else
    let (f0, _, r) := rowPlace pl
    let p := parityPl f0 r
    let sum := m.rowSum (rowLines f0 r)
    if !parityOk p (m.image p) || parityBody (m.image p) = sum then m else m.writeParity p sum false

/-- Whether a queued repair has been overtaken: a write to its line, or for a sector to any line of the plot, was accepted since, or the sector
is not the plot's any more (R242). -/
def Mach.repairStale (m : Mach) (q : Repair) : Bool :=
  if q.flg.testBit 2 then
    m.holds q.pl != .sector (q.line / 64) || (List.range 64).any fun n => m.writtenSince (q.line / 64 * 64 + n) (q.order + 1)
  else m.writtenSince q.line (q.order + 1)

/-- A repair stores its line again with the version it had (R234, R242). -/
def Mach.repairStore (m : Mach) (q : Repair) : Mach :=
  if q.flg.testBit 1 then m.putFlipped q.pl (blankImage q.pl)
  else
    let addr := if q.flg.testBit 2 then plWord q.pl else dpaWord q.line
    m.storeRaw (if q.flg.testBit 2 then q.line / 64 * 64 else q.line) addr q.pl { q.val with lc := lc32 (lineBytes q.val.data) addr } q.ver
      (q.flg / 4 % 2 * 4 + q.val.poison.toNat)

/-- REPAIR_WRITE: the oldest queued repair is written with the version it had, on a kind-1 freeboard line; one that a later
write overtook is discarded (R242). -/
def repairWrite (m : Mach) : Mach :=
  match m.lev.repairs with
  | [] => m
  | q :: l =>
    if m.repairStale q then m.modLev fun x => { x with repairs := l }
    else if !m.hasFb 1 || !m.canalTakes q.pl then m
    else
      let m := (m.modLev fun x => { x with repairs := l }).takeFb 1
      let m := (m.repairStore q).repairParity q.pl
      let m := if q.val.poison then m else m.clearPrec q.line
      m.inc Reg.Levee.REPAIRS

def execRepairWrite (t : Nat) (s : State) : Out := s.run t repairWrite

/-- A stored line is poisoned in place with its data kept; the parity of its row follows (R254); a line
without a stored image of its own takes a merge entry that poisons it when it drains (R393). -/
def Mach.poisonInPlace (m : Mach) (line cause : Nat) : Mach :=
  let m := m.modSt fun s => { s with cisLines := Tbl.del s.cisLines line }
  let mark := fun (m : Mach) pl =>
    let i := m.image pl
    (m.putImage pl { i with flg := i.flg / 2 * 2 + 1 }).repairParity pl
  let viaMerge := fun (m : Mach) (base : Option LineVal) =>
    match m.newMerge with
    | none => m
    | some e =>
      let m := m.nextOrder
      let st : MergeState := if base.isSome then .held else .fetch
      let w : WrLog := { order := m.order, data := 0, mask := 0, poison := true }
      m.setMerge e { st := st, line := line, base := base, order := m.order, accept := m.tide, logs := [w] }
  let m := match m.place line with
    | .dram pl => mark m pl
    | .cis f pl =>
      let m := m.modSt fun s => { s with cisTier := Tbl.del s.cisTier (f * 64 + line % 64) }
      mark m pl
    | .zero => viaMerge m (some (freshVal line 0 false))
    | .comp => viaMerge m none
    | _ => m
  m.recordPoison line cause

/-- REPAIR_TIMEOUT: repairs that have waited `REPAIR_TURNS` turns are dropped (R242). -/
def repairTimeout (m : Mach) : Mach :=
  let old := m.lev.repairs.filter fun q => m.rd Reg.Levee.REPAIR_TURNS ≤ q.turns
  let m := m.modLev fun x => { x with repairs := x.repairs.filter fun q => q.turns < m.rd Reg.Levee.REPAIR_TURNS }
  m.each old fun m q => (m.inc Reg.Levee.REPAIRS_DROPPED).event .levee 0 0x1C18 q.line 1

def execRepairTimeout (t : Nat) (s : State) : Out := s.run t repairTimeout

/-! ### The flip facility (R258) -/

/-- The 80-byte mask in the page. -/
def Mach.flipMask (m : Mach) : BitVec 640 :=
  BitVec.ofNat 640 (((List.range 8).map fun k => m.rd Reg.Levee.FLIP_D 0 k * 2 ^ (64 * k)).sum +
    m.rd Reg.Levee.FLIP_M0 * 2 ^ 512 + m.rd Reg.Levee.FLIP_M1 * 2 ^ 576)

/-- A write of 1 to `FLIP_ARM`: the facility is armed with the current fields, where `FLIP_EN` lets it (R258). -/
def Mach.flipArm (m : Mach) : Mach :=
  if m.flag Reg.Levee.FLIP_EN && m.rd Reg.Levee.FLIP_MODE != 3 && m.rd Reg.Levee.FLIP_COUNT != 0 then
    let f : Flip := { mode := m.rd Reg.Levee.FLIP_MODE, side := m.rd Reg.Levee.FLIP_SIDE
                      scope := m.rd Reg.Levee.FLIP_SCOPE, byPl := m.flag Reg.Levee.FLIP_PL
                      canal := m.rd Reg.Levee.FLIP_CANAL, line := m.rd Reg.Levee.FLIP_LINE, mask := m.flipMask }
    ((m.modLev fun x => { x with flip := some f }).wr Reg.Levee.FLIP_ARMED 1).wr Reg.Levee.FLIP_LEFT
      (m.rd Reg.Levee.FLIP_COUNT)
  else m

/-- FLIP_ARM. -/
def execFlipArm (t : Nat) (src : Source) (s : State) : Out :=
  s.run t fun m => m.stageWrite .levee 0 src Mach.flipArm

/-- A write of 1 to `FLIP_DISARM`. -/
def Mach.flipDisarm (m : Mach) : Mach := (m.modLev fun x => { x with flip := none }).wr Reg.Levee.FLIP_ARMED 0

/-- FLIP_DISARM. -/
def execFlipDisarm (t : Nat) (src : Source) (s : State) : Out :=
  s.run t fun m => m.stageWrite .levee 0 src Mach.flipDisarm

/-! ### Writes and poison (R244 to R246) -/

/-- A write's effect on what is known to be poisoned: a poisoned one enters the record, a full clean one clears the line
(R186, R244, R245, R246). -/
def Mach.poisonMarks (m : Mach) (line : Nat) (w : WrLog) (cause : Nat) : Mach :=
  if w.poison then m.recordPoison line cause
  else if w.full then
    let m := if m.lev.prec.any fun e => e.line = line then m.clearPrec line else m
    let p := m.plot (line / 64)
    if tMode (m.entryOf line) = 2 && p.poison then
      let c := setBit p.clean (line % 64) true
      m.setPlot (line / 64) (if c = 2 ^ 64 - 1 then { p with poison := false, clean := 0 } else { p with clean := c })
    else m
  else m

end Sys2Proof.Machine
end

