-- ==== Sys2Proof/Machine/Shared.lean ====
section
/-! DEFINITION. Shared regions and the rights directory (R376 to R396): members, rights, conflicts and holds, snoops and
their answers, evictions, teardown and re-forming. -/

namespace Sys2Proof.Machine

/-! ### Regions and members (R376, R377, R428) -/

/-- The state of a region (R391): 0 OFF, 1 FORMING, 2 ACTIVE, 3 TEARING, 4 DOWN. -/
def Mach.regState (m : Mach) (r : Nat) : Nat := m.rd Reg.Shared.REG_STATE 0 r

/-- The ROLE of a region: 0 OFF, 1 HOME, 2 PROXY. -/
def Mach.regRole (m : Mach) (r : Nat) : Nat := m.act Reg.Shared.ROLE 0 r

/-- A region's own state. -/
def Mach.reg (m : Mach) (r : Nat) : RegX := Tbl.getD m.shared.regs r {}

/-- Change a region's own state. -/
def Mach.modReg (m : Mach) (r : Nat) (f : RegX → RegX) : Mach :=
  m.modShared fun x => { x with regs := Tbl.put x.regs r (f (m.reg r)) }

/-- Move a region to a state. -/
def Mach.setReg (m : Mach) (r v : Nat) : Mach := m.wr Reg.Shared.REG_STATE v 0 r

/-- A member field of a region: bit 0 VALID, 1 REMOTE, [7:2] DEV_ID, [9:8] PORT (R396). -/
def Mach.memberField (m : Mach) (r k : Nat) : Nat := m.act Reg.Shared.MEMBER 0 (r * 16 + k)

/-- Whether a region is a twin region: HOME, in Twin mode, its tracts mirrored (R428). -/
def Mach.twinRegion (m : Mach) (r : Nat) : Bool :=
  m.regRole r = 1 && m.rd Reg.Twin.ROLE != 0 && m.fsm .twin != 0 &&
  m.st.tracts.any fun e => tShared e.2 && tRegion e.2 = r && tMirror e.2

/-- The agent that is a member: a local port, a port of a fabric device, or a port of the twin's peer. -/
inductive Agent where
  | local (port : Nat)
  | remote (dev port : Nat)
  | peer (port : Nat)
deriving DecidableEq, Repr

/-- The agent behind member `k` of a region (R377, R428). -/
def Mach.agent (m : Mach) (r k : Nat) : Option Agent :=
  let e := m.memberField r k
  if !e.testBit 0 then none
  else if m.twinRegion r then
    if (m.rd Reg.Twin.ROLE = 1) = (k < 4) then some (.local (k % 4)) else some (.peer (k % 4))
  else if e.testBit 1 then some (.remote (bits e 7 2) (bits e 9 8))
  else some (.local (bits e 9 8))

/-- The member index of an agent in a region. -/
def Mach.memberOf (m : Mach) (r : Nat) (a : Agent) : Option Nat := (List.range 8).find? fun k => m.agent r k = some a

/-- Whether a port takes part in a region: as a local member of a HOME region, or in `PORTS` of a PROXY region. -/
def Mach.portIn (m : Mach) (r p : Nat) : Bool :=
  match m.regRole r with
  | 1 => (m.memberOf r (.local p)).isSome
  | 2 => (m.act Reg.Shared.PORTS 0 r).testBit p
  | _ => false

/-- The devices that hold the region as PROXY (R377). -/
def Mach.proxies (m : Mach) (r : Nat) : List Nat :=
  ((List.range 8).filterMap fun k =>
    match m.agent r k with
    | some (.remote d _) => some d
    | _ => none).eraseDups

/-! ### Entries (R382) -/

/-- The directory entry of a line. -/
def Mach.dirEnt (m : Mach) (line : Nat) : Option DirEnt := Tbl.find m.shared.dir line

/-- The set of a line (R382). -/
def dirSet (line : Nat) : Nat := (line % 2 ^ 17) ^^^ (line / 2 ^ 17 % 2 ^ 17)

/-- Show how many entries are in use. -/
def Mach.showDir (m : Mach) : Mach :=
  (m.wr Reg.Shared.DIR_USED m.shared.dir.length).peak Reg.Shared.DIR_PEAK m.shared.dir.length

/-- The entry as its 64-bit word (R382). -/
def dirWord (line : Nat) (e : DirEnt) : Nat :=
  line / 2 ^ 17 + e.state * 2 ^ 23 + e.region * 2 ^ 25 + e.holders * 2 ^ 30 + e.aged.toNat * 2 ^ 38 + e.win * 2 ^ 39

/-- Replace or remove an entry; an entry of a twin region is mirrored to the peer (R384, R428). -/
def Mach.setDirEnt (m : Mach) (line region : Nat) (e : Option DirEnt) : Mach :=
  let m := m.modShared fun x => { x with
    dir := match e with | some v => Tbl.put x.dir line { v with used := x.uses } | none => Tbl.del x.dir line
    uses := x.uses + 1 }
  let m := m.showDir
  if m.twinRegion region && m.mirrorOn then
    m.twSend { op := 0x0E, line := line, arg := region
               data := BitVec.ofNat 512 (match e with | some v => dirWord line v | none => 0) }
  else m

/-- Whether the owner of a line is within its minimum hold (R385). -/
def Mach.inHold (m : Mach) (e : DirEnt) : Bool :=
  e.state = 2 && !e.aged &&
  (m.tide / 16 + 2 ^ 24 - e.win) % 2 ^ 24 < m.act Reg.Shared.MIN_HOLD_NS 0 e.region / 16

/-- Whether the recorded holders prevent a right (R385). -/
def conflicts (c : Coh) (e : DirEnt) : Bool :=
  let others := setBit e.holders c.member false
  match c.right with
  | 1 => e.own && others != 0
  | 2 | 3 => others != 0
  | _ => false

/-! ### Answering (R380, R391) -/

/-- Answer a request FENCED (R98, R99, R391). -/
def Mach.fenceReq (m : Mach) (p g r : Nat) : Mach :=
  let m := m.modReg r fun x => { x with fenced := min (x.fenced + 1) (2 ^ 32 - 1) }
  match m.tag? p g with
  | some x => m.answer p g (if x.op.reads then poisonData else .cmp) 3 0
  | none => m

/-- A write whose point under R104 is reached and whose right is granted completes (R104, R381). -/
def Mach.writePoint (m : Mach) (p g : Nat) : Mach :=
  match m.tag? p g with
  | some x =>
    if x.point && (match x.coh with | some c => c.granted | none => true) then
      (m.untrack x.want).answer p g .cmp 0 x.stage
    else m
  | none => m

/-- A right is granted: a request without data completes, a write may complete, a read goes on to its data. -/
def Mach.rightGranted (m : Mach) (p g : Nat) : Mach :=
  match m.tag? p g with
  | none => m
  | some x =>
    match x.coh with
    | none => m
    | some c =>
      let m := m.setTag p g { x with coh := some { c with granted := true } }
      match x.op with
      | .memInv | .memInvNT => m.answer p g .cmpE 0 x.stage
      | .memClnEvct => m.answer p g .cmp 0 x.stage
      | .memWr | .memWrPtl => m.writePoint p g
      | _ => m

/-- The entry after a right passes to a member (R380, R386). Member 8 stands for this device's own accesses, which hold no right
afterwards (R390). -/
def Mach.entryAfter (m : Mach) (c : Coh) (e : Option DirEnt) : Option DirEnt :=
  let old := match e with | some v => v | none => { state := 0, region := c.region, holders := 0 }
  let win := m.tide / 16 % 2 ^ 24
  if 8 ≤ c.member then if old.holders = 0 then none else some { old with state := if old.own then 2 else 1 }
  else
  match c.right with
  | 1 =>
    if old.own && old.holders.testBit c.member then some { old with state := 2 }
    else some { old with state := 1, own := false, holders := setBit old.holders c.member true }
  | 2 => some { old with state := 2, own := true, holders := 2 ^ c.member, aged := false, win := win }
  | _ =>
    if c.giveUp then
      let h := setBit old.holders c.member false
      if h = 0 then none else some { old with state := 1, own := false, holders := h }
    else if old.holders = 0 then none else some { old with state := if old.own then 2 else 1 }

/-- Grant a request its right: the entry changes and, in a twin region, the change is acknowledged first (R384, R386). -/
def Mach.grant (m : Mach) (p g : Nat) : Mach :=
  match m.tag? p g with
  | none => m
  | some x =>
    match x.coh with
    | none => m
    | some c =>
      let before := m.dirEnt x.line
      let after := m.entryAfter c before
      if before = after then m.rightGranted p g
      else
        let m := m.setDirEnt x.line c.region after
        if m.twinRegion c.region && m.mirrorOn then
          m.modTwin fun y => { y with toks := y.toks ++ [(y.nextTok - 1, .grant p g)] }
        else m.rightGranted p g

/-! ### Snoops (R386) -/

/-- Send a snoop to a member where it can go out now: a port has at most 512 outstanding (R66). -/
def Mach.sendSnoop (m : Mach) (s : Snoop) : Mach × Bool :=
  match m.agent s.region s.member with
  | some (.local p) =>
    if m.rd Reg.Shared.BISNP_OUT 0 p < 512 then
      (((m.emit (.bisnp p s.line s.inv)).inc Reg.Shared.BISNP_OUT 0 p).inc Reg.Shared.BISNP_SENT, true)
    else (m, false)
  | some (.remote d q) =>
    ((m.sendCoh d 0 3 (if s.inv then 2 else 1) q s.region s.line 0 0 0 none).inc Reg.Shared.BISNP_SENT, true)
  | some (.peer q) =>
    ((m.sendCoh 64 0 3 (if s.inv then 2 else 1) q s.region s.line 0 0 0 none).inc Reg.Shared.BISNP_SENT, true)
  | none => (m, true)

/-- Snoop members of a line. -/
def Mach.snoop (m : Mach) (line region : Nat) (inv : Bool) (ks : List Nat) : Mach :=
  m.each ks fun m k =>
    let s : Snoop := { line := line, member := k, region := region, inv := inv, tide := m.tide, sent := false }
    let (m, sent) := m.sendSnoop s
    m.modShared fun x => { x with snoops := x.snoops ++ [{ s with sent := sent }] }

/-- Snoops that found no credit go out as answers free some, in order. -/
def Mach.sendWaiting (m : Mach) : Mach :=
  m.each (m.shared.snoops.filter fun s => !s.sent) fun m s =>
    let (m, sent) := m.sendSnoop { s with tide := m.tide }
    if sent then
      m.modShared fun x => { x with
        snoops := x.snoops.map fun y => if y = s then { s with sent := true, tide := m.tide } else y }
    else m

/-- Snoops of a home that wait at a proxy for one of a port's 512 go out (R66). -/
def Mach.sendProxy (m : Mach) : Mach :=
  m.each (m.shared.proxy.filter fun q => !q.sent) fun m q =>
    if m.rd Reg.Shared.BISNP_OUT 0 q.port < 512 then
      let m := m.modShared fun x => { x with proxy := x.proxy.map fun y => if y = q then { q with sent := true } else y }
      ((m.emit (.bisnp q.port q.line q.inv)).inc Reg.Shared.BISNP_OUT 0 q.port).inc Reg.Shared.BISNP_SENT
    else m

/-- The members in a holder mask. -/
def holderList (h : Nat) : List Nat := (List.range 8).filter fun k => h.testBit k

/-- Back-invalidate the holders that stand in the way of a request; the line is BUSY (R386). -/
def Mach.snoopFor (m : Mach) (line : Nat) (c : Coh) (e : DirEnt) : Mach :=
  let m := m.modShared fun x => { x with dir := Tbl.put x.dir line { e with state := 3 } }
  m.snoop line e.region (c.right != 1) (holderList (setBit e.holders c.member false))

/-! ### Waiting and serving (R383, R385) -/

/-- The requests that wait on a line, the head first. -/
def Mach.cohWaits (m : Mach) (line : Nat) : List CohWait := m.shared.waits.filter fun w => w.line = line

/-- Insert a waiting request in acceptance order. -/
def insertWait (w : CohWait) : List CohWait → List CohWait
  | [] => [w]
  | a :: l => if w.order < a.order then w :: a :: l else a :: insertWait w l

/-- A request waits at the directory. -/
def Mach.addWait (m : Mach) (p g : Nat) (x : Tag) : Mach :=
  m.modShared fun y => { y with waits := insertWait { line := x.line, port := p, tag := g, order := x.order } y.waits }

/-- A request leaves the directory. -/
def Mach.dropWait (m : Mach) (p g : Nat) : Mach :=
  m.modShared fun y => { y with waits := y.waits.filter fun w => !(w.port = p && w.tag = g) }

/-- The entries of a line's set. -/
def Mach.dirWays (m : Mach) (line : Nat) : List (Nat × DirEnt) :=
  m.shared.dir.filter fun e => dirSet e.1 = dirSet line

/-- The least recently used of some entries. -/
def oldestEnt : List (Nat × DirEnt) → Option (Nat × DirEnt)
  | [] => none
  | e :: l =>
    match oldestEnt l with
    | none => some e
    | some f => if f.2.used < e.2.used then some f else some e

/-- Whether a grant needs an entry that the line does not have (R383). -/
def Mach.needsWay (m : Mach) (line : Nat) (c : Coh) : Bool :=
  (m.dirEnt line).isNone && (c.right = 1 || c.right = 2) && 16 ≤ (m.dirWays line).length

/-- A full set gives up a victim that is neither BUSY nor within its hold: its holders are back-invalidated (R383). -/
def Mach.evictFor (m : Mach) (line : Nat) : Mach :=
  match oldestEnt ((m.dirWays line).filter fun e => e.2.state != 3 && !m.inHold e.2) with
  | none => m
  | some (v, e) =>
    if m.shared.evict.any fun x => x.2 = line then m
    else
      let m := (m.modShared fun x => { x with
        evict := x.evict ++ [(v, line)], dir := Tbl.put x.dir v { e with state := 3 } }).inc Reg.Shared.DIR_EVICTIONS
      m.snoop v e.region true (holderList e.holders)

/-- A guaranteed read is demoted: its ceiling becomes its deadline, and the demotion is counted (R131, R388). A read served for the
fabric is demoted by a DEMOTE unit, and counted where it came from (R368). -/
def Mach.demoteAt (m : Mach) (p g : Nat) (x : Tag) : Mach :=
  if x.guar && x.op.reads && !x.demoted then
    let d := x.accept + m.act Reg.Allotment.CEILING_US x.allot * 1000
    let m := m.setTag p g { x with demoted := true, guar := false, deadline := d, row := 7 }
    let m := if p = 4 then
        (m.sendOn x.src x.allot { utype := 6, line := x.hpa, xid := x.xid }).inc Reg.Turnout.DEMOTES_SENT
      else m.inc Reg.Allotment.DEMOTED x.allot
    let m := if p < 4 then m.inc Reg.Headgate.DEMOTED p else m
    if p = 4 || m.weir.demotedNow.contains x.allot then m
    else
      { m with weir := { m.weir with demotedNow := m.weir.demotedNow ++ [x.allot] } }.event .allotment x.allot 0x0C41
        x.allot (x.line % 2 ^ 32)
  else m

/-- The directory finds that a waiting request conflicts: each request counts once, and once for a hold; a guaranteed read is demoted
(R385, R388). -/
def Mach.noteConflict (m : Mach) (p g : Nat) (x : Tag) (e : DirEnt) : Mach :=
  let mine := fun (w : CohWait) => w.port = p && w.tag = g
  match m.shared.waits.find? mine with
  | none => m
  | some w =>
    let hold := m.inHold e
    let n := m.modShared fun y => { y with
      waits := y.waits.map fun v => if mine v then { v with conf := true, held := v.held || hold } else v }
    let n := if w.conf then n else (n.inc Reg.Shared.CONFLICTS).demoteAt p g x
    if hold && !w.held then n.inc Reg.Shared.HOLD_WAITS else n

/-- Serve the requests waiting on a line, the head first: grant while nothing conflicts, then snoop for the first that
does once no hold stands in the way; `n` bounds how many. -/
def Mach.serveLine (m : Mach) (line : Nat) : Nat → Mach
  | 0 => m
  | n + 1 =>
    match m.cohWaits line with
    | [] => m
    | w :: _ =>
      match (m.tag? w.port w.tag).bind fun x => x.coh.map fun c => (x, c) with
      | none => (m.dropWait w.port w.tag).serveLine line n
      | some (x, c) =>
        match m.dirEnt line with
        | some e =>
          if e.state = 3 then m
          else if conflicts c e then
            let n := m.noteConflict w.port w.tag x e
            if m.inHold e then n else n.snoopFor line c e
          else ((m.dropWait w.port w.tag).grant w.port w.tag).serveLine line n
        | none =>
          if m.needsWay line c then m.evictFor line
          else ((m.dropWait w.port w.tag).grant w.port w.tag).serveLine line n

/-- Serve a line with as many steps as requests wait. -/
def Mach.serve (m : Mach) (line : Nat) : Mach := m.serveLine line ((m.cohWaits line).length + 1)

/-- An accepted request of a member seeks its right: it is granted, or it waits in acceptance order (R385). -/
def Mach.seekRight (m : Mach) (p g : Nat) : Mach :=
  match m.tag? p g with
  | none => m
  | some x =>
    match x.coh with
    | none => m
    | some c =>
      let blocked := !(m.cohWaits x.line).isEmpty
      match m.dirEnt x.line with
      | some e =>
        if conflicts c e then ((m.addWait p g x).noteConflict p g x e).serve x.line
        else if e.state = 3 || blocked then m.addWait p g x
        else m.grant p g
      | none => if blocked || m.needsWay x.line c then (m.addWait p g x).serve x.line else m.grant p g

/-! ### Teardown (R392, R393) -/

/-- A region is DOWN once no snoop of it is outstanding (R393); an eviction of its lines ends with it, and what waited for the way goes on
(R383, R395). -/
def Mach.tornDown (m : Mach) (r : Nat) : Mach :=
  if m.regState r = 3 && !(m.shared.snoops.any fun s => s.region = r) then
    let ends := fun (e : Nat × Nat) => m.shared.dir.any fun d => d.1 = e.1 && d.2.region = r
    let wait := (m.shared.evict.filter ends).map fun e => e.2
    let m := (m.modShared fun x => { x with
      dir := x.dir.filter fun e => e.2.region != r, evict := x.evict.filter fun e => !ends e }).showDir
    let m := (m.setReg r 4).event .shared 0 0x3412 r (m.reg r).poisonedNow
    m.each wait fun m l => m.serve l
  else m

/-- A dead agent: the lines it owns are poisoned, its shares and its snoops end (R393). -/
def Mach.deadAgent (m : Mach) (r k : Nat) : Mach :=
  if (m.reg r).dead.contains k then m
  else
    let m := m.modReg r fun x => { x with dead := x.dead ++ [k] }
    let m := m.each (m.shared.dir.filter fun e => e.2.region = r && e.2.holders.testBit k) fun m e =>
      let m := if e.2.own then
          (m.modReg r fun x => { x with poisoned := min (x.poisoned + 1) (2 ^ 32 - 1), poisonedNow := x.poisonedNow + 1 })
            |>.poisonInPlace e.1 7
        else m
      m.modShared fun x => { x with dir := Tbl.put x.dir e.1 { e.2 with holders := setBit e.2.holders k false } }
    let gone := m.shared.snoops.filter fun s => s.region = r && s.member = k
    let m := m.modShared fun x => { x with snoops := x.snoops.filter fun s => !(s.region = r && s.member = k) }
    m.each gone fun m s =>
      match m.agent r k with
      | some (.local p) =>
        if s.sent then m.wr Reg.Shared.BISNP_OUT (m.rd Reg.Shared.BISNP_OUT 0 p - 1) 0 p else m
      | _ => m

/-- Requests of a region that wait at its directory, or at the proxy for the home, are answered FENCED (R393). -/
def Mach.fenceWaiting (m : Mach) (r : Nat) : Mach :=
  let gone := m.tagsWhere fun _ x => x.st = .accepted &&
    match x.coh with | some c => c.region = r && !c.granted | none => false
  m.each gone fun m e => (m.dropWait e.1 e.2.1).fenceReq e.1 e.2.1 r

/-- The teardown of a twin region reaches the peer, which holds the same record: AGENT_DOWN for a dead local member, FENCE for one that
software starts (R392, R428, R429; DEDUCED, log entry 137). -/
def Mach.tellPeerTear (m : Mach) (r cause : Nat) (dead : Option Nat) : Mach :=
  match dead.bind fun k => (m.agent r k).map fun a => (k, a) with
  | some (k, .local p) => m.sendCoh 64 0 6 0 p r 0 0 0 k none
  | _ => if cause = 5 then m.sendCoh 64 0 7 0 0 r 0 0 0 0 none else m

/-- A HOME teardown begins (R392, R393). -/
def Mach.tearHome (m : Mach) (r cause : Nat) (dead : Option Nat) : Mach :=
  let m := m.modReg r fun x => { x with
    cause := cause, agent := dead.getD 0, tearTide := m.tide, dead := [], poisonedNow := 0 }
  let m := ((m.setReg r 3).inc Reg.Shared.TEARDOWNS).event .shared 0 0x3411 r (cause + 256 * dead.getD 0)
  let m := match dead with | some k => m.deadAgent r k | none => m
  let m := m.each (m.proxies r) fun m d => m.sendCoh d 0 7 0 0 r 0 0 0 0 none
  let m := if m.twinRegion r && m.mirrorOn then m.tellPeerTear r cause dead else m
  let m := m.each (m.shared.dir.filter fun e => e.2.region = r) fun m e =>
    let asked := (m.shared.snoops.filter fun s => s.line = e.1).map fun s => s.member
    let m := m.modShared fun x => { x with dir := Tbl.put x.dir e.1 { e.2 with state := 3 } }
    m.snoop e.1 r true ((holderList e.2.holders).filter fun k => !asked.contains k)
  (m.fenceWaiting r).tornDown r

/-- A PROXY teardown: its ports are fenced, outstanding snoops are answered for them, and it is DOWN (R393). -/
def Mach.tearProxy (m : Mach) (r cause port : Nat) : Mach :=
  let home := m.act Reg.Shared.HOME_ID 0 r
  let hr := m.act Reg.Shared.HOME_REGION 0 r
  let m := m.modReg r fun x => { x with cause := cause, agent := port, tearTide := m.tide, poisonedNow := 0 }
  let m := ((m.setReg r 3).inc Reg.Shared.TEARDOWNS).event .shared 0 0x3411 r (cause + 256 * port)
  let m := if cause = 1 then m.sendCoh home 0 6 0 port hr 0 0 0 port none else m
  let m := m.each (m.shared.proxy.filter fun s => s.region = r) fun m s =>
    let m := if s.sent then m.wr Reg.Shared.BISNP_OUT (m.rd Reg.Shared.BISNP_OUT 0 s.port - 1) 0 s.port else m
    if m.reachable home then m.sendCoh home 0 4 2 s.port hr s.hline s.xid 0 2 s.data else m
  let m := (m.modShared fun x => { x with proxy := x.proxy.filter fun s => s.region != r }).sendProxy
  ((m.fenceWaiting r).setReg r 4).event .shared 0 0x3412 r 0

/-- A teardown cause meets a region (R392, R395). -/
def Mach.tear (m : Mach) (r cause : Nat) (dead : Option Nat) : Mach :=
  match m.regRole r, m.regState r with
  | 1, 1 => if cause = 5 then (m.setReg r 4).event .shared 0 0x3412 r 0 else m.tearHome r cause dead
  | 2, 1 => if cause = 5 then (m.setReg r 4).event .shared 0 0x3412 r 0 else m.tearProxy r cause (dead.getD 0)
  | 1, 2 => m.tearHome r cause dead
  | 1, 3 => match dead with | some k => (m.deadAgent r k).tornDown r | none => m
  | 2, 2 => m.tearProxy r cause (dead.getD 0)
  | _, _ => m

/-- A port goes down: every region in which it takes part is torn down with cause 1 (R392). -/
def Mach.portLost (m : Mach) (p : Nat) : Mach :=
  m.each (List.range 32) fun m r =>
    match m.regRole r with
    | 1 => match m.memberOf r (.local p) with | some k => m.tear r 1 (some k) | none => m
    | 2 => if m.portIn r p then m.tear r 1 (some p) else m
    | _ => m

/-- A fabric device becomes unreachable: its members are dead agents, and regions homed there end (R392). -/
def Mach.deviceLost (m : Mach) (d : Nat) : Mach :=
  m.each (List.range 32) fun m r =>
    match m.regRole r with
    | 1 => m.each (List.range 8) fun m k =>
        match m.agent r k with
        | some (.remote e _) => if e = d then m.tear r 4 (some k) else m
        | _ => m
    | 2 => if m.act Reg.Shared.HOME_ID 0 r = d then m.tear r 6 none else m
    | _ => m

/-- The peer of the pair is lost: its member ports are dead agents of the twin regions (R428). -/
def Mach.peerAgentsLost (m : Mach) : Mach :=
  m.each (List.range 32) fun m r =>
    if m.twinRegion r then
      m.each (List.range 8) fun m k =>
        match m.agent r k with
        | some (.peer _) => m.tear r 4 (some k)
        | _ => m
    else m

/-! ### Answers (R386, R387) -/

/-- Every answer for a line is in: its entry takes its new state and the next requests are served (R383, R386). -/
def Mach.settleLine (m : Mach) (line : Nat) : Mach :=
  if m.shared.snoops.any fun s => s.line = line then m
  else
    match m.dirEnt line with
    | none => m.serve line
    | some e =>
      if m.regState e.region = 3 then
        let left := holderList e.holders
        if left.isEmpty then
          ((m.modShared fun x => { x with dir := Tbl.del x.dir line }).showDir).tornDown e.region
        else m.snoop line e.region true left
      else
        let e' : Option DirEnt := if e.holders = 0 then none else some { e with state := 1, own := false }
        let m := m.setDirEnt line e.region e'
        let wait := (m.shared.evict.filter fun x => x.1 = line).map fun x => x.2
        let m := m.modShared fun x => { x with evict := x.evict.filter fun y => y.1 != line }
        (m.each wait fun m l => m.serve l).serve line

/-- A protocol error of a member (R392, cause 3). -/
def Mach.protoError (m : Mach) (r k line : Nat) : Mach :=
  (m.event .shared 0 0x3414 (r + 256 * k) (line % 2 ^ 32)).tear r 3 (some k)

/-- An answer to a snoop: `s` is BIRspS, else BIRspI (R386). -/
def Mach.snoopAnswer (m : Mach) (r k line : Nat) (s : Bool) : Mach :=
  match m.shared.snoops.find? fun x => x.line = line && x.member = k with
  | none => m.protoError r k line
  | some q =>
    if s && q.inv then m.protoError r k line
    else
      let m := m.modShared fun x => { x with snoops := x.snoops.filter fun y => !(y.line = line && y.member = k) }
      let m := match m.agent r k with
        | some (.local p) => if q.sent then m.wr Reg.Shared.BISNP_OUT (m.rd Reg.Shared.BISNP_OUT 0 p - 1) 0 p else m
        | _ => m
      let m := match m.dirEnt line with
        | some e => if s then m else m.modShared fun x => { x with
            dir := Tbl.put x.dir line { e with holders := setBit e.holders k false } }
        | none => m
      (m.sendWaiting).settleLine line

/-- Enter data written back in answer to a snoop: it counts as accepted immediately before the request that waits for it
(R381, R387). -/
def Mach.writeBack (m : Mach) (line : Nat) (d : Line) : Mach :=
  let head := (m.cohWaits line).head?
  let m := m.nextOrder
  let o := match head with | some w => w.order | none => m.order
  let w : WrLog := { order := o, data := d, mask := BitVec.allOnes 64, poison := false }
  let reads := head.any fun w => (m.tag? w.port w.tag).any fun x => x.op.reads
  let m := if reads then m.inc Reg.Shared.FORWARDS else m
  let m := m.poisonMarks line w 4
  match m.openMerge line with
  | some (e, x) =>
    let logs := (x.logs.filter fun y => y.order < o) ++ [w] ++ x.logs.filter fun y => o ≤ y.order
    m.setMerge e { x with st := .held, logs := logs }
  | none =>
    match m.newMerge with
    | some e => m.setMerge e { st := .held, line := line, order := o, accept := m.tide, logs := [w] }
    | none => m

/-- BIRSP_RECEIVED: a port's host answers a back-invalidate (R386, R389); a proxy passes an answer that no snoop waits for too, which the home
finds a protocol error (R392). -/
def birspReceived (p line : Nat) (s : Bool) (m : Mach) : Mach :=
  match m.shared.proxy.find? fun x => x.line = line && x.port = p && x.sent with
  | some q =>
    let home := q.src
    let m := m.modShared fun x => { x with proxy := x.proxy.filter fun y => y != q }
    let m := (m.wr Reg.Shared.BISNP_OUT (m.rd Reg.Shared.BISNP_OUT 0 p - 1) 0 p).sendProxy
    let hr := if home = 64 then q.region else m.act Reg.Shared.HOME_REGION 0 q.region
    m.sendCoh home 0 4 (if s then 1 else 2) p hr q.hline q.xid 0 (if s then 1 else 2) q.data
  | none =>
    let r := tRegion (m.entryOf line)
    if !tShared (m.entryOf line) then m
    else if m.regRole r = 2 then
      if m.portIn r p && m.regState r = 2 then
        m.sendCoh (m.act Reg.Shared.HOME_ID 0 r) 0 4 (if s then 1 else 2) p (m.act Reg.Shared.HOME_REGION 0 r)
          (tPeerTract (m.entryOf line) * 2 ^ 24 + line % 2 ^ 24) 0 0 (if s then 1 else 2) none
      else m
    else
      match m.memberOf r (.local p) with
      | some k => m.snoopAnswer r k line s
      | none => m

def execBirspReceived (t : Nat) (p : Port) (line : Nat) (shared : Bool) (s : State) : Out :=
  s.run t fun m => if m.flag Reg.HostPort.DL_UP p then birspReceived p line shared m.awake else m

/-- HOLD_END: an owner's minimum hold ends; the head waiting request goes on (R385). Requests that wait for a way of the
set try again (R383). -/
def holdEnd (line : Nat) (m : Mach) : Mach :=
  match m.dirEnt line with
  | some e =>
    if e.state = 2 && !m.inHold e then
      let m := m.serve line
      let others := ((m.shared.waits.map fun w => w.line).filter fun l => (m.dirEnt l).isNone && dirSet l = dirSet line).eraseDups
      m.each others fun m l => m.serve l
    else m
  | none => m

def execHoldEnd (t : Nat) (line : Nat) (s : State) : Out := s.run t (holdEnd line)

/-- DIR_SWEEP: the sweep sets `AGED` on OWNED entries whose hold has ended (R382). -/
def dirSweep (m : Mach) : Mach :=
  m.modShared fun x => { x with
    dir := x.dir.map fun e => if e.2.state = 2 && !m.inHold e.2 then (e.1, { e.2 with aged := true }) else e }

def execDirSweep (t : Nat) (s : State) : Out := s.run t dirSweep

/-- BI_TIMEOUT: a snoop has gone unanswered for `BI_TIMEOUT_US` (R392, R393). -/
def biTimeout (line k : Nat) (m : Mach) : Mach :=
  match m.shared.snoops.find? fun x => x.line = line && x.member = k with
  | some q =>
    if q.sent && q.tide + m.act Reg.Shared.BI_TIMEOUT_US 0 q.region * 1000 ≤ m.tide then
      (m.event .shared 0 0x3413 (q.region + 256 * k) (line % 2 ^ 32)).tear q.region 2 (some k)
    else m
  | none => m

def execBiTimeout (t : Nat) (line : Nat) (k : Fin 8) (s : State) : Out := s.run t (biTimeout line k)

/-- REGION_TEAR: a write of 1 to `TEAR` (R392). -/
def execRegionTear (t : Nat) (src : Source) (r : Fin 32) (s : State) : Out :=
  s.run t fun m => m.stageWrite .shared 0 src fun m => m.tear r 5 none

/-- A HOME region becomes ACTIVE once every proxy has answered (R391). -/
def Mach.tryActive (m : Mach) (r : Nat) : Mach :=
  if m.regState r = 1 && m.regRole r = 1 && (m.proxies r).all fun d => (m.reg r).ready.contains d then
    let mask := ((List.range 8).map fun k => if (m.memberField r k).testBit 0 then 2 ^ k else 0).sum
    ((m.setReg r 2).modReg r fun x => { x with activeTide := m.tide }).event .shared 0 0x3410 r mask
  else m

/-- A region begins to form: a proxy tells its home, a home asks its proxies (R391). -/
def Mach.form (m : Mach) (r : Nat) : Mach :=
  let m := (m.setReg r 1).modReg r fun x => { x with ready := [], dead := [], readyAt := m.tide }
  if m.regRole r = 2 then
    m.sendCoh (m.act Reg.Shared.HOME_ID 0 r) 0 8 0 0 (m.act Reg.Shared.HOME_REGION 0 r) 0 0 0 0 none
  else (m.each (m.proxies r) fun m d => m.sendCoh d 0 8 0 0 r 0 0 0 0 none).tryActive r

/-- A write of 1 to `REFORM`: a DOWN region forms again with an empty directory (R394). -/
def Mach.reform (m : Mach) (r : Nat) : Mach := if m.regState r = 4 then m.form r else m

/-- REGION_REFORM. -/
def execRegionReform (t : Nat) (src : Source) (r : Fin 32) (s : State) : Out :=
  s.run t fun m => m.stageWrite .shared 0 src fun m => m.reform r

/-- READY_RESEND: a home that forms asks the proxies that have not answered again, every 1 ms (R391). -/
def readyResend (r : Nat) (m : Mach) : Mach :=
  if m.regState r = 1 && m.regRole r = 1 && (m.reg r).readyAt + 1000000 ≤ m.tide then
    let m := m.modReg r fun x => { x with readyAt := m.tide }
    m.each ((m.proxies r).filter fun d => !(m.reg r).ready.contains d) fun m d => m.sendCoh d 0 8 0 0 r 0 0 0 0 none
  else m

def execReadyResend (t : Nat) (r : Fin 32) (s : State) : Out := s.run t (readyResend r)

end Sys2Proof.Machine
end

