-- ==== Sys2Proof/Machine/Levee.lean ====
section
/-! DEFINITION. Writes through the merge buffer and reads of local lines (R19, R21, R104, R105, R184 to R186, R244 to R257,
R285, R407, R408). -/

namespace Sys2Proof.Machine

/-! ### Writes enter the merge buffer (R104, R244, R245, R249) -/

/-- Insert a write into a log in acceptance order. -/
def insertLog (w : WrLog) : List WrLog → List WrLog
  | [] => [w]
  | a :: l => if w.order < a.order then w :: a :: l else a :: insertLog w l

/-- The unit of a write: its data, its byte enables, its check word; a poisoned write carries a check word that fails. -/
def writeUnit (line xid : Nat) (d : Line) (be : BitVec 64) (poison guar : Bool) : FUnit :=
  let lc := unitLc d line
  { utype := if be = BitVec.allOnes 64 then 2 else 3, line := line, xid := xid, data := d, guar := guar
    be := if be = BitVec.allOnes 64 then 0 else be.toNat, lc := if poison then lc ^^^ 0xFFFFFFFF else lc }

/-- Take a tracker entry where one is free; the number names it in an XID. -/
def Mach.trackOr (m : Mach) (kind line : Nat) : Mach × Nat :=
  match m.track kind line 0 with
  | some n => (n.claim m.mover.nextTrack, m.mover.nextTrack)
  | none => (m.inc Reg.DataMover.TRACK_WAITS, 2 ^ 13 - 1)

/-- A write below the boundary of a TRACT_OUT goes to the peer tract too (R201). -/
def Mach.tmCopy (m : Mach) (line : Nat) (w : WrLog) : Mach :=
  match m.sip.queue with
  | c :: _ =>
    if m.flag Reg.Siphon.TM_ACTIVE && c.op = 8 && m.rd Reg.Siphon.TM_TRACT = lineTract line &&
        (m.sip.atEnd || line % 2 ^ 24 < m.rd Reg.Siphon.TM_BOUNDARY) then
      let (m, n) := m.trackOr 0 line
      m.sendOn (m.act Reg.TractTable.PEER_ID 0 (c.slot - 1)) 0
        (writeUnit (c.peer * 2 ^ 24 + line % 2 ^ 24) (trackXid n) w.data w.mask w.poison false)
    else m
  | [] => m

/-- A write enters the merge buffer: into the line's open entry, returning its own reservation, or into its own entry
(R249). -/
def Mach.enterWrite (m : Mach) (own line : Nat) (w : WrLog) (cause : Nat := 4) : Mach :=
  let m := (m.poisonMarks line w cause).tmCopy line w
  match m.openMerge line with
  | some (e, x) =>
    let logs := insertLog w x.logs
    let st := if (applyLogs x.base logs).isSome then .held else x.st
    (m.setMerge e { x with logs := logs, st := st }).freeMerge own
  | none =>
    match m.merge? own with
    | some x => m.setMerge own { x with st := if w.full then .held else .fetch, logs := [w] }
    | none => m

/-- Whether this device orders a mirrored line (R407, R423). -/
def Mach.orderHere (m : Mach) (line : Nat) : Bool :=
  match m.fsm .twin with
  | 3 => m.flag Reg.Twin.RS_SOURCE
  | 4 => (line / 64 % 2 = 0) = (m.rd Reg.Twin.ROLE = 1)
  | _ => true

/-- Whether a write to a line is mirrored (R408, R412). -/
def Mach.mirrored (m : Mach) (line : Nat) : Bool := m.mirrorOn && tMirror (m.entryOf line)

/-- Send a write to the peer as MIRROR, or as FWD, with MASK where it is partial (R402, R408). -/
def Mach.sendWrite (m : Mach) (fwd : Bool) (line : Nat) (d : Line) (be : BitVec 64) (poison : Bool)
    (act : Option TokAct) : Mach :=
  let full := be = BitVec.allOnes 64
  let lc := unitLc d line
  let r : TwRec := { op := (if fwd then 3 else 1) + (if full then 0 else 1), line := line, data := d
                     lc := if poison then lc ^^^ 0xFFFFFFFF else lc }
  if full then m.twSend r act
  else (m.twSend r none act).twSend { op := 0x05, line := line, data := BitVec.ofNat 512 be.toNat } act

/-- WRITE_LOCAL_COMMIT: an accepted write's line enters its merge-buffer entry. On a standalone device that is its
completion point; the order side of a mirrored line sends it to the peer first (R21, R104, R408). `bad` is the row of R236 whose check
fails on the way, 1 at host ingress or 2 at the merge, or 0 (R237). -/
def writeLocalCommit (p g bad : Nat) (m : Mach) : Mach :=
  match m.tag? p g with
  | none => m
  | some x =>
    match m.merge? x.entry with
    | none => m
    | some e =>
      if x.st = .accepted && x.op.writes && !x.fwd && !x.point && e.st = .reserved && e.order = x.order then
        let w : WrLog := { order := x.order, data := x.data, mask := x.be, poison := x.poison || bad != 0 }
        let m := if bad != 0 then m.internalFail x.line bad false else m
        let m := m.enterWrite x.entry x.line w (if bad != 0 then 5 else 4)
        if m.mirrored x.line then m.sendWrite false x.line x.data x.be x.poison (some (.write p g))
        else (m.setTag p g { x with point := true }).writePoint p g
      else m

def execWriteLocalCommit (t : Nat) (p : Fin 6) (g : Nat) (bad : Fin 3) (s : State) : Out :=
  s.run t (writeLocalCommit p g bad)

/-! ### Drains (R250, R256, R257, R285) -/

/-- The value an entry stores. -/
def Merge.value (x : Merge) : LineVal :=
  let v := (applyLogs x.base x.logs).getD {}
  freshVal x.line v.data v.poison

/-- The physical line of a line that has one of its own. -/
def Mach.linePl (m : Mach) (line : Nat) : Option Nat :=
  match m.place line with
  | .dram pl => some pl
  | .cis _ pl => some pl
  | _ => none

/-- The accesses queued at a Canal: reads that wait for their line, and drains under way. -/
def Mach.queueDepth (m : Mach) (c : Nat) : Nat :=
  let on := fun line => match m.linePl line with | some pl => canalOf pl = c | none => false
  min 512 ((m.tagsWhere fun _ x => x.st = .accepted && x.op.reads && on x.line).length +
    (m.lev.merge.filter fun e => e.2.st = .drain && on e.2.line).length)

/-- The queue of a line's Canal has grown. -/
def Mach.peakQueue (m : Mach) (line : Nat) : Mach :=
  match m.linePl line with
  | some pl => m.peak Reg.Canal.QUEUE_PEAK (m.queueDepth (canalOf pl)) (canalOf pl)
  | none => m

/-- Whether a local write to a line, accepted before an order, has not entered the merge buffer yet (R107); a write that the order side of a
mirrored line orders is none (R409). -/
def Mach.writesAhead (m : Mach) (line order : Nat) : Bool :=
  !(m.tagsWhere fun _ x => x.st = .accepted && x.op.writes && x.line = line && x.order < order && !x.fwd && !x.point &&
    match m.merge? x.entry with | some e => e.st = .reserved && e.order = x.order | none => false).isEmpty

/-- Whether a read of a line, accepted before an order, is still without its data, its right granted; a read under a recovery chain is one
(R107, R110). -/
def Mach.readsAhead (m : Mach) (line order : Nat) : Bool :=
  !(m.tagsWhere fun _ x => x.st = .accepted && x.op.reads && x.line = line && x.order < order &&
    match x.coh with | some c => c.granted | none => true).isEmpty

/-- Whether an entry's writes must wait in the merge buffer, for older writes of the line to join them or for older reads (R107, R110). -/
def Mach.waitsOrder (m : Mach) (x : Merge) : Bool := m.writesAhead x.line x.last || m.readsAhead x.line x.last

/-- Whether an entry may drain now: HELD, no older entry of its line still on its way, no older access of the line that it would overtake
(R107), no drain of its stripe row that started before (R249, R250). `prior` lists the entries in DRAIN before this drain. -/
def Mach.mayDrain (m : Mach) (x : Merge) (prior : List (Nat × Merge)) : Bool :=
  x.st = .held && !m.waitsOrder x && !(m.lev.merge.any fun e => e.2.line = x.line && (e.2.st = .drain || e.2.st = .flume)) &&
  m.place x.line != .comp &&
  !(x.stripe && prior.any fun e => e.2.stripe &&
    match m.linePl x.line, m.linePl e.2.line with
    | some a, some b => a / 16 = b / 16
    | _, _ => false)

/-- Issue an entry's line to its Canal, or dispose of it where the Canal is away; what its row's parity needs is kept until the drain
completes (R234, R250, R256, R284, R285, R287). -/
def Mach.drainLine (m : Mach) (e : Nat) (x : Merge) (pl : Nat) (bad : Bool) : Mach :=
  let v := x.value
  let m := (m.updateCistern x.line v).noteStore x.line x.last
  let ver := (m.image pl).ver + 1
  if m.canalTakes pl then
    let away := !m.canalServes pl x.line
    let due := m.parityDue pl
    let m := m.asClass (if x.cls2 then 1 else 4) x.hint
    let (m, old, ok) := if due && !away then m.readForRow pl 0 else (m, m.image pl, true)
    let m := (m.storeRaw x.line (dpaWord x.line) pl v ver v.poison.toNat bad).asClass 2
    (m.setMerge e { x with st := .drain, drain := if due then some ⟨pl, old, ok, m.image pl, away⟩ else none }).peakQueue x.line
  else
    let (m, d) :=
      if m.mirrored x.line then (m, none)
      else if m.striped (pl / 2 ^ 24) && m.rowServed pl x.line then m.degraded x.line (dpaWord x.line) pl v ver v.poison.toNat
      else (m.inc Reg.Canal.LOST_WRITES (canalOf pl), none)
    m.setMerge e { x with st := .drain, drain := d }

/-- A write to a ZERO plot takes a blank plot frame and the plot becomes RAW (R186). -/
def Mach.zeroToRaw (m : Mach) (plot : Nat) : Mach :=
  let e := m.tract (plot / 2 ^ 18)
  match m.takePlotFrame plot (tStripe e) with
  | none => m
  | some (m, v) =>
    let p := m.plot plot
    (m.setPlot plot { p with tier := 1, loc := v, key := m.storeSlot (plot * 64), version := (p.version + 1) % 2 ^ 16 }).dropPlotFrame v

/-- Whether two physical lines lie in the same DRAM row of the same Canal, for DIMMs of any kind (R270). -/
def sameRow (a b : Nat) : Bool := canalOf a = canalOf b && a / 2048 = b / 2048 && a / 16 % 2 = b / 16 % 2

/-- Whether an entry is the one that its Canal takes next: class 2 before class 5, and the oldest of its class first (R161, R250). -/
def Mach.nextDrain (m : Mach) (x : Merge) (prior : List (Nat × Merge)) : Bool :=
  match m.linePl x.line with
  | none => true
  | some pl => !(m.lev.merge.any fun e => ((e.2.cls2 && !x.cls2) || (e.2.cls2 = x.cls2 && e.2.order < x.order)) &&
      m.mayDrain e.2 prior && match m.linePl e.2.line with | some q => canalOf q = canalOf pl | none => false)

/-- The entries that drain together: the first of `es` that may drain, where its Canal takes it next, with up to 7 of the others that lie in
its DRAM row, and with every HELD entry of its stripe row (R250). -/
def Mach.gather (m : Mach) (es : List Nat) : List Nat :=
  let prior := m.lev.merge.filter fun e => e.2.st = .drain
  let may := fun e => match m.merge? e with | some x => m.mayDrain x prior | none => false
  let pl := fun e => (m.merge? e).bind fun x => m.linePl x.line
  match es.find? may with
  | none => []
  | some e =>
    if (m.merge? e).any fun x => m.nextDrain x prior then
      let near := fun f => match pl e, pl f with | some a, some b => sameRow a b | _, _ => false
      let mate := fun (f : Nat × Merge) => f.1 != e && f.2.stripe && match pl e, m.linePl f.2.line with | some a, some b => a / 16 = b / 16 | _, _ => false
      (e :: (es.filter fun f => f != e && may f && near f).take 7 ++ (m.lev.merge.filter fun f => mate f && may f.1).map fun f => f.1).eraseDups
    else []

/-- MERGE_DRAIN: HELD entries are issued together (R250). `bad` lists the entries whose store-boundary check fails
(R237). -/
def mergeDrain (es bad : List Nat) (m : Mach) : Mach :=
  let prior := m.lev.merge.filter fun e => e.2.st = .drain
  m.each (m.gather es) fun m e =>
    match m.merge? e with
    | none => m
    | some x =>
      if m.mayDrain x prior then
        match m.place x.line with
        | .zero =>
          let m := m.zeroToRaw (x.line / 64)
          match m.linePl x.line with
          | some pl => (if x.cls2 then m.guarAt pl true else m).drainLine e x pl (bad.contains e)
          | none => m
        | .dram pl => m.drainLine e x pl (bad.contains e)
        | .cis _ pl => m.drainLine e x pl (bad.contains e)
        | _ => m.freeMerge e
      else m

def execMergeDrain (t : Nat) (es bad : List Nat) (s : State) : Out := s.run t (mergeDrain es bad)

/-- A line that an internal check failure has spoiled is stored, and is resilvered from the peer, whose copy of the write is good (R237): a
refetch whose answer is written back as a repair. The peer is asked once no write of the line is on its way to it. -/
def Mach.resilverLine (m : Mach) (x : Merge) : Mach :=
  if m.mirrored x.line && m.mayRefetch x.line && (m.lev.prec.any fun q => q.line = x.line && q.cause = 5) &&
      (m.tagsWhere fun _ y => y.st = .accepted && y.op.writes && y.line = x.line).isEmpty then
    match m.linePl x.line with
    | some pl =>
      let k := m.lev.nextChain
      let m := m.modLev fun y => { y with nextChain := k + 1 }
      (m.setChain k { who := .repair, line := x.line, pl := pl, step := 3, order := x.last, start := m.tide, fix := true }).refetch k x.line
    | none => m
  else m

/-- The entries that complete with `es`: those in DRAIN among them, and those that drain in a row of theirs (R250). -/
def Mach.drained (m : Mach) (es : List Nat) : List (Nat × Merge) :=
  let row := fun (x : Merge) => x.drain.map fun d => d.pl / 16
  let ds := m.lev.merge.filter fun e => e.2.st = .drain
  let mine := ds.filter fun e => es.contains e.1
  ds.filter fun e => es.contains e.1 || (row e.2).isSome && mine.any fun q => row q.2 = row e.2

/-- DRAIN_COMPLETE: every write of a drain is complete, parity included, and its entries are FREE (R106, R248, R256). `fails`
and `lost` list the entries whose stripe reads, and whose rebuild reads, fail on the way (R257). -/
def drainComplete (es fails lost : List Nat) (m : Mach) : Mach :=
  let ds := m.drained es
  let rows := (ds.filterMap fun e => e.2.drain.map fun d => d.pl / 16).eraseDups
  let m := m.each rows fun m r =>
    let mine := ds.filter fun e => match e.2.drain with | some d => d.pl / 16 = r | none => false
    let m := m.asClass (if mine.any fun e => e.2.cls2 then 1 else 4) ((mine.head?.map fun e => e.2.hint).getD 0)
    (m.rowUpdate (mine.filterMap fun e => e.2.drain) (mine.any fun e => fails.contains e.1)
      (mine.any fun e => lost.contains e.1)).asClass 2
  m.each ds fun m e => (m.freeMerge e.1).resilverLine e.2

def execDrainComplete (t : Nat) (es fails lost : List Nat) (s : State) : Out := s.run t (drainComplete es fails lost)

/-! ### Reads -/

/-- Whether the translation of a line is at hand: the plot entry, and the directory entry of a COMPRESSED plot (R190,
R215). -/
def Mach.translated (m : Mach) (line : Nat) : Bool :=
  tMode (m.entryOf line) != 2 ||
  (m.st.tc.contains (line / 64) && ((m.plot (line / 64)).tier != 2 || m.st.dc.contains (line / 64)))

/-- Whether a line lies in an LZ row, which a decompress engine must decode (R219). -/
def Mach.inLzRow (m : Mach) (line : Nat) : Bool :=
  m.place line = .comp && (m.dir (line / 64)).kind = 2 && (m.dir (line / 64)).enc.getD (line % 64 / 16) 0 = 1 &&
  !m.plotPoison line && (Tbl.find m.st.cisLines line).isNone

/-- Whether a line of a COMPRESSED plot waits for island 5, whose engines and staging every read of a row uses (R13). -/
def Mach.rowAway (m : Mach) (line : Nat) : Bool :=
  m.islandDown 5 && m.place line = .comp && !m.plotPoison line && (m.cisCopy line).isNone

/-- PARTIAL_FETCH_COMPLETE: the old line of a partial write is read (R251). -/
def partialFetchComplete (e : Nat) (errs : List (BitVec 640)) (cisBad : Bool) (m : Mach) : Mach :=
  match m.merge? e with
  | none => m
  | some x =>
    if x.st != .fetch || (m.lev.chains.any fun c => c.2.who = .fetch e) || !m.translated x.line || m.rowAway x.line then m
    else if m.rsRemote x.line then
      m.beginChain { who := .fetch e, line := x.line, pl := (m.linePl x.line).getD 0, step := 2, order := x.order, oos := true }
    else
      let lz := m.inLzRow x.line
      let (m, t) := (m.asClass (if x.cls2 then 1 else 4) x.hint).tryRead x.line errs cisBad
      let m := m.asClass 2
      match t with
      | .ok v => (if lz then m.inc Reg.Flume.ROWS_DECODED else m).finishFetch e v false
      | t => m.takeTry (.fetch e) x.line x.order t

def execPartialFetchComplete (t : Nat) (e : Nat) (errs : List (BitVec 640)) (cisBad : Bool) (s : State) : Out :=
  s.run t (partialFetchComplete e errs cisBad)

/-- Where a read that needs no chain is answered from, as the Late FIFO tells it (R100). -/
def Mach.readStage (m : Mach) (line : Nat) : Nat :=
  match m.place line with
  | .cis _ _ => 2
  | .comp => 5
  | .zero => 1
  | _ => if m.plotPoison line then 1 else if (Tbl.find m.st.cisLines line).isSome then 2 else 3

/-- Whether a read waits for its own line: accepted, local, its right granted, no chain at work for it, every write of the line accepted
before it in the merge buffer or beyond (R107). -/
def Mach.readWaits (m : Mach) (p g : Nat) (x : Tag) : Bool :=
  x.st = .accepted && x.op.reads && (match x.coh with | some c => c.granted | none => true) && !m.writesAhead x.line x.order &&
  !(m.lev.chains.any fun c => c.2.who = .read p g) &&
  match m.place x.line with
  | .none => false
  | .remote _ _ => false
  | _ => true

/-- An internal check of a row of R236 fails on a read before its response enters egress: the read enters the chain at step 1 (R237). -/
def Mach.failRead (m : Mach) (p g : Nat) (x : Tag) (row : Nat) : Mach :=
  (m.internalFail x.line row false).beginChain
    { who := .read p g, line := x.line, pl := (m.linePl x.line).getD 0, step := 1, order := x.order }

/-- The line as the decoded copy of a rewrite of its row holds it (R224). -/
def Mach.stagedLine (m : Mach) (line : Nat) : Option LineVal :=
  (m.sip.rewrites.find? fun r => r.plot * 4 + r.row = line / 16 && !r.copy.isEmpty).bind fun r => r.copy[line % 16]?

/-- READ_DATA_RETURN: the line of a read is at hand and is checked before its response enters egress (R19, R105, R236,
R243). `intl` names the boundary of R236 at which an internal check fails, or 0. -/
def readDataReturn (p g : Nat) (errs : List (BitVec 640)) (cisBad : Bool) (victim intl : Nat) (m : Mach) : Mach :=
  match m.tag? p g with
  | none => m
  | some x =>
    if !m.readWaits p g x then m
    else
      match m.mergedVal x.line x.order (m.stagedLine x.line) with
      | some v =>
        if (m.stagedLine x.line).isSome && !m.hasMerge x.line x.order && m.islandDown 5 then m
        else if intl = 7 then (m.internalFail x.line 7 false).answer p g poisonData 2 7
        else if intl != 0 then m.failRead p g x intl
        else m.finishRead p g v 0 (if m.hasMerge x.line x.order then 8 else 5)
      | none =>
        if !m.translated x.line || m.inLzRow x.line || m.rowAway x.line then m
        else if m.rsRemote x.line then
          m.beginChain { who := .read p g, line := x.line, pl := (m.linePl x.line).getD 0, step := 2, order := x.order, oos := true }
        else
          let stage := m.readStage x.line
          let m := if x.bestEff && m.cisHit x.line cisBad then m.backBe else m
          let (m, t) := (m.asClass x.readClass x.hint).tryRead x.line errs cisBad
          let m := m.asClass 2
          match t with
          | .ok v =>
            if intl = 7 then (m.internalFail x.line 7 false).answer p g poisonData 2 7
            else if intl != 0 then m.failRead p g x intl
            else
              let m := if stage = 3 || stage = 5 then m.cacheFill x.line v victim x.fill else m
              m.finishRead p g v 0 stage
          | t => m.takeTry (.read p g) x.line x.order t

def execReadDataReturn (t : Nat) (p : Fin 6) (g : Nat) (errs : List (BitVec 640)) (cisBad : Bool) (victim intl : Nat)
    (s : State) : Out :=
  s.run t (readDataReturn p g errs cisBad victim intl)

end Sys2Proof.Machine
end

