-- ==== Sys2Proof/Machine/Furrow.lean ====
section
/-! DEFINITION. The Furrow: scrub passes over stored lines, stripe parity, retries and the pass summary (R260 to R263,
R266, R267). -/

namespace Sys2Proof.Machine

/-! ### Passes (R263) -/

/-- The fields of the live summary, each with its copy in the last-pass summary (R266). -/
def passFields : List (Field × Field) :=
  [(Reg.Furrow.LINES_READ, Reg.Furrow.LAST_PASS_LINES_READ), (Reg.Furrow.NOT_STORED, Reg.Furrow.LAST_PASS_NOT_STORED),
   (Reg.Furrow.BLANK_FOUND, Reg.Furrow.LAST_PASS_BLANK_FOUND), (Reg.Furrow.FOUND_BAD, Reg.Furrow.LAST_PASS_FOUND_BAD),
   (Reg.Furrow.FIXED_REREAD, Reg.Furrow.LAST_PASS_FIXED_REREAD),
   (Reg.Furrow.FIXED_CISTERN, Reg.Furrow.LAST_PASS_FIXED_CISTERN),
   (Reg.Furrow.FIXED_TWIN, Reg.Furrow.LAST_PASS_FIXED_TWIN), (Reg.Furrow.FIXED_STRIPE, Reg.Furrow.LAST_PASS_FIXED_STRIPE),
   (Reg.Furrow.NEW_POISON, Reg.Furrow.LAST_PASS_NEW_POISON), (Reg.Furrow.OLD_POISON, Reg.Furrow.LAST_PASS_OLD_POISON),
   (Reg.Furrow.PARITY_FIXED, Reg.Furrow.LAST_PASS_PARITY_FIXED),
   (Reg.Furrow.SKIPPED_LATE, Reg.Furrow.LAST_PASS_SKIPPED_LATE), (Reg.Furrow.RETRIED, Reg.Furrow.LAST_PASS_RETRIED),
   (Reg.Furrow.FIRST_BAD_LINE, Reg.Furrow.LAST_PASS_FIRST_BAD_LINE),
   (Reg.Furrow.PASS_START_TIDE, Reg.Furrow.LAST_PASS_PASS_START_TIDE),
   (Reg.Furrow.PASS_END_TIDE, Reg.Furrow.LAST_PASS_PASS_END_TIDE)]

/-- The retry list of a pass (R262). -/
def Mach.setRetry (m : Mach) (l : List Nat) : Mach :=
  (m.modLev fun x => { x with retry := l }).wr Reg.Furrow.RETRY_USED l.length

/-- A pass ends with a result: the live summary becomes the last one (R263). -/
def Mach.endPass (m : Mach) (result : Nat) : Mach :=
  let m := (m.setRetry []).wr Reg.Furrow.PASS_END_TIDE m.tide
  let m := m.each passFields fun m f => m.wr f.2 (m.rd f.1)
  let m := (m.inc Reg.Furrow.PASSES).wr Reg.Furrow.LAST_TAG (m.rd Reg.Furrow.PASS_TAG)
  let m := (m.wr Reg.Furrow.LAST_RESULT result).setFsm .furrow (if m.halted .furrow then 3 else 0)
  let m := m.modLev fun x => { x with stopWant := none, furrowWas := 0, tab := 0, tabDone := none }
  m.event .furrow 0 0x2011 (m.rd Reg.Furrow.PASS_TAG + result * 65536) (m.rd Reg.Furrow.FOUND_BAD)

/-- A pass starts; one with an empty range ends at once (R263). -/
def Mach.startPass (m : Mach) : Mach :=
  let m := m.each passFields fun m f => m.wr f.1 0
  let m := (m.wr Reg.Furrow.PASS_START_TIDE m.tide).wr Reg.Furrow.POSITION (m.rd Reg.Furrow.START_LINE)
  let m := (m.setFsm .furrow 1).event .furrow 0 0x2010 (m.rd Reg.Furrow.PASS_TAG) (m.rd Reg.Furrow.START_LINE % 2 ^ 32)
  if m.rd Reg.Furrow.END_LINE < m.rd Reg.Furrow.START_LINE then m.endPass 3 else m

/-- Whether a chain runs for the Furrow. -/
def Mach.furrowBusy (m : Mach) : Bool := m.lev.chains.any fun c => c.2.who = .furrow

/-- FURROW_PASS_GO: a pass starts while the Furrow is IDLE and enabled (R263). -/
def Mach.passGo (m : Mach) : Mach := if m.fsm .furrow = 0 && m.enabled .furrow then m.startPass else m

def execFurrowPassGo (t : Nat) (src : Source) (s : State) : Out :=
  s.run t fun m => m.stageWrite .furrow 0 src Mach.passGo

/-- What the chain of a failing line came to. -/
def Mach.countFix (m : Mach) (d : ChainEnd) : Mach :=
  match d.step with
  | 1 => m.inc Reg.Furrow.FIXED_REREAD
  | 2 => m.inc Reg.Furrow.FIXED_CISTERN
  | 3 => m.inc Reg.Furrow.FIXED_TWIN
  | 4 => m.inc Reg.Furrow.FIXED_STRIPE
  | _ => (m.inc Reg.Furrow.NEW_POISON).event .furrow 0 0x2012 d.line (dpaHi d.line)

/-- The chains that have ended for the Furrow are counted by their outcome. -/
def Mach.countChains (m : Mach) : Mach :=
  let m := m.each (m.lev.done.filter fun d => d.who = .furrow) fun m d => m.countFix d
  m.modLev fun x => { x with done := x.done.filter fun d => d.who != .furrow }

/-- Whether a pass runs: the Furrow is at work, or HALTED within a pass (R263). -/
def Mach.passOn (m : Mach) : Bool := m.fsm .furrow = 1 || m.fsm .furrow = 2 || (m.fsm .furrow = 3 && m.lev.furrowWas != 0)

/-- FURROW_PASS_STOP: the pass ends after the steps in flight, with result 1 (R263). -/
def Mach.passStop (m : Mach) : Mach :=
  if !m.passOn then m
  else if m.furrowBusy then m.modLev fun x => { x with stopWant := some 1 }
  else m.countChains.endPass 1

def execFurrowPassStop (t : Nat) (src : Source) (s : State) : Out :=
  s.run t fun m => m.stageWrite .furrow 0 src Mach.passStop

/-- FURROW_DISABLE: `ENABLE` written 0 ends the pass with result 2; chains at work go on for their lines (R263). -/
def Mach.furrowDisable (m : Mach) : Mach :=
  let m := (m.wr (Reg.Hdr.ENABLE .furrow) 0).countChains
  let m := m.modLev fun x => { x with
    chains := x.chains.map fun c => if c.2.who = .furrow then (c.1, { c.2 with who := .repair }) else c }
  if m.passOn then (m.stepFree 1).endPass 2 else m

def execFurrowDisable (t : Nat) (src : Source) (s : State) : Out :=
  s.run t fun m => m.written src Mach.furrowDisable

/-! ### Lines (R260, R261) -/

/-- A failing line of the pass. -/
def Mach.foundBad (m : Mach) (line : Nat) : Mach :=
  let m := if m.rd Reg.Furrow.FOUND_BAD = 0 then m.wr Reg.Furrow.FIRST_BAD_LINE line else m
  m.inc Reg.Furrow.FOUND_BAD

/-- The slots in use of a stripe group, ascending. -/
def Mach.slotsUsed (m : Mach) (f0 : Nat) : List Nat :=
  (List.range 15).filter fun s =>
    match Tbl.find m.st.groups (f0 / 16) with
    | some .direct => m.st.home.any fun e => e.2.frame = f0 && e.2.slot = s
    | some .plots => m.usedPlotFrames.any fun v => v / 2 ^ 24 = f0 + s
    | some (.pool _) => m.st.plots.any fun e => e.2.tier = 2 && e.2.loc / 2 ^ 24 = f0 + s
    | none => false

/-- Whether the pass verifies the parity of a physical line's row: it is the row's line of the lowest slot in use, and every Canal of the row
serves it (R261). -/
def Mach.parityChecked (m : Mach) (pl : Nat) : Bool :=
  m.flag Reg.Furrow.PARITY_CHECK && m.striped (pl / 2 ^ 24) &&
    let (f0, s, r) := rowPlace pl
    (m.slotsUsed f0).head? = some s && (parityPl f0 r :: rowLines f0 r).all fun q => m.canalServes q q

/-- Verify the parity of the row of a physical line, where the pass does so at the line (R261). -/
def Mach.checkParity (m : Mach) (pl : Nat) : Mach :=
  if m.parityChecked pl then
    let (f0, _, r) := rowPlace pl
    let p := parityPl f0 r
    let (m, par, pok) := m.readForRow p 0
    let (m, is, good) := m.readRow ((rowLines f0 r).filter fun q => q != pl) []
    let sum := sumImgs (contrib (m.image pl)) is
    if (pok && parityBody par = sum) || !good then m
    else ((m.writeParity p sum false).inc Reg.Furrow.PARITY_FIXED).event .furrow 0 0x2013 f0 r
  else m

/-- Read and check one stored line of the pass at its physical line. -/
def Mach.scrubAt (m : Mach) (line pl : Nat) (err : BitVec 640) : Mach :=
  let m := m.inc Reg.Furrow.LINES_READ
  if m.canalServes pl line then
    let (m, s, fl) := m.readDram line (dpaWord line) pl err
    if s.ok then
      let m := if s.blank then m.inc Reg.Furrow.BLANK_FOUND else m
      let m := if s.val.poison || m.plotPoison line then m.inc Reg.Furrow.OLD_POISON else m
      m.checkParity pl
    else (m.foundBad line).takeTry .furrow line m.order (.bad pl s (fl || m.lev.flipped.contains pl))
  else m

/-- Check the Cistern's copy of a line of a CISTERN plot; one that fails is invalidated (R194, R260). -/
def Mach.scrubCistern (m : Mach) (line frame : Nat) : Mach :=
  let k := frame * 64 + line % 64
  match Tbl.find m.st.cisTier k with
  | some v =>
    let m := m.inc Reg.Furrow.LINES_READ
    if cisOk line v false then m
    else (m.modSt fun s => { s with cisTier := Tbl.del s.cisTier k }).cisFail k line
  | none => m

/-- The physical lines of the sectors that the row or line at a place of a COMPRESSED plot takes. -/
def Mach.rowSectors (m : Mach) (line : Nat) : List Nat :=
  let d := m.dir (line / 64)
  let r := line % 64 / 16
  if d.kind = 1 then [m.realPl d.loc]
  else
    match d.enc.getD r 0 with
    | 0 => []
    | 2 => [m.realPl (d.start r + line % 16)]
    | _ => (List.range (d.cnt.getD r 0)).map fun k => m.realPl (d.start r + k)

/-- Read what a COMPRESSED plot stores for the row or line at the position (R260). -/
def Mach.scrubComp (m : Mach) (line n : Nat) (errs : List (BitVec 640)) : Mach :=
  let m := m.inc Reg.Furrow.LINES_READ 0 0 n
  let m := if m.inLzRow line then m.inc Reg.Flume.ROWS_DECODED else m
  let (m, t) := m.readComp line errs
  match t with
  | .ok v =>
    let m := if v.poison || m.plotPoison line then m.inc Reg.Furrow.OLD_POISON else m
    m.each (m.rowSectors line) fun m pl => m.checkParity pl
  | .away _ => m
  | t => (m.foundBad line).takeTry .furrow line m.order t

/-- What the pass does at a line: nothing stored there up to a line, a stored line, or a row of `n` sectors. -/
inductive Scrub where
  | skip (next : Nat)
  | none (next : Nat)
  | one (pl next : Nat)
  | cis (frame pl next : Nat)
  | comp (n next : Nat)
deriving DecidableEq, Repr

/-- What the pass finds at a line (R260). -/
def Mach.scrubFor (m : Mach) (line : Nat) : Scrub :=
  let tractEnd := (line / 2 ^ 24 + 1) * 2 ^ 24
  let plotEnd := (line / 64 + 1) * 64
  match m.place line with
  | .none => .none tractEnd
  | .remote _ _ => .none tractEnd
  | .zero => .none plotEnd
  | .dram pl => .one pl (line + 1)
  | .cis f pl => .cis f pl (line + 1)
  | .comp =>
    let d := m.dir (line / 64)
    let rowEnd := (line / 16 + 1) * 16
    if d.kind = 1 then .comp 1 plotEnd
    else
      match d.enc.getD (line % 64 / 16) 0 with
      | 0 => .skip rowEnd
      | 2 => .comp 1 (line + 1)
      | _ => .comp (d.cnt.getD (line % 64 / 16) 0) rowEnd

/-- The pass has reached the end of its range: late lines are retried once, then it ends (R262, R263). -/
def Mach.passEnd (m : Mach) : Mach :=
  if m.lev.retry.isEmpty then
    let m := m.endPass 0
    if m.flag Reg.Furrow.CONTINUOUS then m.startPass else m
  else m.setFsm .furrow 2

/-- The pass goes on at a line. -/
def Mach.passTo (m : Mach) (next : Nat) : Mach :=
  let m := m.wr Reg.Furrow.POSITION next
  if m.rd Reg.Furrow.END_LINE < next && !m.furrowBusy then m.passEnd else m

/-- One line of the pass is read; answers the line after what was read. -/
def Mach.scrub (m : Mach) (line : Nat) (errs : List (BitVec 640)) : Mach × Nat :=
  match m.scrubFor line with
  | .skip next => (m, next)
  | .none next => (m.inc Reg.Furrow.NOT_STORED 0 0 (min next (m.rd Reg.Furrow.END_LINE + 1) - line), next)
  | .one pl next => (m.scrubAt line pl (errs.headD 0), next)
  | .cis f pl next => ((m.scrubCistern line f).scrubAt line pl (errs.headD 0), next)
  | .comp n next => (m.scrubComp line n errs, next)

/-- Whether the pass reads the table-block lines of the tract it has come to before the tract's own lines (R260). -/
def Mach.tablesDue (m : Mach) (line : Nat) : Bool :=
  m.flag Reg.Furrow.TABLES && tMode (m.entryOf line) = 2 && m.lev.tabDone != some (lineTract line)

/-- One table-block line of the pass is read: one that fails takes its copy, which is written over it (R229, R238, R260). -/
def Mach.scrubTable (m : Mach) (tract : Nat) (errs : List (BitVec 640)) : Mach :=
  let n := m.lev.tab
  let m := m.inc Reg.Furrow.LINES_READ
  let m := m.modLev fun x => if n + 1 < 262144 then { x with tab := n + 1 } else { x with tab := 0, tabDone := some tract }
  let (m, ok) := m.readTable tract n (errs.headD 0)
  if ok then m
  else
    let m := m.foundBad (tract * 2 ^ 24)
    let (m, again) := m.readTable tract n (errs.tail.headD 0)
    if again then m.inc Reg.Furrow.FIXED_REREAD
    else
      let (m, copy) := m.readTable tract (tabCopy n) (errs.tail.tail.headD 0)
      if copy then m.storeTable tract n else m

/-- The lines that a step of the pass reads: none where nothing is stored; the row's 16 where its parity is verified (R261, R262). -/
def Mach.scrubCost (m : Mach) (line : Nat) : Nat :=
  let par := fun pl => if m.parityChecked pl then 15 else 0
  if m.tablesDue line then 1
  else
    match m.scrubFor line with
    | .skip _ => 0
    | .none _ => 0
    | .one pl _ => 1 + par pl
    | .cis _ pl _ => 1 + par pl
    | .comp n _ => n + ((m.rowSectors line).map par).sum

/-- Whether a step may start: its freeboard lines of kind 1, and the pass's own rate not used up in this turn (R262). -/
def Mach.furrowMay (m : Mach) (line : Nat) : Bool :=
  m.hasFbN 1 (m.scrubCost line) && (m.rd Reg.Furrow.RATE_LINES = 0 || m.lev.passLeft < m.rd Reg.Furrow.RATE_LINES)

/-- Whether the parity check of a step waits for a drain of its row (R256, R261). -/
def Mach.parityWaits (m : Mach) (line : Nat) : Bool :=
  match m.scrubFor line with
  | .one pl _ => m.parityChecked pl && m.rowInDrain pl
  | .cis _ pl _ => m.parityChecked pl && m.rowInDrain pl
  | .comp _ _ => (m.rowSectors line).any fun pl => m.parityChecked pl && m.rowInDrain pl
  | _ => false

/-- A step at a line starts: it has a tracker entry of kind 1 and takes its freeboard lines; none where it waits (R94, R95, R262). -/
def Mach.furrowTake (m : Mach) (line : Nat) : Option Mach :=
  if !m.furrowMay line || m.tractHeld line || m.parityWaits line then none
  else
    let n := m.scrubCost line
    (m.stepEntry 1 line (m.tide + m.rd Reg.Furrow.STEP_US * 1000)).map fun m =>
      (m.takeFbN 1 n).modLev fun x => { x with passLeft := x.passLeft + n }

/-- A step whose line passed frees its tracker entry; one whose line takes a chain keeps it (R95, R262). -/
def Mach.furrowFree (m : Mach) : Mach := if m.furrowBusy then m else m.stepFree 1

/-- A step that finds no tracker entry waits, and is counted (R95). -/
def Mach.furrowWait (m : Mach) (line : Nat) : Mach :=
  if m.furrowMay line && !m.tractHeld line && !m.parityWaits line then m.inc Reg.DataMover.TRACK_WAITS else m

/-- FURROW_STEP_DONE: the line at `POSITION`, or the head of the retry list, is read and checked; a line whose chain has
ended is counted by its outcome first (R260 to R263). -/
def furrowStepDone (errs : List (BitVec 640)) (m : Mach) : Mach :=
  if m.furrowBusy then m
  else
    let m := m.countChains
    match m.lev.stopWant with
    | some r => m.endPass r
    | none =>
      if m.quiet .furrow then m
      else
        match m.fsm .furrow with
        | 1 =>
          let line := m.rd Reg.Furrow.POSITION
          if m.rd Reg.Furrow.END_LINE < line then m.passEnd
          else
            match m.furrowTake line with
            | none => m.furrowWait line
            | some m =>
              if m.tablesDue line then (m.scrubTable (lineTract line) errs).furrowFree
              else
                let (m, next) := m.scrub line errs
                m.furrowFree.passTo next
        | 2 =>
          match m.lev.retry with
          | [] => m.passEnd
          | line :: l =>
            match m.furrowTake line with
            | none => m.furrowWait line
            | some m =>
              let (m, _) := ((m.setRetry l).inc Reg.Furrow.RETRIED).scrub line errs
              let m := m.furrowFree
              if l.isEmpty && !m.furrowBusy then m.passEnd else m
        | _ => m

def execFurrowStepDone (t : Nat) (errs : List (BitVec 640)) (s : State) : Out := s.run t (furrowStepDone errs)

/-- A step of the Furrow ends LATE: its line goes on the retry list, or is left for the next pass (R262). A chain at work for it goes on as
repair work (R240). -/
def Mach.furrowLate (m : Mach) : Mach :=
  let busy := m.lev.chains.find? fun c => c.2.who = .furrow
  let m := m.modLev fun x => { x with chains := x.chains.map fun c => if c.2.who = .furrow then (c.1, { c.2 with who := .repair }) else c }
  let put := fun (m : Mach) line => if m.lev.retry.length < 1024 then m.setRetry (m.lev.retry ++ [line]) else m.inc Reg.Furrow.SKIPPED_LATE
  match busy, m.fsm .furrow with
  | some c, 1 =>
    let m := put m c.2.line
    if m.rd Reg.Furrow.END_LINE < m.rd Reg.Furrow.POSITION then m.passEnd else m
  | some _, 2 =>
    let m := m.inc Reg.Furrow.SKIPPED_LATE
    if m.lev.retry.isEmpty then m.passEnd else m
  | none, 1 =>
    let line := m.rd Reg.Furrow.POSITION
    let m := if m.lev.retry.length < 1024 then m.setRetry (m.lev.retry ++ [line]) else m.inc Reg.Furrow.SKIPPED_LATE
    match m.scrubFor line with
    | .skip n => m.passTo n
    | .none n => m.passTo n
    | .one _ n => m.passTo n
    | .cis _ _ n => m.passTo n
    | .comp _ n => m.passTo n
  | none, 2 =>
    match m.lev.retry with
    | [] => m
    | _ :: l =>
      let m := ((m.setRetry l).inc Reg.Furrow.RETRIED).inc Reg.Furrow.SKIPPED_LATE
      if l.isEmpty then m.passEnd else m
  | _, _ => m

end Sys2Proof.Machine
end

