-- ==== Sys2Proof/Machine/Flume.lean ====
section
/-! DEFINITION. Flume: sector pools, runs, row decodes, rewrites of compressed plots, the directory cache (R209 to R231). -/

namespace Sys2Proof.Machine

/-! ### Pools (R209 to R213, R226) -/

/-- The pool of a tract (R212). -/
def Mach.poolOf (m : Mach) (tract : Nat) : Nat :=
  (((List.range 16).drop 1).find? fun k =>
    m.act Reg.Flume.POOL_FIRST 0 k ≤ tract && tract ≤ m.act Reg.Flume.POOL_LAST 0 k).getD 0

/-- The data frames of a pool, ascending. -/
def Mach.poolFrames (m : Mach) (k : Nat) : List Nat :=
  if (m.act Reg.Flume.POOL_STRIPE).testBit k then
    (m.groupsOf (.pool k)).flatMap fun f0 => (List.range 15).map fun s => f0 + s
  else (m.st.frames.filter fun e => e.2.role = 4 && e.2.pool = k).map fun e => e.1

/-- The runs that lie in a data frame: first sector and length. -/
def Mach.runsIn (m : Mach) (f : Nat) : List (Nat × Nat) :=
  (m.st.plots.filter fun e => e.2.tier = 2 && e.2.loc / 2 ^ 24 = f).map fun e => (e.2.loc, e.2.sectors)

/-- The chunks in use of a data frame, ascending. -/
def Mach.chunksIn (m : Mach) (f : Nat) : List Nat :=
  (m.runsIn f).foldl (fun l r => insertNat (r.1 / 64) l) []

/-- The allocation word of a chunk of a pool frame, which the frame's first 512 chunks hold: bit s is 1 while sector s is in use (R210). It
follows from the runs that lie there. -/
def Mach.chunkWord (m : Mach) (f c : Nat) : Nat :=
  ((List.range 64).map fun s =>
    if (m.runsIn f).any fun r => r.1 ≤ f * 2 ^ 24 + c * 64 + s && f * 2 ^ 24 + c * 64 + s < r.1 + r.2 then 2 ^ s else 0).sum

/-- The wholly free chunks of a pool. -/
def Mach.freeChunks (m : Mach) (k : Nat) : Nat :=
  let fs := m.poolFrames k
  fs.length * 261632 - (fs.map fun f => (m.chunksIn f).length).sum

/-- The free sectors of a pool. -/
def Mach.freeSectors (m : Mach) (k : Nat) : Nat :=
  let fs := m.poolFrames k
  fs.length * 16744448 - (fs.map fun f => ((m.runsIn f).map fun r => r.2).sum).sum

/-- Whether a reserve of chunks does not fit a number of free sectors (R226). -/
def Mach.tight (m : Mach) (k free : Nat) : Bool :=
  free * (1000 - m.act Reg.Weir.FREEBOARD) < m.act Reg.Flume.RESERVE_CH 0 k * 64 * 1000

/-- Re-evaluate a pool on an allocation or a release (R226). -/
def Mach.showPool (m : Mach) (k : Nat) : Mach :=
  let fc := m.freeChunks k
  let fs := m.freeSectors k
  let st := if m.tight k fs then 2 else if fc ≤ m.act Reg.Flume.GROW_WATER 0 k then 1 else 0
  let was := m.rd Reg.Flume.POOL_STATE 0 k
  let m := (m.wr Reg.Flume.FREE_CHUNKS fc 0 k).wr Reg.Flume.FREE_SECT fs 0 k
  let m := (m.wr Reg.Flume.FRAMES (m.poolFrames k).length 0 k).wr Reg.Flume.POOL_STATE st 0 k
  let m := (m.wb Reg.Flume.DRY (fc = 0) 0 k).wr Reg.Flume.POOL_PLOTS
    (m.st.dirs.filter fun e => e.2.kind != 0 && e.2.pool = k).length 0 k
  let comp := m.st.plots.filter fun e => e.2.tier = 2
  let m := (m.wr Reg.Flume.C_PLOTS comp.length).wr Reg.Flume.C_SECTORS (comp.map fun e => e.2.sectors).sum
  if st = 2 && was != 2 then m.event .flume 0 0x1813 k (fs % 2 ^ 32)
  else if st != 2 && was = 2 then m.event .flume 0 0x1814 k (fs % 2 ^ 32)
  else m

/-- A pool takes a frame or a group, or says once that it cannot (R213). -/
def Mach.growPool (m : Mach) (k : Nat) : Mach :=
  let n := (m.poolFrames k).length
  let striped := (m.act Reg.Flume.POOL_STRIPE).testBit k
  let took :=
    if striped then
      if n + 15 ≤ m.act Reg.Flume.POOL_MAX_FRAMES 0 k && m.abovePlotReserve (16 * 262144) then
        (m.freeGroups.head?).map fun f0 => m.newGroup f0 (.pool k)
      else none
    else
      if n + 1 ≤ m.act Reg.Flume.POOL_MAX_FRAMES 0 k && m.abovePlotReserve 262144 then
        (m.freeFrames.head?).map fun f => m.setFrame f { role := 4, pool := k }
      else none
  match took with
  | some m =>
    let m := (m.modSt fun s => { s with growSaid := s.growSaid.filter fun x => x != k }).showFrames.showPool k
    m.event .flume 0 0x1811 k (m.rd Reg.Flume.FRAMES 0 k)
  | none =>
    if m.st.growSaid.contains k then m
    else (m.modSt fun s => { s with growSaid := s.growSaid ++ [k] }).event .flume 0 0x1810 k (m.freeChunks k)

/-- A pool gives back a frame or a group that is wholly free, where enough stays (R213). -/
def Mach.shrinkPool (m : Mach) (k : Nat) : Mach :=
  let striped := (m.act Reg.Flume.POOL_STRIPE).testBit k
  let n := if striped then 15 else 1
  let keep := m.act Reg.Flume.GROW_WATER 0 k + 261632 + n * 261632 < m.freeChunks k &&
    !m.tight k (m.freeSectors k - n * 16744448)
  let gone :=
    if !keep then none
    else if striped then
      ((m.groupsOf (.pool k)).find? fun f0 => (List.range 15).all fun s => (m.runsIn (f0 + s)).isEmpty).map m.endGroup
    else ((m.poolFrames k).find? fun f => (m.runsIn f).isEmpty).map fun f => m.releaseFrame f none
  match gone with
  | some m =>
    let m := m.showFrames.showPool k
    m.event .flume 0 0x1811 k (m.rd Reg.Flume.FRAMES 0 k)
  | none => m

/-- What the pools do at a turn boundary (R213). -/
def Mach.poolBoundary (m : Mach) : Mach :=
  m.each (List.range 16) fun m k =>
    if m.act Reg.Flume.POOL_MAX_FRAMES 0 k != 0 && m.freeChunks k ≤ m.act Reg.Flume.GROW_WATER 0 k then m.growPool k
    else m.shrinkPool k

/-! ### Runs (R211) -/

/-- Whether sector `s` of a chunk is in use, by the runs in the frame. -/
def usedAt (runs : List (Nat × Nat)) (v : Nat) : Bool := runs.any fun r => r.1 ≤ v && v < r.1 + r.2

/-- How many sectors are free from a sector on, up to the end of its chunk. -/
def freeFrom (runs : List (Nat × Nat)) (v : Nat) : Nat → Nat
  | 0 => 0
  | n + 1 => if usedAt runs v then 0 else freeFrom runs (v + 1) n + 1

/-- The free runs of a chunk that is partly in use: first sector and length. -/
def chunkRuns (runs : List (Nat × Nat)) (c : Nat) : List (Nat × Nat) :=
  (List.range 64).filterMap fun s =>
    let v := c * 64 + s
    if !usedAt runs v && (s = 0 || usedAt runs (v - 1)) then some (v, freeFrom runs v (64 - s)) else none

/-- The best fit for `n` sectors: the smallest run that is large enough, the lowest among equals. -/
def bestFit (n : Nat) (rs : List (Nat × Nat)) : Option Nat :=
  (rs.foldl (fun b r =>
    if r.2 < n then b
    else
      match b with
      | none => some r
      | some q => if r.2 < q.2 || (r.2 = q.2 && r.1 < q.1) then some r else b) none).map fun r => r.1

/-- A run of `n` sectors of a pool: in a chunk partly in use, else at the start of the lowest free chunk where `opens`
allows it (R211). -/
def Mach.allocRun (m : Mach) (k n : Nat) (opens : Bool) : Option Nat :=
  let fs := m.poolFrames k
  match bestFit n (fs.flatMap fun f => (m.chunksIn f).flatMap fun c => chunkRuns (m.runsIn f) c) with
  | some v => some v
  | none =>
    if opens then
      fs.findSome? fun f =>
        let used := m.chunksIn f
        ((List.range (used.length + 1)).find? fun j =>
          512 + j < 262144 && !used.contains (f * 262144 + 512 + j)).map fun j => (f * 262144 + 512 + j) * 64
    else none

/-! ### Sectors -/

/-- Store one sector of a plot under the plot's key (R209, R218). Its LC32 is over the sector before encryption (R299). -/
def Mach.storeSector (m : Mach) (plot v : Nat) (d : Line) : Mach :=
  let pl := m.realPl v
  let val : LineVal := { data := d, lc := lc32 (lineBytes d) (plWord pl) }
  if m.canalTakes pl then
    m.storeWithRow (plot * 64) pl fun m => m.storeRaw (plot * 64) (plWord pl) pl val ((m.image pl).ver + 1) 4
  else if m.striped (pl / 2 ^ 24) && m.rowServed pl (plot * 64) then
    m.degradedWrite (plot * 64) (plWord pl) pl val 4
  else m.inc Reg.Canal.LOST_WRITES (canalOf pl)

/-- Store sectors from a place on. -/
def Mach.storeSectors (m : Mach) (plot : Nat) : Nat → List Line → Mach
  | _, [] => m
  | v, d :: l => (m.storeSector plot v d).storeSectors plot (v + 1) l

/-- Blank sectors that are not in use any more. -/
def Mach.blankSectors (m : Mach) (v n : Nat) : Mach :=
  m.each (List.range n) fun m k =>
    let pl := m.realPl (v + k)
    (m.putImage pl (blankImage pl)).fixParity pl

/-- The value of a line of a compressed plot as it is stored, without what the merge buffer holds; none where its checks
fail. -/
def Mach.compLine (m : Mach) (line : Nat) : Option LineVal :=
  match m.readComp line [] with
  | (_, .ok v) => some v
  | _ => none

/-- Write a plot's rows as a run: its entry and its directory entry (R214, R222, R223). -/
def Mach.putRows (m : Mach) (plot k v : Nat) (rows : List (Nat × List Line)) (version : Nat) : Mach :=
  let n := (rows.map fun r => r.2.length).sum
  let p := m.plot plot
  let m := m.setPlot plot { p with
    tier := 2, sectors := n, loc := v, version := version, cis := 0 }
  let m := m.setDir plot { kind := 2, enc := rows.map fun r => r.1, cnt := rows.map fun r => r.2.length
                           version := version, sectors := n, loc := v, pool := k }
  (m.storeSectors plot v (rows.flatMap fun r => r.2)).showPool k

/-- A plot's run is released. -/
def Mach.dropRun (m : Mach) (plot : Nat) (v n k : Nat) : Mach :=
  ((m.setDir plot {}).blankSectors v n).showPool k

/-! ### What the caches hold (R192, R204, R205) -/

/-- Show the translation cache. -/
def Mach.showTc (m : Mach) : Mach :=
  let m := m.wr Reg.TransCache.VALID m.st.tc.length
  m.wr Reg.TransCache.LOCKED (m.st.tc.filter fun p => (m.plot p).pinned).length

/-- The CISTERN plots. -/
def Mach.cisPlots (m : Mach) : List (Nat × Plot) := m.st.plots.filter fun e => e.2.tier = 3

/-- The Cistern frames in use: those of CISTERN plots and of the fill that runs. -/
def Mach.cisUsed (m : Mach) : List Nat :=
  (m.cisPlots.map fun e => e.2.cis) ++
  match m.sip.move with
  | some mv => if (mv.op = 1 || mv.op = 5) && (m.plot mv.plot).tier = 1 && mv.expanded then [(m.plot mv.plot).cis] else []
  | none => []

/-- Show the hot tier. -/
def Mach.showTier (m : Mach) : Mach :=
  let m := m.wr Reg.Cistern.TIER_USED m.cisUsed.length
  let m := m.wr Reg.Cistern.PINNED_USED (m.cisPlots.filter fun e => e.2.pinned).length
  m.showTc

/-! ### Lost entries (R191, R229) -/

/-- A plot entry is rebuilt as ZERO with `POISON`; in Twin mode the Siphon restores a mirrored plot from the twin (R191). -/
def Mach.losePlot (m : Mach) (plot : Nat) : Mach :=
  let p := m.plot plot
  let m := m.setPlot plot { tier := 0, poison := true, key := p.key, version := (p.version + 1) % 2 ^ 16, heat := p.heat, epoch := p.epoch }
  let m := m.modSt fun s => { s with cisTier := s.cisTier.filter fun e => p.tier != 3 || e.1 / 64 != p.cis }
  let m := if p.tier = 1 || p.tier = 3 then m.blankPlotFrame p.loc else m
  let m := if p.tier = 2 then m.dropRun plot p.loc p.sectors (m.dir plot).pool else m
  let m := if m.twinMode && tMirror (m.tract (plot / 2 ^ 18)) then { m with sip := { m.sip with auto := m.sip.auto ++ [(plot, 10, 0)] } } else m
  (m.recordPoison (plot * 64) 6).showFrames.showTier

/-- Put plots into a cache of plots. -/
def addPlots (l : List Nat) (ps : List Nat) : List Nat := ps.foldl (fun l p => insertNat p l) l

/-- The plots whose entries lie in the line of a plot. -/
def lineMates (plot : Nat) : List Nat := (List.range 4).map fun j => plot / 4 * 4 + j

/-- The entries that leave a full set of 16 ways for a new one: `evict` names pseudo-LRU's choice, `keep` the entries that are locked (R190,
R192, R215). -/
def setVictim (cache sets : Nat) (keep : Nat → Bool) (evict l : List Nat) (pick p : Nat) : List Nat :=
  if l.length < 16 then []
  else
    let ways := l.filter fun q => Config.cacheSet cache q % sets = Config.cacheSet cache p % sets
    if ways.length < 16 then []
    else
      let free := ways.filter fun q => !keep q
      match free.find? evict.contains with
      | some q => [q]
      | none => (free[pick % 16]?.orElse fun _ => free.head?).toList

/-- Directory entries come into their cache of 16,384 sets of 16 ways (R215). -/
def Mach.cacheDirs (m : Mach) (ps : List Nat) : Mach :=
  m.each ps fun m p =>
    if m.st.dc.contains p then m
    else
      let gone := setVictim 1 16384 (fun _ => false) [] m.st.dc m.fresh.toNat p
      let m := if gone.isEmpty then m else m.nextFree
      m.modSt fun s => { s with dc := insertNat p (s.dc.filter fun q => !gone.contains q) }

/-- Whether the directory entry of a COMPRESSED plot agrees with its plot entry (R214). -/
def Mach.dirAgrees (m : Mach) (p : Nat) : Bool :=
  let e := m.plot p
  let d := m.dir p
  e.tier != 2 || (d.version = e.version && d.sectors = e.sectors && d.loc = e.loc)

/-- The directory line of a plot is fetched in class 1, from the primary or its copy; where both fail, or an entry disagrees with its plot
entry, the entries of compressed plots are lost (R214, R215, R229). -/
def Mach.fetchDir (m : Mach) (plot : Nat) (bad copyBad : Bool) : Mach :=
    let tract := plot / 2 ^ 18
    let n := 131072 + plot % 2 ^ 18 / 4
    let m := m.inc Reg.Flume.DIR_MISSES
    let (m, ok) := (m.asClass 0).readTable tract n 0
    let (m, copy) := if ok && !bad then (m, true) else m.readTable tract (tabCopy n) 0
    let m := m.asClass 2
    let bad := bad || !ok
    if (bad && (copyBad || !copy)) || (lineMates plot).any fun p => !m.dirAgrees p then
      m.each (lineMates plot) fun m p =>
        if (m.plot p).tier = 2 && !m.st.dc.contains p && ((bad && (copyBad || !copy)) || !m.dirAgrees p) then
          ((m.losePlot p).inc Reg.Flume.DIR_LOST).event .flume 0 0x1818 (p % 2 ^ 32) (p / 2 ^ 18)
        else m
    else
      let m := if bad then m.inc Reg.Flume.DIR_COPY_FETCHES else m
      m.cacheDirs (((lineMates plot).filter fun p => p != plot) ++ [plot])

/-- DIR_FETCH_DONE: the directory line of a plot has been fetched (R215). -/
def dirFetchDone (plot : Nat) (bad copyBad : Bool) (m : Mach) : Mach :=
  if tMode (m.entryOf (plot * 64)) != 2 || m.st.dc.contains plot then m else m.fetchDir plot bad copyBad

def execDirFetchDone (t : Nat) (plot : Nat) (bad copyBad : Bool) (s : State) : Out := s.run t (dirFetchDone plot bad copyBad)

/-! ### Decodes for reads (R219 to R221) -/

/-- The reads that wait for a row of a plot, in acceptance order first the oldest. -/
def Mach.rowReads (m : Mach) (plot row : Nat) : List (Nat × Nat × Tag) :=
  let ws := m.tagsWhere fun _ x => x.line / 16 = plot * 4 + row && x.op.reads
  let ws := ws.filter fun e => m.readWaits e.1 e.2.1 e.2.2 && m.translated e.2.2.line
  ws.foldl (fun l e =>
    let older := l.filter fun f => f.2.2.order < e.2.2.order
    let newer := l.filter fun f => e.2.2.order ≤ f.2.2.order
    older ++ [e] ++ newer) []

/-- ROW_DECODE_DONE: a decompress engine has decoded an LZ row; every read that waits for it is answered, and its lines may
fill the line cache (R219, R220). `intl` names the row of R236 whose check fails on the way, or 0 (R237). `wait` is the time a read waited for the engine, `victims` the lines that make room. -/
def rowDecodeDone (plot row wait : Nat) (errs : List (BitVec 640)) (victims : List Nat) (intl : Nat) (m : Mach) : Mach :=
  let line := plot * 64 + 16 * row
  match m.rowReads plot row with
  | [] => m
  | w :: ws =>
    if !m.inLzRow line || m.islandDown 5 then m
    else
      let m := (m.inc Reg.Flume.ROWS_DECODED).peak Reg.Flume.DE_WAIT_PEAK_NS wait
      let was := m
      let (m, t) := (m.asClass w.2.2.readClass w.2.2.hint).readComp line errs
      let m := m.asClass 2
      match t with
      | .ok v =>
        if intl = 7 then (m.internalFail w.2.2.line 7 false).answer w.1 w.2.1 poisonData 2 7
        else if intl != 0 then m.failRead w.1 w.2.1 w.2.2 intl
        else
        let val := fun l => ((was.compLine l).map fun x => { x with poison := v.poison }).getD v
        let fills := if m.flag Reg.Flume.ROW_FILL then (List.range 16).map fun j => line + j
          else ((w :: ws).map fun e => e.2.2.line).eraseDups
        let m := m.each fills.zipIdx fun m e => m.cacheFill e.1 (val e.1) (victims.getD e.2 0) w.2.2.fill
        m.each (w :: ws) fun m e => m.finishRead e.1 e.2.1 (val e.2.2.line) 0 5
      | t => m.takeTry (.read w.1 w.2.1) w.2.2.line w.2.2.order t

def execRowDecodeDone (t : Nat) (plot : Nat) (row : Fin 4) (wait : Nat) (read : RowRead) (victims : List Nat)
    (s : State) : Out :=
  s.run t (rowDecodeDone plot row wait read.errs victims read.intl)

/-! ### Rewrites (R223 to R225) -/

/-- Show how many rewrites wait. -/
def Mach.showRewrites (m : Mach) : Mach := m.wr Reg.Flume.REWRITES_WAITING m.sip.rewrites.length

/-- The physical lines of every sector of a row. -/
def Mach.rowPls (m : Mach) (plot row : Nat) : List Nat :=
  let d := m.dir plot
  if d.kind = 1 then [m.realPl d.loc]
  else (List.range (d.cnt.getD row 0)).map fun k => m.realPl (d.start row + k)

/-- The sectors of a row are read for a rewrite: one as the write's own, in the class `cls` with its hint, the others in class 5 on the
best-effort remainder (R221, R225). The first that fails its checks is answered. -/
def Mach.rowFetch (m : Mach) (plot cls hint : Nat) : List Nat → List (BitVec 640) → Mach × Option Try
  | [], _ => (m, none)
  | pl :: l, errs =>
    let (m, t) := (m.asClass cls hint).readAt (plot * 64) (plWord pl) pl (errs.headD 0)
    match t with
    | .ok _ => (m.debitRest (min 1 l.length)).rowFetch plot 4 hint l errs.tail
    | t => (m, some t)

/-- The lines of a row as they are stored; the line that the rewrite's chain has recovered as it was delivered, poison where the row does not
pass. -/
def Mach.rowCopy (m : Mach) (plot row : Nat) (d : Option ChainEnd) : List LineVal :=
  (List.range 16).map fun j =>
    let line := plot * 64 + 16 * row + j
    match m.compLine line, d with
    | some v, _ => { v with poison := v.poison || m.plotPoison line }
    | none, some d => if d.line = line then d.val else { data := m.fresh, poison := true }
    | none, none => { data := m.fresh, poison := true }

/-- A rewrite of a row begins with the row's lines as `copy`, and takes every merged line of the row that is complete. -/
def Mach.beginRewrite (m : Mach) (plot row : Nat) (copy : List LineVal) : Mach :=
  let es := m.lev.merge.filter fun y => y.2.st = .held && y.2.line / 16 = plot * 4 + row && !m.waitsOrder y.2
  let m := m.each es fun m y => m.setMerge y.1 { y.2 with st := .flume }
  let r : Rewrite := { plot := plot, row := row, entries := es.map fun y => y.1, copy := copy }
  let lz := (m.dir plot).kind = 2 && (m.dir plot).enc.getD row 0 = 1
  let m : Mach := { m with sip := { m.sip with rewrites := m.sip.rewrites ++ [r] } }
  (if lz then m.inc Reg.Flume.ROWS_DECODED else m).nextFree.showRewrites

/-- REWRITE_START: the drain of a line of a compressed plot starts a rewrite of its row, with every merged line of the row that is complete;
one rewrite of a row runs at a time (R223). The row is read and decoded into the rewrite's copy in Flume staging (R224); a sector that fails
runs the recovery chain first (R229, R238). -/
def rewriteStart (e : Nat) (errs : List (BitVec 640)) (m : Mach) : Mach :=
  match m.merge? e with
  | none => m
  | some x =>
    let plot := x.line / 64
    let row := x.line % 64 / 16
    let who : ChainFor := .rewrite plot row
    if x.st != .held || m.place x.line != .comp || !m.translated x.line || m.waitsOrder x || m.islandDown 5 ||
        (m.lev.chains.any fun c => c.2.who = who) || m.sip.rewrites.any fun r => r.plot = plot && r.row = row then m
    else
      match m.lev.done.find? fun d => d.who = who with
      | some d =>
        let m := m.modLev fun y => { y with done := y.done.filter fun q => q.who != who }
        m.beginRewrite plot row (m.rowCopy plot row (some d))
      | none =>
        match m.rowFetch plot (if x.cls2 then 1 else 4) x.hint (m.rowPls plot row) errs with
        | (m, some t) => (m.asClass 2).takeTry who x.line x.order t
        | (m, none) =>
          let m := m.asClass 2
          match m.readComp (plot * 64 + 16 * row) [] with
          | (_, .row f pl) => m.takeTry who x.line x.order (.row f pl)
          | _ => m.beginRewrite plot row (m.rowCopy plot row none)

def execRewriteStart (t : Nat) (e : EntryRead) (s : State) : Out := s.run t (rewriteStart e.entry e.errs)

/-- The lines of a plot after a rewrite's merge entries: its row from the rewrite's copy, the others as they are stored, poison where a
stored row does not pass. -/
def Mach.rewritten (m : Mach) (r : Rewrite) : List LineVal :=
  (List.range 64).map fun n =>
    let line := r.plot * 64 + n
    let stored := (m.compLine line).getD { data := m.fresh, poison := true }
    let base := if n / 16 = r.row then r.copy.getD (n % 16) stored else stored
    (r.entries.filterMap m.merge?).foldl (fun v x =>
      if x.line = line then (applyLogs (if x.base.isSome then x.base else some v) x.logs).getD v else v) base

/-- The entries of a rewrite are stored: the Cistern copies follow and the entries are FREE. -/
def Mach.endRewrite (m : Mach) (r : Rewrite) : Mach :=
  let m := m.each r.entries fun m e =>
    match m.merge? e with
    | some x => (((m.updateCistern x.line x.value).noteStore x.line x.last).freeMerge e)
    | none => m
  let m : Mach := { m with sip := { m.sip with rewrites := m.sip.rewrites.filter fun q => q != r } }
  m.showRewrites

/-- The VER16 that a line of a plot has: its own, or in a COMPRESSED plot that of the first sector it is read from (R234). -/
def Mach.lineVer (m : Mach) (line : Nat) : Nat :=
  match m.place line with
  | .dram pl => (m.image pl).ver
  | .cis _ pl => (m.image pl).ver
  | .comp => ((m.rowSectors line).head?.map fun pl => (m.image pl).ver).getD 0
  | _ => 0

/-- Expand a plot whose lines are known into a plot frame (R186, R223); none where no plot frame is to be had. `fresh` says which lines a
write drain stores, whose VER16 goes up; the others keep theirs (R234). -/
def Mach.expandTo (m : Mach) (plot : Nat) (ls : List LineVal) (fresh : Nat → Bool) : Option Mach :=
  let vers := (List.range 64).map fun n => m.lineVer (plot * 64 + n) + (fresh n).toNat
  let p := m.plot plot
  let d := m.dir plot
  (m.takePlotFrame plot (tStripe (m.tract (plot / 2 ^ 18)))).map fun (m, v) =>
    let m := m.setPlot plot { p with
      tier := 1, loc := v, sectors := 0, version := (p.version + 1) % 2 ^ 16, migrating := false }
    let m := (m.dropPlotFrame v).dropRun plot p.loc p.sectors d.pool
    m.each ls.zipIdx fun m e => m.storeInternal (plot * 64 + e.2) (m.realPl (v + e.2)) e.1 (vers.getD e.2 0)

/-- The rows of a plot after a rewrite: the others as they are stored, the rewritten one encoded anew; a PATTERN plot is
encoded whole (R223). -/
def Mach.newRows (m : Mach) (r : Rewrite) (ls : List Line) (streams : List (List Nat)) : List (Nat × List Line) :=
  let d := m.dir r.plot
  if d.kind = 1 then encodePlot r.plot ls streams
  else
    (List.range 4).map fun i =>
      if i = r.row then encodeRow (r.plot * 64 + 16 * i) (plotRow ls i) (streams.headD [])
      else
        (d.enc.getD i 0, (List.range (d.cnt.getD i 0)).map fun k =>
          let pl := m.realPl (d.start i + k)
          (m.checkImage (r.plot * 64) (plWord pl) pl (m.image pl)).val.data)

/-- The lines that the Canals have written since a machine. -/
def Mach.storesSince (m was : Mach) : Nat :=
  ((List.range 16).map fun c => m.rd Reg.Canal.WR_LINES c - was.rd Reg.Canal.WR_LINES c).sum

/-- A rewrite whose plot is COMPRESSED no more gives its entries back, which drain to where the plot lies now. -/
def Mach.dropRewrite (m : Mach) (r : Rewrite) : Mach :=
  let m := m.each r.entries fun m e =>
    match m.merge? e with
    | some x => if x.st = .flume then m.setMerge e { x with st := .held } else m
    | none => m
  let m : Mach := { m with sip := { m.sip with rewrites := m.sip.rewrites.filter fun q => q != r } }
  m.showRewrites

/-- REWRITE_STORE: one of the 16 compress engines, which take rewrites in acceptance order, has encoded the rewrite of a row; it is stored in
place, moved or expanded (R223, R228). `streams` are the encoder's LZ streams: of the rewritten row, or of the four rows of a PATTERN plot.
`bad` says that the check of Flume's boundary fails: the lines written are stored poisoned (R236, R237). The stores run in class 5 on the
best-effort remainder (R225). -/
def rewriteStore (plot row : Nat) (streams : List (List Nat)) (bad : Bool) (m : Mach) : Mach :=
  match (m.sip.rewrites.take 16).find? fun r => r.plot = plot && r.row = row && !m.islandDown 5 with
  | none => m
  | some r =>
    if (m.plot plot).tier != 2 then m.dropRewrite r
    else
    let p := m.plot plot
    let d := m.dir plot
    let mine := fun n => r.entries.any fun e => (m.merge? e).any fun x => x.line = plot * 64 + n
    let vals := (m.rewritten r).zipIdx.map fun v => if bad && mine v.2 then { v.1 with poison := true } else v.1
    let m := if bad then m.each ((List.range 64).filter mine) fun m n => (m.internalFail (plot * 64 + n) 5 false).recordPoison (plot * 64 + n) 5 else m
    let was := m
    let m := m.asClass 4
    let finish := fun (m : Mach) => ((m.debitRest (m.storesSince was)).asClass 2).endRewrite r
    let ls := vals.map fun v => v.data
    let poison := vals.any fun v => v.poison
    let m := if poison then m.nextFree else m
    let ver := (p.version + 1) % 2 ^ 16
    if !poison && ls.all fun v => v = 0 then
      let m := m.setPlot plot { p with tier := 0, loc := 0, sectors := 0, version := ver, clean := 0 }
      finish (m.dropRun plot p.loc p.sectors d.pool)
    else
      let rows := m.newRows r ls streams
      let n := (rows.map fun q => q.2.length).sum
      let k := m.poolOf (plot / 2 ^ 18)
      if !poison && d.kind = 2 && (rows.getD row (0, [])).2.length ≤ d.cnt.getD row 0 then
        let m := m.putRows plot d.pool p.loc rows p.version
        finish (((m.blankSectors (p.loc + n) (p.sectors - n)).showPool d.pool).inc Reg.Flume.RW_INPLACE)
      else
        let run := if poison || m.act Reg.Flume.KEEP_MAX < n then none else m.allocRun k n true
        match run with
        | some v =>
          let m := (m.blankSectors p.loc p.sectors).putRows plot k v rows ver
          finish ((m.showPool d.pool).inc Reg.Flume.RW_MOVED)
        | none =>
          match m.expandTo plot vals mine with
          | none => was
          | some m =>
            let m := m.inc Reg.Flume.EXPANSIONS
            let m := if poison || m.act Reg.Flume.KEEP_MAX < n then m
              else (m.inc Reg.Flume.DRY_EXPANSIONS).event .flume 0 0x1815 k (plot % 2 ^ 32)
            finish m

def execRewriteStore (t : Nat) (plot : Nat) (row : Fin 4) (enc : Encoded) (s : State) : Out :=
  s.run t (rewriteStore plot row enc.streams enc.bad)

end Sys2Proof.Machine
end

