-- ==== Sys2Proof/Machine/Tracts.lean ====
section
/-! DEFINITION. The storage of a tract: taking it and releasing it (R178, R180, R184, R189), the translation cache, heat
(R190 to R192, R200), the Cistern frames (R193, R195, R199). -/

namespace Sys2Proof.Machine

/-! ### Taking storage (R180, R189) -/

/-- The lowest free slot of the lowest group of striped DIRECT tracts. -/
def Mach.freeSlot (m : Mach) : Option (Nat × Nat) :=
  (m.groupsOf .direct).findSome? fun f0 =>
    ((List.range 15).find? fun s => !(m.st.home.any fun e => e.2.frame = f0 && e.2.slot = s)).map fun s => (f0, s)

/-- The lowest free block of the lowest TABLE frame that has one. -/
def Mach.freeBlock (m : Mach) : Option (Nat × Nat) :=
  let soon := (m.st.frames.filter fun e => e.2.role = 7 && e.2.next = some 5).map fun e => e.1
  (m.framesOf 5 ++ soon).findSome? fun f =>
    ((List.range 64).find? fun b =>
      !(m.st.home.any fun e => tMode (m.tract e.1) != 1 && e.2.frame = f && e.2.slot = 15 && e.2.block = b)).map
      fun b => (f, b)

/-- Note where a tract's storage lies. -/
def Mach.setHome (m : Mach) (n : Nat) (h : Home) : Mach := m.modSt fun s => { s with home := Tbl.put s.home n h }

/-- Whether an entry takes new frames now: 0 none, 1 one frame, 16 a group. -/
def Mach.framesNeeded (m : Mach) (e : Nat) : Nat :=
  match tMode e with
  | 1 => if tStripe e then if m.freeSlot.isSome then 0 else 16 else 1
  | 2 => if m.freeBlock.isSome then 0 else 1
  | _ => 0

/-- Give a tract its storage, from the frame or group `f` where it needs a new one (R180). `drain` says that the frame is
still DRAINING and takes its role when it is blank (R536). -/
def Mach.giveStorage (m : Mach) (n e : Nat) (f : Nat) (drain : Bool) : Mach :=
  let take := fun (m : Mach) (f role owner : Nat) =>
    if drain then
      (m.setFrame f { m.frame f with next := some role }).modSt fun s => { s with waitFrames := Tbl.put s.waitFrames f owner }
    else m.setFrame f { role := role, owner := owner }
  match tMode e with
  | 1 =>
    if tStripe e then
      match m.freeSlot with
      | some (f0, s) => m.setHome n { frame := f0, slot := s }
      | none =>
        let m := if drain then
            (m.each (List.range 16) fun m k => take m (f + k) 2 0).modSt fun s => { s with groups := Tbl.put s.groups (f / 16) .direct }
          else m.newGroup f .direct
        m.setHome n { frame := f, slot := 0 }
    else (take m f 1 n).setHome n { frame := f }
  | 2 =>
    match m.freeBlock with
    | some (f0, b) => m.setHome n { frame := f0, block := b }
    | none => (take m f 5 0).setHome n { frame := f, block := 0 }
  | _ => m

/-! ### Releasing storage (R178, R184) -/

/-- The lines of a slot of a group that goes on are blanked. -/
def Mach.blankSlot (m : Mach) (f0 s : Nat) : Mach :=
  let pls := (m.st.dram.map fun e => e.1).filter fun pl => (rowPlace pl).1 = f0 && (rowPlace pl).2.1 = s
  m.each pls fun m pl => (m.putImage pl (blankImage pl)).fixParity pl

/-- Release what one plot holds. -/
def Mach.dropPlot (m : Mach) (plot : Nat) : Mach :=
  let p := m.plot plot
  let pool := (m.dir plot).pool
  let m := m.setPlot plot {}
  let m := m.modSt fun s => { s with
    cisTier := s.cisTier.filter fun e => p.tier != 3 || e.1 / 64 != p.cis
    tc := s.tc.filter fun x => x != plot
    dc := s.dc.filter fun x => x != plot }
  let m := if p.tier = 1 || p.tier = 3 then m.blankPlotFrame p.loc else m
  if p.tier = 2 then m.dropRun plot p.loc p.sectors pool else m

/-- Release the storage of a tract, its plots, sectors and pins; its poison records go (R183, R184, R246). -/
def Mach.releaseTract (m : Mach) (n e : Nat) : Mach :=
  let h := Tbl.getD m.st.home n {}
  let m :=
    match tMode e with
    | 1 =>
      let m := m.modSt fun s => { s with home := Tbl.del s.home n }
      if h.slot = 15 then m.releaseFrame h.frame none
      else if m.st.home.any fun (x : Nat × Home) => x.2.frame = h.frame && x.2.slot != 15 then m.blankSlot h.frame h.slot
      else m.endGroup h.frame
    | 2 =>
      let m := m.each ((m.st.plots.map fun (x : Nat × Plot) => x.1).filter fun p => p / 2 ^ 18 = n) fun m p => m.dropPlot p
      let base := m.tabPl n 0
      m.modSt fun s => { s with home := Tbl.del s.home n, tabs := s.tabs.filter fun (x : Nat × TabLine) => x.1 < base || base + 262144 ≤ x.1 }
    | _ => m
  let m := m.modSt fun s => { s with cisLines := s.cisLines.filter fun (x : Nat × LineVal) => lineTract x.1 != n }
  (((m.modLev fun x => { x with prec := x.prec.filter fun (q : Prec) => lineTract q.line != n }).showPrec).showCis).showTier

/-- An entry's line is stored at once, its row's parity with it, and the entry is FREE (R21, R184). A COMPRESSED plot expands first. -/
def Mach.storeHeld (m : Mach) (e : Nat) (x : Merge) : Mach :=
  let plot := x.line / 64
  let m := match m.place x.line with
    | .zero => m.zeroToRaw plot
    | .comp =>
      (m.expandTo plot ((List.range 64).map fun n => (m.compLine (plot * 64 + n)).getD { data := m.fresh, poison := true }) fun _ => false).getD m
    | _ => m
  match m.linePl x.line with
  | some pl =>
    let m := m.drainLine e x pl false
    let m := match m.merge? e with
      | some y => match y.drain with | some d => m.rowUpdate [d] false false | none => m
      | none => m
    m.freeMerge e
  | none => m.freeMerge e

/-- What the merge buffer holds of a tract is stored before the tract's entry changes (R21, R184): drains under way complete, rewrites are
made as expansions, partial writes get their old line. -/
def Mach.settleEntries (m : Mach) (n : Nat) : Mach :=
  let mine := fun (m : Mach) (st : MergeState) => m.lev.merge.filter fun e => lineTract e.2.line = n && e.2.st = st
  let m := m.each (mine m .drain) fun m e =>
    (match e.2.drain with | some d => m.rowUpdate [d] false false | none => m).freeMerge e.1
  let m := m.each (mine m .flume) fun m e => m.storeHeld e.1 e.2
  let m : Mach := { m with sip := { m.sip with rewrites := m.sip.rewrites.filter fun r => r.plot / 2 ^ 18 != n } }
  let m := m.showRewrites
  let m := m.each (mine m .fetch) fun m e =>
    match m.tryRead e.2.line [] false with
    | (m, .ok v) => m.finishFetch e.1 v false
    | (m, _) => m.finishFetch e.1 {} true
  m.each (mine m .held) fun m e => m.storeHeld e.1 e.2

/-- Requests accepted before a tract's entry changes complete under the old entry (R184): writes enter the merge buffer, reads are answered
with what is stored, and what the merge buffer holds is stored (R21). -/
def Mach.settleTract (m : Mach) (n : Nat) : Mach :=
  let ts := m.tagsWhere fun _ x => x.st = .accepted && lineTract x.line = n
  let older := fun (l : List (Nat × Nat × Tag)) (e : Nat × Nat × Tag) =>
    (l.filter fun f => f.2.2.order < e.2.2.order) ++ [e] ++ l.filter fun f => e.2.2.order ≤ f.2.2.order
  let m := m.each (ts.foldl older []) fun m e =>
    let (p, g, x) := e
    match m.place x.line with
    | .none => m
    | .remote _ _ => m
    | _ =>
      if x.op.writes then
        if x.point || x.fwd then m
        else
          let w : WrLog := { order := x.order, data := x.data, mask := x.be, poison := x.poison }
          ((m.enterWrite x.entry x.line w).setTag p g { x with point := true }).writePoint p g
      else if m.readWaits p g x then
        match m.tryRead x.line [] false with
        | (m, .ok v) => m.finishRead p g v 0 (m.readStage x.line)
        | (m, _) => m.finishRead p g { poison := true } 2 4
      else m
  m.settleEntries n

/-! ### The translation cache (R190 to R192) -/

/-- Evict entries that are not locked; a changed `HEAT` is written back (R192). -/
def Mach.evictTc (m : Mach) (ps : List Nat) : Mach :=
  let gone := ps.filter fun p => m.st.tc.contains p && !(m.plot p).pinned
  let was := m.st.heatNew
  let back := (gone.filter fun p => was.contains p).length
  let m := m.modSt fun s => { s with
    tc := s.tc.filter fun p => !gone.contains p, heatNew := s.heatNew.filter fun p => !gone.contains p }
  let m := m.each (gone.filter fun p => was.contains p) fun m p => m.storeEntry p false
  (m.inc Reg.TransCache.WRITEBACKS 0 0 back).showTc

/-- `HEAT` of a plot changes, with the epoch of the update; it is written back when the entry is evicted (R185, R192). -/
def Mach.setHeat (m : Mach) (plot h : Nat) : Mach :=
  let p := m.plot plot
  let m := m.setPlot plot { p with heat := h, epoch := m.rd Reg.Siphon.DECAY_EPOCH % 256 }
  if p.heat = h then m else m.modSt fun s => { s with heatNew := insertNat plot s.heatNew }

/-- One more access of a host read to a plot, while automatic moves are on (R200). -/
def Mach.heat (m : Mach) (plot : Nat) : Mach :=
  let h := (m.plot plot).heat
  if m.flag Reg.Siphon.AUTO_EN && h < 255 then m.setHeat plot (h + 1) else m

/-- An automatic move of a plot waits for the Siphon (R200). -/
def Mach.wantAuto (m : Mach) (plot op : Nat) : Mach :=
  if m.sip.auto.any fun a => a.1 = plot then m
  else { m with sip := { m.sip with auto := m.sip.auto ++ [(plot, op, 0)] } }

/-- The Siphon judges an entry that it updates (R200). -/
def Mach.judgeHeat (m : Mach) (plot : Nat) : Mach :=
  let p := m.plot plot
  let e := m.tract (plot / 2 ^ 18)
  if !m.flag Reg.Siphon.AUTO_EN || !m.enabled .siphon || p.migrating then m
  else if m.flag Reg.Siphon.AUTO_PROMOTE && m.act Reg.Siphon.HOT_THRESH ≤ p.heat && (p.tier = 1 || p.tier = 2) then
    m.wantAuto plot 1
  else if p.tier = 2 && m.act Reg.Siphon.WARM_THRESH ≤ p.heat then m.wantAuto plot 4
  else if m.flag Reg.Siphon.AUTO_COMPRESS && tCompress e && p.tier = 1 && p.heat = 0 then m.wantAuto plot 3
  else m

/-- An entry is fetched: its heat decays by the epochs that have passed (R200). -/
def Mach.decay (m : Mach) (plot : Nat) : Mach :=
  let p := m.plot plot
  let now := m.rd Reg.Siphon.DECAY_EPOCH % 256
  m.setHeat plot (p.heat / 2 ^ min 8 ((now + 256 - p.epoch) % 256))

/-- Look a line up for a host request (R190, R200, R215). -/
def Mach.lookup (m : Mach) (line : Nat) (read : Bool) : Mach :=
  let plot := line / 64
  if tMode (m.entryOf line) != 2 || !m.st.tc.contains plot then m
  else
    let m := m.inc Reg.TransCache.HITS
    let m := if read then (m.heat plot).judgeHeat plot else m
    if (m.plot plot).tier = 2 && m.st.dc.contains plot then m.inc Reg.Flume.DIR_HITS else m

/-- Whether a guaranteed read of a line keeps its promise, as far as is known when it is accepted (R131): a MANAGED line whose plot entry is
not at hand is judged when the entry is fetched; the owner of a remote line judges it there. -/
def Mach.eligible (m : Mach) (line : Nat) : Bool :=
  match tMode (m.entryOf line) with
  | 0 => false
  | 2 => (m.plot (line / 64)).pinned || !m.st.tc.contains (line / 64)
  | _ => true

/-- Entries come into the translation cache of 98,304 sets of 16 ways; each takes the place of one that is not locked, where its set is full
(R190, R192). -/
def Mach.cachePlots (m : Mach) (evict : List Nat) (ps : List Nat) : Mach :=
  m.each (ps.filter fun p => !m.st.tc.contains p) fun m p =>
    let gone := setVictim 0 98304 (fun q => (m.plot q).pinned) evict m.st.tc m.fresh.toNat p
    let m := if gone.isEmpty then m else m.nextFree.evictTc gone
    m.modSt fun s => { s with tc := insertNat p s.tc }

/-- The accepted guaranteed reads of plots whose entries are now at hand lose their promise where the plot is not pinned (R131). -/
def Mach.demoteFound (m : Mach) (ps : List Nat) : Mach :=
  let rs := m.tagsWhere fun p x => p != 5 && x.st = .accepted && x.op.reads && x.guar && ps.contains (x.line / 64)
  m.each rs fun m e => if m.eligible e.2.2.line then m else m.demoteAt e.1 e.2.1 e.2.2

/-- TRANSLATION_FETCH_DONE: the primary line of a plot entry, or its copy, is fetched in class 1 and brings in four entries; where both fail
their checks the entries are lost. `ns` is the length of the miss, `bad` and `copyBad` say that what arrives of a line fails its check, `next`
that the next line is prefetched as best-effort work, `evict` names pseudo-LRU's choices (R190 to R192). The directory line of a tract with
`COMPRESS` = 1 is fetched in parallel (R215). -/
def translationFetchDone (plot ns : Nat) (bad copyBad next : Bool) (evict : List Nat) (m : Mach) : Mach :=
  if tMode (m.tract (plot / 2 ^ 18)) != 2 || m.st.tc.contains plot then m
  else
    let tract := plot / 2 ^ 18
    let n := plot % 2 ^ 18 / 4
    let m := (m.inc Reg.TransCache.MISSES).peak Reg.TransCache.MISS_PEAK_NS ns
    let (m, read) := (m.asClass 0).readTable tract n 0
    let (m, copy) := if read && !bad then (m, true) else m.readTable tract (tabCopy n) 0
    let m := m.asClass 2
    let first := read && !bad
    let second := copy && !copyBad
    let m := if !first && second then m.inc Reg.TransCache.COPY_FETCHES else m
    let news := (lineMates plot).filter fun p => !m.st.tc.contains p
    let m := if !first && !second then
        m.each news fun m p =>
          ((m.losePlot p).inc Reg.TractTable.ENTRY_LOST).event .tractTable 0 0x1013 (p % 2 ^ 32) (p / 2 ^ 18)
      else m
    let ahead := next && m.flag Reg.TransCache.PREFETCH_EN && (plot / 4 + 1) * 4 / 2 ^ 18 = tract
    let (m, there) := if ahead then (m.asClass 4).readTable tract (n + 1) 0 else (m, false)
    let m := m.asClass 2
    let more := if there then (lineMates ((plot / 4 + 1) * 4)).filter fun p => !m.st.tc.contains p else []
    let m := (m.each (news ++ more) fun m p => m.decay p).cachePlots evict (((news ++ more).filter fun p => p != plot) ++ [plot])
    let waits := m.tagsWhere fun p x => p < 4 && x.st = .accepted && x.op.reads && x.line / 64 = plot
    let m := m.each waits fun m _ => m.heat plot
    let m := m.each (news ++ more) fun m p => m.judgeHeat p
    let m := if tCompress (m.tract tract) && !m.st.dc.contains plot then m.fetchDir plot false false else m
    (m.demoteFound (news ++ more)).showTc

def execTranslationFetchDone (t : Nat) (plot ns : Nat) (bad copyBad next : Bool) (evict : List Nat) (s : State) : Out :=
  s.run t (translationFetchDone plot ns bad copyBad next evict)

/-- TC_FLUSH: a flush of every unlocked entry starts (R192). -/
def execTcFlush (t : Nat) (src : Source) (s : State) : Out :=
  s.run t fun m => m.stageWrite .transCache 0 src fun m => m.setFsm .transCache 1

/-- TC_FLUSH_DONE: every unlocked entry has been evicted (R192). -/
def tcFlushDone (m : Mach) : Mach :=
  if m.fsm .transCache = 1 then (m.evictTc m.st.tc).setFsm .transCache 0 else m

def execTcFlushDone (t : Nat) (s : State) : Out := s.run t tcFlushDone

/-- DECAY_EPOCH_ADVANCE: `DECAY_TURNS` turns have passed (R200). -/
def decayEpochAdvance (m : Mach) : Mach :=
  if m.act Reg.Siphon.DECAY_TURNS ≤ m.sip.decayTurns then
    let m : Mach := { m with sip := { m.sip with decayTurns := 0 } }
    m.inc Reg.Siphon.DECAY_EPOCH
  else m

def execDecayEpochAdvance (t : Nat) (s : State) : Out := s.run t decayEpochAdvance

/-! ### Cistern frames (R193, R195, R199) -/

/-- A CISTERN plot returns to RAW: its frame is dropped, its plot frame is current (R195, R196). -/
def Mach.demote (m : Mach) (plot : Nat) : Mach :=
  let p := m.plot plot
  let m := m.setPlot plot { p with tier := 1, cis := 0, pinned := false, version := (p.version + 1) % 2 ^ 16 }
  (m.modSt fun s => { s with cisTier := s.cisTier.filter fun e => e.1 / 64 != p.cis }).showTier

/-- The coldest unpinned CISTERN plot, the lowest-numbered among equals. -/
def Mach.coldest (m : Mach) : Option Nat :=
  ((m.cisPlots.filter fun e => !e.2.pinned).foldl (fun b e =>
    match b with
    | none => some e
    | some (q : Nat × Plot) => if e.2.heat < q.2.heat then some e else b) none).map fun e => e.1

/-- The lowest free hot-tier frame. -/
def Mach.freeCis (m : Mach) : Option Nat :=
  let used := m.cisUsed
  if used.length < m.act Reg.Cistern.TIER_FRAMES then
    (List.range (used.length + 1)).find? fun f => !used.contains f
  else none

/-- A commit has changed `TIER_FRAMES`: plots beyond it return to RAW from the coldest up, and the line cache is empty
(R195). -/
def Mach.tierChanged (m : Mach) : Mach :=
  let was := m.cisPlots.length
  let m := m.each (List.range (m.cisUsed.length - m.act Reg.Cistern.TIER_FRAMES)) fun m _ =>
    match m.coldest with
    | some p => (m.demote p).inc Reg.Cistern.DEMOTED_BY_SHRINK
    | none => m
  let n := was - m.cisPlots.length
  let m := (m.modSt fun s => { s with cisLines := [] }).showCis
  if n = 0 then m else m.event .cistern 0 0x1411 n (m.act Reg.Cistern.TIER_FRAMES)

end Sys2Proof.Machine
end

