-- ==== Sys2Proof/Machine/Siphon.lean ====
section
/-! DEFINITION. The Siphon: its command queue, plot moves, tract moves (R196 to R201, R206 to R208, R222). -/

namespace Sys2Proof.Machine

/-- Change the Siphon's own state. -/
def Mach.modSip (m : Mach) (f : SiphonX → SiphonX) : Mach := { m with sip := f m.sip }

/-- Show the queue and the state machine (R206, R207). -/
def Mach.showSip (m : Mach) : Mach :=
  let m := m.wr Reg.Siphon.QUEUE_DEPTH m.sip.queue.length
  m.setFsm .siphon
    (if m.halted .siphon then 3 else if m.flag Reg.Siphon.TM_ACTIVE then 2
     else if m.sip.queue.isEmpty && m.sip.move.isNone then 0 else 1)

/-! ### Commands (R207) -/

/-- The command in the registers is queued, or ignored and counted (R207). -/
def Mach.sipGo (m : Mach) : Mach :=
  let op := m.rd Reg.Siphon.CMD_OP
  let c : SipCmd :=
    { op := op, plot := m.rd Reg.Siphon.CMD_PLOT, count := m.rd Reg.Siphon.CMD_COUNT
      slot := m.rd Reg.Siphon.CMD_PEER_SLOT, peer := m.rd Reg.Siphon.CMD_PEER_TRACT
      mode := m.rd Reg.Siphon.CMD_MODE, tag := m.rd Reg.Siphon.CMD_TAG }
  if 16 ≤ m.sip.queue.length || !m.enabled .siphon || op = 0 || 9 < op ||
      (8 ≤ op && m.sip.queue.any fun q => 8 ≤ q.op) then m.inc Reg.Siphon.CMD_REJECTS
  else
    let first := m.sip.queue.isEmpty
    let m := m.modSip fun x => { x with queue := x.queue ++ [c] }
    (if first then m.modSip fun x => { x with nextPlot := c.plot, skipped := false, again := [] } else m).showSip

/-- A write of the register 0x120 with `CMD_GO` = 1; a peer slot or a mode that the table does not list leaves its field as it was
(R4). -/
def Mach.sipCmd (m : Mach) (op slot peer mode tag : Nat) : Mach :=
  let m := (m.wrLive Reg.Siphon.CMD_OP op).wrLive Reg.Siphon.CMD_PEER_SLOT slot
  (((m.wrLive Reg.Siphon.CMD_PEER_TRACT peer).wrLive Reg.Siphon.CMD_MODE mode).wrLive Reg.Siphon.CMD_TAG tag).sipGo

/-- SIPHON_PROMOTE (R196). -/
def execSiphonPromote (t : Nat) (src : Source) (tag : Nat) (s : State) : Out :=
  s.run t fun m => m.stageWrite .siphon 0 src fun m => m.sipCmd 1 0 0 0 tag

/-- SIPHON_DEMOTE (R196). -/
def execSiphonDemote (t : Nat) (src : Source) (tag : Nat) (s : State) : Out :=
  s.run t fun m => m.stageWrite .siphon 0 src fun m => m.sipCmd 2 0 0 0 tag

/-- SIPHON_COMPRESS (R196). -/
def execSiphonCompress (t : Nat) (src : Source) (tag : Nat) (s : State) : Out :=
  s.run t fun m => m.stageWrite .siphon 0 src fun m => m.sipCmd 3 0 0 0 tag

/-- SIPHON_EXPAND (R196). -/
def execSiphonExpand (t : Nat) (src : Source) (tag : Nat) (s : State) : Out :=
  s.run t fun m => m.stageWrite .siphon 0 src fun m => m.sipCmd 4 0 0 0 tag

/-- SIPHON_PIN (R196). -/
def execSiphonPin (t : Nat) (src : Source) (tag : Nat) (s : State) : Out :=
  s.run t fun m => m.stageWrite .siphon 0 src fun m => m.sipCmd 5 0 0 0 tag

/-- SIPHON_UNPIN (R196). -/
def execSiphonUnpin (t : Nat) (src : Source) (tag : Nat) (s : State) : Out :=
  s.run t fun m => m.stageWrite .siphon 0 src fun m => m.sipCmd 6 0 0 0 tag

/-- SIPHON_DISCARD (R196). -/
def execSiphonDiscard (t : Nat) (src : Source) (tag : Nat) (s : State) : Out :=
  s.run t fun m => m.stageWrite .siphon 0 src fun m => m.sipCmd 7 0 0 0 tag

/-- SIPHON_TRACT_OUT (R201). -/
def execSiphonTractOut (t : Nat) (src : Source) (slot : Fin 8) (peer tag : Nat) (s : State) : Out :=
  s.run t fun m => m.stageWrite .siphon 0 src fun m => m.sipCmd 8 slot peer 0 tag

/-- SIPHON_TRACT_IN (R201). -/
def execSiphonTractIn (t : Nat) (src : Source) (slot : Fin 8) (peer : Nat) (mode : Fin 4) (tag : Nat) (s : State) : Out :=
  s.run t fun m => m.stageWrite .siphon 0 src fun m => m.sipCmd 9 slot peer mode tag

/-- The command at the head ends with a result (R207, R208). -/
def Mach.endCmd (m : Mach) (result : Nat) : Mach :=
  match m.sip.queue with
  | [] => m
  | c :: rest =>
    let m := m.modSip fun x => { x with
      queue := rest, again := [], skipped := false, nextPlot := (rest.head?.map fun q => q.plot).getD 0 }
    let m := ((m.wr Reg.Siphon.LAST_TAG c.tag).wr Reg.Siphon.LAST_RESULT result).inc Reg.Siphon.CMDS_DONE
    let m := m.showSip
    if c.op < 8 then m.event .siphon 0 0x1014 c.tag result
    else m.event .siphon 0 0x1015 (c.plot / 2 ^ 18 + (if c.op = 9 then 65536 else 0)) result

/-! ### Plot moves (R196 to R199) -/

/-- The running move is over; the plot is not MIGRATING any more. -/
def Mach.clearMove (m : Mach) (plot : Nat) : Mach :=
  let m := m.setPlot plot { m.plot plot with migrating := false }
  ((m.modSip fun x => { x with move := none }).stepFree 0).showSip

/-- A plot move completes. -/
def Mach.moveDone (m : Mach) (plot : Nat) : Mach := (m.clearMove plot).inc Reg.Siphon.MOVES_DONE

/-- The new storage of a move that is not made is released. -/
def Mach.dropNew (m : Mach) (mv : SipMove) : Mach :=
  if Tbl.find m.st.plotFrames mv.newLoc = some mv.plot then (m.blankPlotFrame mv.newLoc).dropPlotFrame mv.newLoc else m

/-- A move ends without effect: it is tried again in the next pass, and skipped after 8 abandonments (R197). -/
def Mach.abandon (m : Mach) (mv : SipMove) : Mach :=
  let m := ((m.dropNew mv).clearMove mv.plot).inc Reg.Siphon.ABANDONED
  let n := mv.tries + 1
  if 8 ≤ n then
    let tag := if mv.auto then 0xFFFF else (m.sip.queue.head?.map fun c => c.tag).getD 0xFFFF
    let m := if mv.auto then m else m.modSip fun x => { x with skipped := true }
    (m.inc Reg.Siphon.HOT_SKIPS).event .siphon 0 0x1016 (mv.plot % 2 ^ 32) tag
  else if mv.auto then m.modSip fun x => { x with auto := x.auto ++ [(mv.plot, mv.op, n)] }
  else m.modSip fun x => { x with again := x.again ++ [(mv.plot, n)] }

/-- There is no room for a plot: the command ends, an automatic move skips the plot (R188, R199). -/
def Mach.noRoom (m : Mach) (auto : Bool) : Mach := if auto then m else m.endCmd 1

/-- Whether a write to a plot was accepted after an order (R197). -/
def Mach.plotWritten (m : Mach) (plot order : Nat) : Bool :=
  (m.lev.merge.any fun e => e.2.line / 64 = plot && order < e.2.order) ||
  (List.range 64).any fun n => m.writtenSince (plot * 64 + n) (order + 1)

/-- Whether Flume compresses for the Siphon (R228). -/
def Mach.flumeRuns (m : Mach) : Bool := m.enabled .flume && !m.quiet .flume && !m.islandDown 5

/-- Whether a tract's pool takes compressions (R212, R226). -/
def Mach.poolTakes (m : Mach) (k : Nat) : Bool :=
  m.act Reg.Flume.POOL_MAX_FRAMES 0 k != 0 && !m.tight k (m.freeSectors k)

/-- A fill begins: the plot gets its Cistern frame (R198). -/
def Mach.beginFill (m : Mach) (mv : SipMove) (f : Nat) : Mach :=
  let m := m.setPlot mv.plot { m.plot mv.plot with migrating := true, cis := f }
  ((m.modSip fun x => { x with move := some { mv with expanded := true, atLine := 0, newLoc := 0, written := 0 } }).showTier).showSip

/-- The Cistern frame for a fill: a free one; for a PIN or an automatic PROMOTE the coldest unpinned plot makes room
(R199, R200). -/
def Mach.cisFrameFor (m : Mach) (mv : SipMove) : Mach × Option Nat :=
  match m.freeCis with
  | some f => (m, some f)
  | none =>
    if mv.op = 5 || mv.auto then
      match m.coldest with
      | some p => let m := m.demote p; (m, m.freeCis)
      | none => (m, none)
    else (m, none)

/-- Fill a RAW plot, where there is room. -/
def Mach.fillRaw (m : Mach) (mv : SipMove) : Mach :=
  if mv.op = 5 && m.act Reg.Cistern.PIN_MAX ≤ m.rd Reg.Cistern.PINNED_USED then (m.clearMove mv.plot).noRoom mv.auto
  else
    match m.cisFrameFor mv with
    | (m, some f) => m.beginFill mv f
    | (m, none) => (m.clearMove mv.plot).noRoom mv.auto

/-- An expansion begins: the plot gets a plot frame (R188, R196). -/
def Mach.beginExpand (m : Mach) (mv : SipMove) : Mach :=
  if !m.abovePlotReserve 1 then m.noRoom mv.auto
  else
    match m.takePlotFrame mv.plot (tStripe (m.tract (mv.plot / 2 ^ 18))) with
    | none => m.noRoom mv.auto
    | some (m, v) =>
      let m := m.setPlot mv.plot { m.plot mv.plot with migrating := true }
      (m.modSip fun x => { x with move := some { mv with newLoc := v } }).showSip

/-- The content of a plot goes: storage and pin are released and its lines read as zero; writes accepted before do not
come back (R196). -/
def Mach.discard (m : Mach) (plot : Nat) : Mach :=
  let p := m.plot plot
  let es := m.lev.merge.filter fun e => e.2.line / 64 = plot && (e.2.st = .held || e.2.st = .fetch)
  let m := m.each es fun m e => m.freeMerge e.1
  let m := (m.dropPlot plot).setPlot plot
    { key := p.key, heat := p.heat, epoch := p.epoch, version := if p.tier = 0 then p.version else (p.version + 1) % 2 ^ 16 }
  let m := m.modSt fun s => { s with cisLines := s.cisLines.filter fun (x : Nat × LineVal) => x.1 / 64 != plot }
  let m := if p.tier = 0 then m else m.cachePlots [] [plot]
  ((m.showTier).showFrames).inc Reg.Siphon.MOVES_DONE

/-- Handle one plot of a command or an automatic policy; op 10 restores a lost plot from the twin (R191). -/
def Mach.startPlot (m : Mach) (op plot tries : Nat) (auto : Bool) : Mach :=
  let p := m.plot plot
  let e := m.tract (plot / 2 ^ 18)
  let mv : SipMove := { op := op, plot := plot, tries := tries, auto := auto }
  match op with
  | 1 => if p.tier = 1 then m.fillRaw mv else if p.tier = 2 then m.beginExpand mv else m
  | 2 => if p.tier = 3 && !p.pinned then (m.demote plot).inc Reg.Siphon.MOVES_DONE else m
  | 3 =>
    if p.tier != 1 || !tCompress e then m
    else if !m.flumeRuns || !m.poolTakes (m.poolOf (plot / 2 ^ 18)) then m.noRoom auto
    else
      let m := m.setPlot plot { p with migrating := true }
      (m.modSip fun x => { x with move := some mv }).showSip
  | 4 => if p.tier = 2 then m.beginExpand mv else m
  | 5 =>
    if p.tier = 3 then
      if p.pinned then m
      else if m.act Reg.Cistern.PIN_MAX ≤ m.rd Reg.Cistern.PINNED_USED then m.noRoom auto
      else
        let m := m.setPlot plot { p with pinned := true }
        ((m.cachePlots [] [plot]).showTier).inc Reg.Siphon.MOVES_DONE
    else if p.tier = 1 then m.fillRaw mv
    else if p.tier = 2 then m.beginExpand mv
    else m
  | 6 => if p.pinned then ((m.setPlot plot { p with pinned := false }).showTier).inc Reg.Siphon.MOVES_DONE else m
  | 7 => m.discard plot
  | 10 => if p.tier = 0 && p.poison then m.beginExpand mv else m
  | _ => m

/-! ### Lines of a move -/

/-- Read a line for the Siphon, with what the merge buffer holds of it; none while its chain is at work. -/
def Mach.sipRead (m : Mach) (line : Nat) (errs : List (BitVec 640)) (cisBad : Bool) : Mach × Option LineVal :=
  match m.lev.done.find? fun d => d.who = .siphon && d.line = line with
  | some d =>
    let m := m.modLev fun x => { x with done := x.done.filter fun q => q.who != .siphon }
    (m, some ((m.mergedVal line m.order (some d.val)).getD d.val))
  | none =>
    if m.lev.chains.any fun c => c.2.who = .siphon then (m, none)
    else
      match m.tryRead line errs cisBad with
      | (m, .ok v) => (m, some ((m.mergedVal line m.order (some v)).getD v))
      | (m, t) => (m.takeTry .siphon line m.order t, none)

/-- The entry of a filled plot becomes CISTERN (R198). -/
def Mach.fillEnd (m : Mach) (mv : SipMove) : Mach :=
  let p := m.plot mv.plot
  let m := m.setPlot mv.plot { p with
    tier := 3, pinned := mv.op = 5, migrating := false, version := (p.version + 1) % 2 ^ 16 }
  let m := if mv.op = 5 then m.cachePlots [] [mv.plot] else m
  (m.moveDone mv.plot).showTier

/-- An expansion's 64 lines stand in the new place (R197). -/
def Mach.expandEnd (m : Mach) (mv : SipMove) : Mach :=
  if m.plotWritten mv.plot mv.firstOrder then m.abandon mv
  else
    let p := m.plot mv.plot
    let d := m.dir mv.plot
    let m := m.setPlot mv.plot { p with
      tier := 1, loc := mv.newLoc, sectors := 0, migrating := false, poison := false, version := (p.version + 1) % 2 ^ 16 }
    let m := m.dropPlotFrame mv.newLoc
    let m := if p.tier = 2 then m.dropRun mv.plot p.loc p.sectors d.pool else m.showFrames
    if mv.op = 4 || mv.op = 10 then m.moveDone mv.plot else m.fillRaw { mv with newLoc := 0 }

/-- The move goes on to a line. -/
def Mach.moveTo (m : Mach) (mv : SipMove) (n : Nat) : Mach :=
  let m := m.modSip fun x => { x with move := some { mv with atLine := n } }
  if n < 64 then m
  else if mv.op = 3 then m
  else if !mv.expanded && ((m.plot mv.plot).tier = 2 || mv.op = 10) then m.expandEnd { mv with atLine := n }
  else m.fillEnd { mv with atLine := n }

/-- One line of the running move is a step of kind 0 (R94, R163, R197, R198, R222). -/
def Mach.moveLine (m : Mach) (mv : SipMove) (errs : List (BitVec 640)) (cisBad : Bool) : Mach :=
  let n := mv.atLine
  let line := mv.plot * 64 + n
  let p := m.plot mv.plot
  let mv := if n = 0 && !m.stepOn 0 then { mv with firstOrder := m.order } else mv
  if 64 ≤ n then m
  else if !mv.expanded && mv.op != 3 && p.tier != 2 && !(mv.op = 10 && p.tier = 0) then m.abandon mv
  else if mv.expanded && mv.written.testBit n then m.moveTo mv (n + 1)
  else
    match m.stepStart 0 line 0 1 with
    | none => m.stepWait 0 1
    | some m =>
    match (m.modSip fun x => { x with move := some mv }).sipRead line errs cisBad with
    | (m, none) => m
    | (m, some v) =>
      let m := m.stepFree 0
      let m := if n % 16 = 0 && m.inLzRow line then m.inc Reg.Flume.ROWS_DECODED else m
      if mv.op = 3 then
        if v.poison then
          ((m.inc Reg.Flume.POISON_SKIPS).event .flume 0 0x1819 (mv.plot % 2 ^ 32) n).abandon mv
        else m.moveTo { mv with vals := mv.vals ++ [v] } (n + 1)
      else if !mv.expanded then
        (m.storeInternal line (m.realPl (mv.newLoc + n)) v (if p.tier = 2 then m.lineVer line else 0)).moveTo mv (n + 1)
      else
        let m := if v.poison || m.islandDown 12 then m
          else m.modSt fun s => { s with cisTier := Tbl.put s.cisTier (p.cis * 64 + n) (freshVal line v.data false) }
        m.moveTo mv (n + 1)

/-! ### Tract moves (R201) -/

/-- The device behind a peer slot, where the slot is valid and the device reachable. -/
def Mach.peerDev (m : Mach) (slot : Nat) : Option Nat :=
  if slot != 0 && m.act Reg.TractTable.PEER_VALID 0 (slot - 1) != 0 && m.reachable (m.act Reg.TractTable.PEER_ID 0 (slot - 1)) then
    some (m.act Reg.TractTable.PEER_ID 0 (slot - 1))
  else none

/-- The entry of a tract after a TRACT_IN: local in a mode, without peer fields. -/
def entryIn (e mode : Nat) : Nat := e % 2 ^ 18 - tMode e + mode

/-- The entry of a tract after a TRACT_OUT: REMOTE, `COMPRESS` 0. -/
def entryOut (e slot peer : Nat) : Nat :=
  let e := e % 2 ^ 18
  (if tCompress e then e - 32 else e) - tMode e + 3 + slot * 2 ^ 18 + peer * 2 ^ 21

/-- Replace a tract's ACTIVE entry. -/
def Mach.setTract (m : Mach) (n e : Nat) : Mach :=
  m.modSt fun s => { s with tracts := Tbl.putD s.tracts n e 0 }

/-- A tract move starts (R201). -/
def Mach.startTract (m : Mach) (c : SipCmd) : Mach :=
  let n := c.plot / 2 ^ 18
  let e := m.tract n
  if (if c.op = 8 then tMode e != 1 && tMode e != 2 else tMode e != 3 || (c.mode != 1 && c.mode != 2)) then m.endCmd 2
  else if (m.peerDev c.slot).isNone then m.endCmd 4
  else
    let k := if c.op = 9 then m.framesNeeded (entryIn e c.mode) else 0
    let f := if k = 16 then m.freeGroups.head? else m.freeFrames.head?
    if k != 0 && (f.isNone || !m.abovePlotReserve (k * 262144)) then m.endCmd 1
    else
      let m := if c.op = 9 then (m.giveStorage n (entryIn e c.mode) (f.getD 0) false).showFrames else m
      let m := ((m.wr Reg.Siphon.TM_ACTIVE 1).wr Reg.Siphon.TM_TRACT n).wb Reg.Siphon.TM_DIR (c.op = 9)
      let m := (m.wr Reg.Siphon.TM_BOUNDARY 0).modSip fun x => { x with
        tmEnd := none, tmPoison := false, tmRead := none, tmLogs := [], tmOut := [], tmAgain := [], atEnd := false }
      m.showSip

/-- A tract move stops before its end: the tract keeps its mode and content (R201). -/
def Mach.tmStop (m : Mach) (c : SipCmd) (result : Nat) : Mach :=
  let n := c.plot / 2 ^ 18
  let m := if c.op = 9 then (m.releaseTract n (entryIn (m.tract n) c.mode)).showFrames else m
  let m := (m.wr Reg.Siphon.TM_ACTIVE 0).modSip fun x => { x with tmEnd := none, tmRead := none, tmLogs := [], tmOut := [], tmAgain := [], atEnd := false }
  m.endCmd result

/-- A running tract move whose peer is a device stops with NOROUTE (R201). -/
def Mach.tmLost (m : Mach) (dev : Nat) : Mach :=
  match m.sip.queue with
  | c :: _ =>
    if m.flag Reg.Siphon.TM_ACTIVE && m.act Reg.TractTable.PEER_ID 0 (c.slot - 1) = dev then m.tmStop c 4 else m
  | [] => m

/-- The boundary of a tract move advances. -/
def Mach.tmAdvance (m : Mach) : Mach :=
  let b := m.rd Reg.Siphon.TM_BOUNDARY + 1
  if b < 2 ^ 24 then m.wr Reg.Siphon.TM_BOUNDARY b
  else (m.wr Reg.Siphon.TM_BOUNDARY (2 ^ 24 - 1)).modSip fun x => { x with atEnd := true }

/-- Store a line of the tract that a TRACT_IN brings in (R201); none where a plot finds no frame. -/
def Mach.tmStore (m : Mach) (c : SipCmd) (line : Nat) (v : LineVal) : Option Mach :=
  let n := lineTract line
  let h := Tbl.getD m.st.home n {}
  let i := line % 2 ^ 24
  if c.mode = 1 then
    let pl := if h.slot = 15 then h.frame * 2 ^ 24 + i else stripePl h.frame h.slot i
    if v.data = 0 && !v.poison && (m.image pl).blank then some m else some (m.storeInternal line pl v (m.image pl).ver)
  else
    let plot := line / 64
    let p := m.plot plot
    if p.tier = 1 then
      let pl := m.realPl (p.loc + line % 64)
      some (m.storeInternal line pl v (m.image pl).ver)
    else if v.data = 0 && !v.poison then some m
    else
      (m.takePlotFrame plot (tStripe (m.tract n))).map fun (m, loc) =>
        let m := m.setPlot plot { p with tier := 1, loc := loc, key := tKey (m.tract n), version := (p.version + 1) % 2 ^ 16 }
        (m.dropPlotFrame loc).storeInternal line (m.realPl (loc + line % 64)) v 0

/-- Where a line of the tract that a TRACT_IN brings in lies in the local storage; none in a plot that holds nothing yet. -/
def Mach.tmPl (m : Mach) (c : SipCmd) (line : Nat) : Option Nat :=
  let h := Tbl.getD m.st.home (lineTract line) {}
  let i := line % 2 ^ 24
  if c.mode = 1 then some (if h.slot = 15 then h.frame * 2 ^ 24 + i else stripePl h.frame h.slot i)
  else
    let p := m.plot (line / 64)
    if p.tier = 1 then some (m.realPl (p.loc + line % 64)) else none

/-- A line below the boundary of a TRACT_IN as the local storage holds it. -/
def Mach.tmLine (m : Mach) (c : SipCmd) (line : Nat) : LineVal :=
  match m.tmPl c line with
  | some pl =>
    let s := m.checkImage line (dpaWord line) pl (m.image pl)
    if s.ok then s.val else { data := m.fresh, poison := true }
  | none => {}

/-- A write to a tract that a TRACT_IN brings in, beside its way to the peer: below the boundary it is stored here too; one to the line
that is being copied waits for the copy (R109, R201). -/
def Mach.tmWrite (m : Mach) (line : Nat) (w : WrLog) : Mach :=
  match m.sip.queue with
  | c :: _ =>
    if m.flag Reg.Siphon.TM_ACTIVE && c.op = 9 && m.rd Reg.Siphon.TM_TRACT = lineTract line then
      let b := m.rd Reg.Siphon.TM_BOUNDARY
      if m.sip.atEnd || line % 2 ^ 24 < b then
        let v := w.apply (m.tmLine c line)
        match m.tmStore c line (freshVal line v.data v.poison) with
        | some m => m
        | none => m.tmStop c 1
      else if line % 2 ^ 24 = b && m.sip.tmRead.isSome then m.modSip fun x => { x with tmLogs := x.tmLogs ++ [w] }
      else m
    else m
  | [] => m

/-- A line that a TRACT_IN has asked for is here (R201, R207). Writes that were on their way to the peer when it was asked for, or were
accepted since, are laid over it (R109). -/
def Mach.tmArrive (m : Mach) (v : LineVal) : Mach :=
  match m.sip.queue with
  | [] => m
  | c :: _ =>
    let line := m.rd Reg.Siphon.TM_TRACT * 2 ^ 24 + m.rd Reg.Siphon.TM_BOUNDARY
    let v := m.sip.tmLogs.foldl (fun v w => w.apply v) v
    let m := m.modSip fun x => { x with tmRead := none, tmLogs := [], tmPoison := x.tmPoison || v.poison }
    match m.tmStore c line v with
    | some m => m.tmAdvance
    | none => m.tmStop c 1

/-- The accepted writes of a REMOTE line that its owner has not acknowledged, in acceptance order. -/
def Mach.writesOut (m : Mach) (line : Nat) : List WrLog :=
  (m.tagsWhere fun p x => p != 4 && x.st = .accepted && x.op.writes && x.line = line).foldl (fun l e =>
    insertLog { order := e.2.2.order, data := e.2.2.data, mask := e.2.2.be, poison := e.2.2.poison } l) []

/-- The tracker entry of the step under way goes to a unit that a peer is to answer. -/
def Mach.stepHand (m : Mach) (k : Nat) : Mach × Nat :=
  let n := (Tbl.find m.mover.steps k).getD 0
  ({ m with mover := { m.mover with steps := Tbl.del m.mover.steps k } }, n)

/-- One line of the running tract move, a step of kind 0: the line at the boundary, or one whose step ended at its deadline (R94, R96, R163).
It is done when the peer answers. -/
def Mach.tractLine (m : Mach) (c : SipCmd) (errs : List (BitVec 640)) (cisBad : Bool) : Mach :=
  let b := (m.sip.tmAgain.head?.map fun l => l % 2 ^ 24).getD (m.rd Reg.Siphon.TM_BOUNDARY)
  let line := m.rd Reg.Siphon.TM_TRACT * 2 ^ 24 + b
  let far := c.peer * 2 ^ 24 + b
  match m.peerDev c.slot with
  | none => m.tmStop c 4
  | some dev =>
    if (m.sip.atEnd && m.sip.tmAgain.isEmpty) || m.sip.tmRead.isSome then m
    else
      match m.stepStart 0 line 0 1 with
      | none => m.stepWait 0 1
      | some m =>
        if c.op = 8 then
          match m.sipRead line errs cisBad with
          | (m, none) => m
          | (m, some v) =>
            let again := !m.sip.tmAgain.isEmpty
            let (m, k) := (if m.stepOn 0 then m else (m.stepEntry 0 line 0).getD m).stepHand 0
            let m := m.modSip fun x => { x with tmOut := x.tmOut ++ [k], tmAgain := x.tmAgain.tail, tmPoison := x.tmPoison || v.poison }
            let m := m.sendOn dev 0 (writeUnit far (trackXid k) v.data (BitVec.allOnes 64) v.poison false)
            if again then m else m.tmAdvance
        else
          let (m, k) := m.stepHand 0
          let m := m.modSip fun x => { x with tmRead := some k, tmLogs := m.writesOut line }
          m.sendOn dev 0 { utype := 1, line := far, xid := trackXid k }

/-- A step of kind 0 has ended at its deadline: its line is read afresh in the next pass, a chain that works for it goes on as repair work
(R96, R198). -/
def Mach.sipLate (m : Mach) (n line : Nat) : Mach :=
  let m : Mach := { m with mover := { m.mover with steps := m.mover.steps.filter fun e => e != (0, n) } }
  let m := m.modLev fun x => { x with chains := x.chains.map fun c => if c.2.who = .siphon && c.2.line = line then (c.1, { c.2 with who := .repair }) else c }
  m.modSip fun x =>
    if x.tmRead = some n then { x with tmRead := none, tmLogs := [] }
    else if x.tmOut.contains n then { x with tmOut := x.tmOut.filter fun k => k != n, tmAgain := x.tmAgain ++ [line] }
    else x

/-- TRACT_MOVE_END: every line is copied and acknowledged; the tract changes mode at the next boundary (R201). -/
def tractMoveEnd (m : Mach) : Mach :=
  if m.flag Reg.Siphon.TM_ACTIVE && m.sip.atEnd && m.sip.tmOut.isEmpty && m.sip.tmAgain.isEmpty && m.sip.tmRead.isNone &&
      m.sip.tmEnd.isNone && !m.quiet .siphon then
    m.modSip fun x => { x with tmEnd := some (if x.tmPoison then 6 else 0) }
  else m

def execTractMoveEnd (t : Nat) (s : State) : Out := s.run t tractMoveEnd

/-- At a turn boundary a finished tract move changes the tract's mode (R184, R201). -/
def Mach.tmBoundary (m : Mach) : Mach :=
  match m.sip.tmEnd, m.sip.queue with
  | some r, c :: _ =>
    let n := c.plot / 2 ^ 18
    let e := m.tract n
    let m := m.settleTract n
    let m := if c.op = 8 then (m.releaseTract n e).setTract n (entryOut e c.slot c.peer)
      else m.setTract n (entryIn e c.mode)
    let m := (m.wr Reg.Siphon.TM_ACTIVE 0).modSip fun x => { x with tmEnd := none, atEnd := false }
    m.showFrames.endCmd r
  | _, _ => m

/-! ### Steps (R197 to R201) -/

/-- The next plot of the command at the head, of an earlier pass, or of an automatic move. -/
def Mach.sipNext (m : Mach) : Mach :=
  match m.sip.queue with
  | c :: _ =>
    if 8 ≤ c.op then (if m.tractHeld (c.plot * 64) then m else m.startTract c)
    else if m.tractHeld (m.sip.nextPlot * 64) then m
    else if m.sip.nextPlot ≤ c.plot + c.count then
      let p := m.sip.nextPlot
      let m := m.modSip fun x => { x with nextPlot := p + 1 }
      if tMode (m.tract (p / 2 ^ 18)) != 2 then m.endCmd 2 else m.startPlot c.op p 0 false
    else
      match m.sip.again with
      | (p, n) :: l => (m.modSip fun x => { x with again := l }).startPlot c.op p n false
      | [] => m.endCmd (if m.sip.skipped then 3 else 0)
  | [] =>
    match m.sip.auto with
    | (p, op, tries) :: l =>
      if m.tractHeld (p * 64) then m else
      let m := m.modSip fun x => { x with auto := l }
      if tMode (m.tract (p / 2 ^ 18)) = 2 then m.startPlot op p tries true else m
    | [] => m

/-- SIPHON_MOVE_STEP: a line of the running move is done, or the next plot begins. Nothing happens while the page is
HALTED; a line waits where no kind-0 line or no tracker entry is left (R95, R163, R206). -/
def siphonMoveStep (errs : List (BitVec 640)) (cisBad : Bool) (m : Mach) : Mach :=
  if m.quiet .siphon then m
  else
    match m.sip.move with
    | some mv => m.moveLine mv errs cisBad
    | none =>
      match m.sip.queue with
      | c :: _ => if 8 ≤ c.op && m.flag Reg.Siphon.TM_ACTIVE then m.tractLine c errs cisBad else m.sipNext
      | [] => m.sipNext

def execSiphonMoveStep (t : Nat) (errs : List (BitVec 640)) (cisBad : Bool) (s : State) : Out :=
  s.run t (siphonMoveStep errs cisBad)

/-- COMPRESS_DONE: the compress engine has encoded a plot; its run is written and the entry updated, unless a write came
between, no room is found or a boundary's check fails (R197, R211, R216, R222, R236). `streams` are the LZ streams of the four rows. The
lines are those that the Siphon has read. A rewrite that waits for an engine goes first (R228). -/
def compressDone (streams : List (List Nat)) (bad : Bool) (m : Mach) : Mach :=
  match m.sip.move with
  | none => m
  | some mv =>
    if mv.op != 3 || mv.atLine != 64 || m.islandDown 5 || 16 ≤ m.sip.rewrites.length then m
    else if bad then (m.internalFail (mv.plot * 64) 5 false).abandon mv
    else if m.plotWritten mv.plot mv.firstOrder then m.abandon mv
    else
      let p := m.plot mv.plot
      let ls := mv.vals.map fun v => v.data
      let ver := (p.version + 1) % 2 ^ 16
      let free := fun (m : Mach) => (m.blankPlotFrame p.loc).showFrames
      let done := fun (m : Mach) => (m.inc Reg.Flume.PLOTS_COMPRESSED).moveDone mv.plot
      if ls.all fun v => v = 0 then
        (free (m.setPlot mv.plot { p with tier := 0, loc := 0, version := ver, clean := 0 })).moveDone mv.plot
      else
        let k := m.poolOf (mv.plot / 2 ^ 18)
        let same := ls.all fun v => v = ls.headD 0
        let rows := encodePlot mv.plot ls streams
        let n := if same then 1 else (rows.map fun r => r.2.length).sum
        if m.act Reg.Flume.KEEP_MAX < n then (m.inc Reg.Flume.INCOMPRESSIBLE).clearMove mv.plot
        else
          let opens := m.act Reg.Flume.RESERVE_CH 0 k < m.freeChunks k
          match (if m.poolTakes k then m.allocRun k n opens else none) with
          | none => (m.clearMove mv.plot).noRoom mv.auto
          | some v =>
            let m := m.cacheDirs [mv.plot]
            let m :=
              if same then
                let m := m.setPlot mv.plot { p with
                  tier := 2, sectors := 1, loc := v, version := ver, migrating := false }
                let m := m.setDir mv.plot { kind := 1, version := ver, sectors := 1, loc := v, pool := k }
                (m.storeSector mv.plot v (ls.headD 0)).showPool k
              else m.putRows mv.plot k v rows ver
            done (free m)

def execCompressDone (t : Nat) (enc : Encoded) (s : State) : Out := s.run t (compressDone enc.streams enc.bad)

/-- SIPHON_DISABLE: `ENABLE` written 0 discards the queue, each command with result 5, and stops the automatic moves
(R206). -/
def Mach.siphonDisable (m : Mach) : Mach :=
  let m := m.wr (Reg.Hdr.ENABLE .siphon) 0
  let m := match m.sip.move with | some mv => (m.dropNew mv).clearMove mv.plot | none => m
  let m := m.modSip fun x => { x with auto := [] }
  let m := m.modLev fun x => { x with
    chains := x.chains.map fun c => if c.2.who = .siphon then (c.1, { c.2 with who := .repair }) else c
    done := x.done.filter fun d => d.who != .siphon }
  let m := m.stepFree 0
  m.each m.sip.queue fun m c => if 8 ≤ c.op && m.flag Reg.Siphon.TM_ACTIVE then m.tmStop c 5 else m.endCmd 5

def execSiphonDisable (t : Nat) (src : Source) (s : State) : Out := s.run t fun m => m.written src Mach.siphonDisable

end Sys2Proof.Machine
end

