-- ==== Sys2Proof/Machine/Rebuild.lean ====
section
/-! DEFINITION. The rebuild of a Canal that has returned: its two phases, line by line (R287 to R290). -/

namespace Sys2Proof.Machine

/-! ### Cost (R289) -/

/-- A Canal's own share of freeboard in lines. -/
def Mach.fbCanal (m : Mach) : Nat := dcMbps m.oneDpc m.tq * m.act Reg.Weir.FREEBOARD * m.tq / 256000

/-- Whether a turn has a cost left: `own` lines on the Canal, `more` further lines of kind 4. -/
def Mach.canPay (m : Mach) (c own more : Nat) : Bool :=
  own + more ≤ m.rd Reg.Weir.FB_LEFT 0 4 + m.weir.fbOpen && (m.canal c).fbUsed + own ≤ m.fbCanal

/-- Pay for a line of the rebuild. -/
def Mach.payLine (m : Mach) (c own more : Nat) : Mach :=
  let m := m.each (List.range (own + more)) fun m _ => m.takeFb 4
  m.modCanal c fun x => { x with fbUsed := x.fbUsed + own }

/-! ### Boundaries (R287) -/

/-- The rebuild ends: the Canal is in service. -/
def Mach.rebuilt (m : Mach) (c : Nat) : Mach :=
  ((m.setCanal c 4).modCanal c fun x => { x with returned := false }).event .canal c 0x2410 c 1

/-- The Canal line address after the last one. -/
def Mach.clEnd (m : Mach) : Nat := m.st.rawGb * 2 ^ 20

/-- Phase 1 goes on at a Canal line address; at the end phase 2 starts. -/
def Mach.boundaryTo (m : Mach) (c b : Nat) : Mach :=
  if b < m.clEnd then m.wr Reg.Canal.BOUNDARY b c
  else ((m.wr Reg.Canal.BOUNDARY b c).wr Reg.Canal.PHASE 1 c).modCanal c fun x => { x with plotLine := 0 }

/-- The first plot with storage from a number on. -/
def Mach.nextPlotFrom (m : Mach) (p : Nat) : Option Nat :=
  (m.st.plots.find? fun e => p ≤ e.1 && e.2.tier != 0).map fun e => e.1

/-- Phase 2 goes on at a plot; after the last one the rebuild ends. -/
def Mach.plotTo (m : Mach) (c p : Nat) : Mach :=
  let m := m.modCanal c fun x => { x with plotLine := 0 }
  match m.nextPlotFrom p with
  | some q => m.wr Reg.Canal.PLOT_BOUNDARY q c
  | none => m.rebuilt c

/-- The rebuild passes a line: in phase 1 the Canal line address, in phase 2 the line of the plot. -/
def Mach.passLine (m : Mach) (c : Nat) : Mach :=
  if m.flag Reg.Canal.PHASE c then m.modCanal c fun x => { x with plotLine := x.plotLine + 1 }
  else m.boundaryTo c (m.rd Reg.Canal.BOUNDARY c + 1)

/-! ### Lines (R288) -/

/-- A line of the rebuild counts as skipped. -/
def Mach.rbSkip (m : Mach) (c : Nat) : Mach := ((m.payLine c 1 0).inc Reg.Canal.LINES_SKIPPED c).passLine c

/-- A line without a source: kept where it was written since the return began, else poisoned. -/
def Mach.noSource (m : Mach) (c line pl : Nat) : Mach :=
  let s := m.checkAt pl (m.image pl)
  if s.ok && !s.blank then m.rbSkip c
  else if !m.canPay c 2 0 then m
  else
    let m := (m.payLine c 2 0).storeRaw line (dpaWord line) pl (freshVal line 0 true) 0 1
    (((m.fixParity pl).recordPoison line 1).inc Reg.Canal.LINES_LOST c).passLine c

/-- The source of a line is here: written with the source's version unless the stored line already has it or a write has
stored it since (R288, R290). -/
def Mach.copyLine (m : Mach) (c line pl : Nat) (v : LineVal) (ver more : Nat) : Mach :=
  let s := m.checkAt pl (m.image pl)
  if m.writtenSince line ((m.canal c).rbOrder + 1) then m.passLine c
  else if s.ok && s.ver = ver then (m.payLine c 1 0 |>.inc Reg.Canal.LINES_SKIPPED c).passLine c
  else
    let m := (m.payLine c 2 more).storeRaw line (dpaWord line) pl { v with lc := lc32 (lineBytes v.data) (dpaWord line) } ver v.poison.toNat
    (m.inc Reg.Canal.LINES_COPIED c).passLine c

/-- A line of a tract in the rebuild: from the twin, from its stripe, or without a source. -/
def Mach.rbLine (m : Mach) (c line pl : Nat) : Mach :=
  match m.lev.done.find? fun d => d.who = .rebuild c with
  | some d =>
    let m := m.modLev fun x => { x with done := x.done.filter fun q => q.who != .rebuild c }
    if d.code = 0 && d.step != 1 then m.copyLine c line pl d.val d.ver (if d.step = 4 then 15 else 0) else m.noSource c line pl
  | none =>
    let stripe := m.striped (pl / 2 ^ 24) && !m.mayRefetch line
    if !m.canPay c 2 (if stripe then 15 else 0) then m
    else
      let m := m.modCanal c fun x => { x with rbOrder := m.order }
      if m.mayRefetch line then
        let k := m.lev.nextChain
        let m := m.modLev fun x => { x with nextChain := k + 1 }
        m.chainFrom k { who := .rebuild c, line := line, pl := pl, step := 3, order := m.order, start := m.tide, oos := true, noRep := true } 3
      else
        match (if stripe then m.rebuild pl line [] else (m, none)) with
        | (m, some i) =>
          match m.openRebuilt line (dpaWord line) i with
          | (some v, s) =>
            if s.blank then
              if (m.image pl).blank then m.rbSkip c
              else ((((m.putImage pl (blankImage pl)).wroteLine pl).payLine c 2 15).inc Reg.Canal.LINES_COPIED c).passLine c
            else m.copyLine c line pl v i.ver 15
          | (none, _) => m.noSource c line pl
        | (m, none) => m.noSource c line pl

/-- A parity line of the rebuild is the exclusive or of its row; where a line of its row is not served it has no source, and is poisoned
unless it was written since the return began: its row is unprotected (R257, R288). -/
def Mach.rbParity (m : Mach) (c pl : Nat) : Mach :=
  let (f0, _, r) := rowPlace pl
  if !m.canPay c 2 15 then m
  else if !((rowLines f0 r).all fun x => m.canalServes x x && !m.pairRebuilds c (canalOf x)) then
    if parityOk pl (m.image pl) && !(m.image pl).blank then m.rbSkip c
    else (((m.writeParity pl { data := 0, lc := 0, mac := 0, ver := 0, flg := 0 } true).payLine c 2 0).inc Reg.Canal.LINES_LOST c).passLine c
  else
    let (m, is, _) := m.readRow (rowLines f0 r) []
    let sum := sumImgs { data := 0, lc := 0, mac := 0, ver := 0, flg := 0 } is
    let par := (m.readLine pl).image pl
    if parityOk pl par && parityBody par = sum then (m.readLine pl).rbSkip c
    else ((((m.readLine pl).writeParity pl sum false).payLine c 2 15).inc Reg.Canal.LINES_COPIED c).passLine c

/-- A sector of a striped pool in the rebuild (R288). -/
def Mach.rbSector (m : Mach) (c plot pl : Nat) : Mach :=
  if !m.canPay c 2 15 then m
  else
    let s := m.checkAt pl (m.image pl)
    match m.rebuild pl (plot * 64) [] with
    | (m, some i) =>
      match m.openSector plot pl i with
      | (some (_, img), _) =>
        if s.ok && s.ver = i.ver then m.rbSkip c
        else ((((m.putFlipped pl img).wroteLine pl).payLine c 2 15).inc Reg.Canal.LINES_COPIED c).passLine c
      | (none, _) => m.passLine c
    | (m, none) => m.passLine c

/-- A table-block line: copied from its copy 8 Canals apart; where that Canal is away too, the plot entries of a primary line
are lost (R189, R191, R288). -/
def Mach.rbTable (m : Mach) (c pl : Nat) : Mach :=
  if !m.canPay c 2 0 then m
  else
    let other := m.fsm .canal (c ^^^ 8)
    let f := pl / 2 ^ 24
    let b := pl % 2 ^ 24 / 2 ^ 18
    let off := pl % 2 ^ 18
    match m.st.home.find? fun e => tMode (m.tract e.1) = 2 && e.2.frame = f && e.2.block = b with
    | none => m.passLine c
    | some e =>
      let copy := if other = 4 || other = 5 then m.readTable e.1 (tabCopy off) 0 else (m, false)
      if copy.2 then
        let m := copy.1
        match Tbl.find m.st.tabs (m.tabPl e.1 (tabCopy off)) with
        | none => m.rbSkip c
        | some x =>
          if (Tbl.find m.st.tabs pl).any fun y => y.ver = x.ver && y.mask = 0 then m.rbSkip c
          else (((m.putTab pl x.ver).payLine c 2 0).inc Reg.Canal.LINES_COPIED c).passLine c
      else
        let m := copy.1.payLine c 2 0
        let m :=
          if off < 65536 then
            m.each ((List.range 4).map fun j => e.1 * 2 ^ 18 + off * 4 + j) fun m p =>
              if m.st.tc.contains p then m
              else ((m.losePlot p).inc Reg.TractTable.ENTRY_LOST).event .tractTable 0 0x1013 (p % 2 ^ 32) (p / 2 ^ 18)
          else m
        m.passLine c

/-- Phase 1 at a Canal line address; frames without work are passed whole. -/
def Mach.rbPhase1 (m : Mach) (c : Nat) : Mach :=
  let b := m.rd Reg.Canal.BOUNDARY c
  let pl := plOf c b
  match (m.frame (pl / 2 ^ 24)).role with
  | 5 => m.rbTable c pl
  | 1 =>
    match m.holds pl with
    | .line l => m.rbLine c l pl
    | _ => m.passLine c
  | 2 =>
    match m.holds pl with
    | .line l => m.rbLine c l pl
    | .sector p => m.rbSector c p pl
    | .parity => m.rbParity c pl
    | .nothing => m.passLine c
  | _ => m.boundaryTo c ((b / 2 ^ 20 + 1) * 2 ^ 20)

/-- The lines of a COMPRESSED plot that need one of its sectors on a Canal that does not pass its checks there. -/
def Mach.rbLost (m : Mach) (c plot : Nat) : List Nat :=
  ((List.range 64).map fun n => plot * 64 + n).filter fun line =>
    (m.rowSectors line).any fun pl => canalOf pl = c && (!(m.checkAt pl (m.image pl)).ok || (m.image pl).blank)

/-- A COMPRESSED plot with a sector on the Canal: kept where it was written since or has been rebuilt from its stripe; else the Siphon expands
it, its lines from the twin or poisoned (R229, R288). `own` says that phase 1 has not covered it. -/
def Mach.rbComp (m : Mach) (c plot : Nat) (own : Bool) : Mach :=
  let p := m.plot plot
  let mine := ((List.range p.sectors).map fun k => m.realPl (p.loc + k)).filter fun pl => canalOf pl = c
  if mine.all fun pl => (m.checkAt pl (m.image pl)).ok && !(m.image pl).blank then
    (if own && !mine.isEmpty then (m.payLine c 1 0).inc Reg.Canal.LINES_SKIPPED c else m).plotTo c (plot + 1)
  else if (m.sip.auto.any fun a => a.1 = plot) || (m.sip.move.any fun v => v.plot = plot) then m
  else
    let lost := if m.mayRefetch (plot * 64) then [] else m.rbLost c plot
    let m := m.each lost fun m line => (m.recordPoison line 1).inc Reg.Canal.LINES_LOST c
    m.wantAuto plot 4

/-- Phase 2 at a plot. -/
def Mach.rbPhase2 (m : Mach) (c : Nat) : Mach :=
  let plot := m.rd Reg.Canal.PLOT_BOUNDARY c
  let p := m.plot plot
  let n := (m.canal c).plotLine
  let pl := m.realPl (p.loc + n)
  let own := let r := (m.frame (p.loc / 2 ^ 24)).role; r = 3 || r = 4
  if p.tier = 0 || 64 ≤ n then m.plotTo c (plot + 1)
  else if p.tier = 2 then m.rbComp c plot own
  else if !own then m.plotTo c (plot + 1)
  else if canalOf pl = c then m.rbLine c (plot * 64 + n) pl
  else m.passLine c

/-- REBUILD_LINE_DONE: one line of a rebuilding Canal is skipped, copied, recomputed or poisoned and the boundary advances
(R287 to R290). It waits while the turn has not its whole cost. -/
def rebuildLineDone (c : Nat) (m : Mach) : Mach :=
  if m.fsm .canal c != 3 || (m.lev.chains.any fun k => k.2.who = .rebuild c) || !m.canPay c 1 0 then m
  else if m.flag Reg.Canal.PHASE c then m.rbPhase2 c
  else m.rbPhase1 c

def execRebuildLineDone (t : Nat) (c : Fin 16) (s : State) : Out := s.run t (rebuildLineDone c)

end Sys2Proof.Machine
end

