-- ==== Sys2Proof/Machine/Twin.lean ====
section
/-! DEFINITION. The Twin: states, loss of the peer, detaching, pairing, the stream of records, refetches, the resilver (R398
to R427, R431, R432). -/

namespace Sys2Proof.Machine

/-! ### Digests and HELLO (R413, R421) -/

/-- The ACTIVE word at a STAGE offset of a page without indexed fields there. -/
def Mach.actWord (m : Mach) (fs : List Field) (i off : Nat) : Nat :=
  ((fs.filter fun f => f.off = off && f.count = 1 && f.staged).map fun f => m.act f i * 2 ^ f.lsb).sum

/-- The admission digest (R413). -/
def Mach.admDigest (m : Mach) : Nat :=
  crc32c ((List.range 16).flatMap fun a =>
    leBytes 8 (m.actWord Reg.Allotment.fields a 0x100) ++ leBytes 8 (m.actWord Reg.Allotment.fields a 0x108))

/-- The mirror digest (R413). -/
def Mach.mirrorDigest (m : Mach) : Nat :=
  crc32c ((m.st.tracts.filter fun e => tMirror e.2 && tMode e.2 != 0).flatMap fun e => leBytes 2 e.1 ++ [tMode e.2])

/-- The state that HELLO tells: 5 where the device was alone since it last was PAIRED, 0 where it has been OFF since then, else 1; 8 more once
it has a HELLO of the peer. -/
def Mach.helloState (m : Mach) : Nat :=
  (if m.fsm .twin = 6 then 6 else if m.twin.soloEpoch.isSome then 5 else if m.twin.lapsed then 0 else 1) + (if m.fsm .twin = 2 then 8 else 0)

/-- The HELLO of this device. -/
def Mach.hello (m : Mach) : Hello :=
  let mir := m.flag Reg.Twin.MIRROR_ACTIVE
  { serial := m.serial, role := m.rd Reg.Twin.ROLE, epoch := m.rd Reg.Twin.PAIR_EPOCH
    content := m.rd Reg.Twin.CONTENT_ID, peerContent := m.rd Reg.Twin.PEER_CONTENT_ID
    fresh := m.flag Reg.Twin.FRESH, st := m.helloState
    nlinks := ((List.range 8).filter fun l => (m.act Reg.Twin.TWIN_LINKS).testBit l).length
    adm := m.admDigest, mir := m.mirrorDigest, dpc := m.oneDpc.toNat, raw := m.st.rawGb
    sumOk := ((if mir then m else m.wr Reg.Twin.MIRROR_ACTIVE 1).recompute).fits }

/-- Send HELLO on a twin link that is UP. -/
def Mach.sendHello (m : Mach) : Mach :=
  match m.twinUp.head? with
  | some l => m.twNow l { op := 0x0F, hello := some m.hello }
  | none => m

/-- Show the digests. -/
def Mach.showDigests (m : Mach) : Mach :=
  (m.wr Reg.Twin.ADM_DIGEST m.admDigest).wr Reg.Twin.MIRROR_DIGEST m.mirrorDigest

/-- TWIN_HELLO_PERIODIC: in WAITING, SOLO and DETACHED, HELLO goes out every 1 ms (R421). -/
def twinHelloPeriodic (m : Mach) : Mach :=
  if !m.coreAway && (m.fsm .twin = 1 || m.fsm .twin = 5 || m.fsm .twin = 6) then m.showDigests.sendHello else m

def execTwinHelloPeriodic (t : Nat) (s : State) : Out := s.run t twinHelloPeriodic

/-! ### Losing the peer (R416 to R418, R427) -/

/-- What an acknowledgment completes (R104, R384). -/
def Mach.tokDone (m : Mach) (a : TokAct) : Mach :=
  match a with
  | .write p g => (m.modTag p g fun x => { x with point := true }).writePoint p g
  | .grant p g => m.rightGranted p g
  | .handover => m

/-- A refetch ends without success: step 4 is next (R238, R411). `why` is 0 for REFETCH_FAIL and 1 for no answer. -/
def Mach.refetchEnd (m : Mach) (r : Refetch) (why : Nat) : Mach :=
  let m := (m.modTwin fun x => { x with refetch := x.refetch.filter fun q => q.num != r.num }).inc Reg.Twin.REFETCH_FAIL
  match Tbl.find m.lev.chains r.chain with
  | some c => (m.event .twin 0 0x381A c.line why).chainFrom r.chain c 4
  | none => m

/-- A forwarded write enters this device's order point and completes (R408, R417). The write of a port that has dropped waits in its
RESERVED entry (R78). -/
def Mach.orderFwd (m : Mach) (f : FwdOut) : Mach :=
  match (m.merge? f.entry).bind fun e => e.logs.head? with
  | some w =>
    let m := m.nextOrder
    m.enterWrite f.entry f.line { w with order := m.order }
  | none =>
  match m.tag? f.port f.tag with
  | none => m.freeMerge f.entry
  | some x =>
    let m := m.nextOrder
    let w : WrLog := { order := m.order, data := x.data, mask := x.be, poison := x.poison }
    let m := (m.enterWrite f.entry f.line w).setTag f.port f.tag { x with point := true, fwd := false }
    m.writePoint f.port f.tag

/-- The requests of twin regions that waited for the peer seek their right here (R428). -/
def Mach.seekAgain (m : Mach) : Mach :=
  let ts := m.tagsWhere fun p x => p != 4 && x.st = .accepted && (match x.coh with | some c => !c.granted | none => false) &&
    tMirror (m.entryOf x.line)
  m.each (ts.filter fun e => !(m.shared.waits.any fun w => w.port = e.1 && w.tag = e.2.1)) fun m e => m.seekRight e.1 e.2.1

/-- The streams stop; what waited for them completes. Answers how many writes completed. -/
def Mach.endStream (m : Mach) : Mach × Nat :=
  let toks := m.twin.toks
  let fwd := m.twin.fwd
  let rs := m.twin.refetch
  let m := m.modTwin fun x => { x with
    want := [], held := [], rx := [], urx := [], toks := [], fwd := [], refetch := [], pend := none, ackWant := false
    credRet := 0, handover := false, peerAway := [], started := false, decided := none, hello := none }
  let m := m.each toks fun m t => m.tokDone t.2
  let m := (m.each fwd fun m f => m.orderFwd f).seekAgain
  let m := m.each rs fun m r => m.refetchEnd r 1
  (m.showTwinSource, (toks.filter fun t => match t.2 with | .write _ _ => true | _ => false).length + fwd.length)

/-- Show the away map's length. -/
def Mach.showAway (m : Mach) : Mach := m.wr Reg.Twin.AWAY_REGIONS m.twin.away.length

/-- Enter SOLO (R417). The source of a resilver keeps what its pass has of marked regions below the boundary (R427). -/
def Mach.goSolo (m : Mach) (cause : Nat) : Mach :=
  let m := if m.fsm .twin = 3 && m.flag Reg.Twin.RS_SOURCE then
      (m.modTwin fun x => { x with
        away := addPlots x.away (x.peerAway.filter fun r => r * 4096 < m.rd Reg.Twin.RS_BOUNDARY) }).showAway
    else m
  let (m, n) := ((m.wr Reg.Twin.MIRROR_ACTIVE 0).setFsm .twin 5).endStream
  let m := m.modTwin fun x => { x with soloEpoch := some (m.rd Reg.Twin.PAIR_EPOCH) }
  let m := ((m.wr Reg.Twin.SOLO_TIDE m.tide).inc Reg.Twin.LOSSES).wr Reg.Twin.RS_BOUNDARY 0
  (m.event .twin 0 0x3813 cause n).peerAgentsLost

/-- Enter FENCED: 1 for a split, 2 where the source is lost during a resilver (R415, R418, R427). -/
def Mach.goFenced (m : Mach) (why : Nat) : Mach :=
  let b := m.rd Reg.Twin.RS_BOUNDARY
  let (m, _) := ((m.wr Reg.Twin.MIRROR_ACTIVE 0).setFsm .twin 7).endStream
  ((m.wr Reg.Twin.PAIR_REFUSE 0).event .twin 0 0x3817 why (b % 2 ^ 32)).peerAgentsLost

/-- The peer is lost: cause 1 silence, 2 links down, 3 LEAVE (R416 to R418, R427). -/
def Mach.peerLost (m : Mach) (cause : Nat) : Mach :=
  if !m.mirrorOn then m
  else if m.fsm .twin = 3 && !m.flag Reg.Twin.RS_SOURCE then m.goFenced 2
  else
    let split := cause != 3 && m.act Reg.Twin.PEER_FID_V != 0 && m.pathUse (m.act Reg.Twin.PEER_FID) != 0
    let m := if split then
        (m.wr Reg.Twin.SPLIT_SEEN 1).event .twin 0 0x3816 (m.rd Reg.Twin.ROLE) 1
      else m
    if split && m.flag Reg.Twin.SPLIT_FENCE && m.rd Reg.Twin.ROLE = 2 then m.goFenced 1 else m.goSolo cause

/-- A twin link has become BROKEN or OFF: its records are diverted, and with the last link the peer is lost (R405, R416). -/
def Mach.twinLinkGone (m : Mach) (l : Nat) : Mach :=
  if m.twinLink l then
    let m := m.divertFrom l
    let dead := (List.range 8).all fun k => !m.twinLink k || m.fsm .culvert k = 0 || m.fsm .culvert k = 5
    if dead then m.peerLost 2 else m
  else m

/-- LOSS_TIMEOUT: no flit of the peer has arrived for `LOSS_US` (R416). -/
def lossTimeout (m : Mach) : Mach :=
  if m.mirrorOn && m.rd Reg.Twin.LAST_RX_TIDE + m.act Reg.Twin.LOSS_US * 1000 ≤ m.tide then m.peerLost 1 else m

def execLossTimeout (t : Nat) (s : State) : Out := s.run t lossTimeout

/-- DIVERSE_TIMEOUT: records that have been unacknowledged for `DIVERSE_NS` are diverted (R405). -/
def diverseTimeout (m : Mach) : Mach :=
  let old := m.twin.held.filter fun r => r.tide + r.diverse ≤ m.tide
  match old with
  | [] => m
  | r :: _ => m.divertAll r.link old

def execDiverseTimeout (t : Nat) (s : State) : Out := s.run t diverseTimeout

/-! ### Detaching (R419) -/

/-- Answer a request to a mirrored tract FENCED (R415). -/
def Mach.fenceTwin (m : Mach) (p g : Nat) (x : Tag) : Mach :=
  (m.inc Reg.Twin.FENCED_REQS).answer p g (if x.op.reads then poisonData else .cmp) 3 0

/-- The writes to mirrored tracts that the Headgates hold are answered FENCED (R419). -/
def Mach.fenceHeld (m : Mach) : Mach :=
  m.each (m.tagsWhere fun p x => p < 4 && x.st = .held && x.op.writes && tMirror (m.entryOf x.line)) fun m e =>
    let a := e.2.2.allot
    (m.setQueue e.1 a ((m.queueOf e.1 a).filter fun g => g != e.2.1)).fenceTwin e.1 e.2.1 e.2.2

/-- A detach completes once no write waits for the peer: LEAVE, then DETACHED, or OFF for `ENABLE` = 0. -/
def Mach.detachCheck (m : Mach) : Mach :=
  match m.twin.detaching with
  | none => m
  | some why =>
    if m.twin.toks.isEmpty && m.twin.fwd.isEmpty && m.twin.want.isEmpty && m.twin.held.isEmpty then
      let m := m.each m.twinUp fun m l => m.twNow l { op := 0x10, data := 1 }
      let (m, _) := ((m.wr Reg.Twin.MIRROR_ACTIVE 0).setFsm .twin (if why = 3 then 0 else 6)).endStream
      let held := (m.tagsWhere fun p x => p < 4 && x.st = .held && x.op.writes && tMirror (m.entryOf x.line)).length
      let m := m.modTwin fun x => { x with detaching := none, soloEpoch := none }
      let m := if why = 3 then m.fenceHeld else m
      ((m.event .twin 0 0x3818 why held).reachHalted .twin 0).peerAgentsLost
    else m

/-- A detach begins: 1 `DETACH`, 2 `HALT`, 3 `ENABLE`; without mirroring `HALT` is reached at once and `ENABLE` = 0 turns
the Twin off (R415, R419, R431). -/
def Mach.twinDetach (m : Mach) (why : Nat) : Mach :=
  let m := if why = 2 then m.wr (Reg.Hdr.HALT .twin) 1 else if why = 3 then m.wr (Reg.Hdr.ENABLE .twin) 0 else m
  if m.mirrorOn then (m.modTwin fun x => { x with detaching := some why }).detachCheck
  else if why = 2 then m.reachHalted .twin 0
  else if why = 3 then m.setFsm .twin 0
  else m

/-- TWIN_DETACH: a write of 1 to `DETACH`, of 1 to `HALT`, or of 0 to `ENABLE`. -/
def execTwinDetach (t : Nat) (src : Source) (why : Fin 3) (s : State) : Out :=
  s.run t fun m =>
    if why.val = 0 then m.stageWrite .twin 0 src fun m => m.twinDetach 1
    else m.written src fun m => m.twinDetach (why + 1)

/-- `HALT` written 0 or `ENABLE` written 1 returns a device in Twin mode to WAITING (R419). One that comes from OFF has not been alone with
its away map kept (R415, R422). -/
def Mach.twinBack (m : Mach) : Mach :=
  if m.rd Reg.Twin.ROLE != 0 && m.enabled .twin && !m.flag (Reg.Hdr.HALT .twin) then
    if m.fsm .twin = 0 then (m.modTwin fun x => { x with soloEpoch := none, lapsed := true }).setFsm .twin 1
    else if m.fsm .twin = 6 then m.setFsm .twin 1
    else m
  else m

/-- A write of 1 to `UNFENCE`: a FENCED device goes on alone (R418). -/
def Mach.unfence (m : Mach) : Mach :=
  if m.fsm .twin = 7 then
    let m := m.modTwin fun x => { x with soloEpoch := some (m.rd Reg.Twin.PAIR_EPOCH) }
    (m.setFsm .twin 5).wr Reg.Twin.SOLO_TIDE m.tide
  else m

/-- TWIN_UNFENCE. -/
def execTwinUnfence (t : Nat) (src : Source) (s : State) : Out :=
  s.run t fun m => m.stageWrite .twin 0 src Mach.unfence

/-! ### Pairing (R421, R422, R426) -/

/-- The pair becomes PAIRED; the away maps clear. -/
def Mach.goPaired (m : Mach) (resilver : Bool) : Mach :=
  let e := max (m.rd Reg.Twin.PAIR_EPOCH) (m.rd Reg.Twin.PEER_EPOCH) + 1
  let m := ((m.wr Reg.Twin.PAIR_EPOCH e).wr Reg.Twin.MIRROR_ACTIVE 1).showTwinSource
  let m := m.modTwin fun x => { x with
    away := [], peerAway := [], soloEpoch := none, handover := false, started := false, decided := none, full := false
    lapsed := false }
  let m := ((m.showAway).setFsm .twin 4).wr Reg.Twin.PEER_CONTENT_ID m.twin.peerLink
  let m := if resilver then
      ((m.inc Reg.Twin.RESILVERS).wr Reg.Twin.RS_KIND 0).event .twin 0 0x3812
        (m.rd Reg.Twin.RS_COPIED % 2 ^ 32) (m.rd Reg.Twin.RS_REVERSE)
    else m
  m.event .twin 0 0x3810 e (m.rd Reg.Twin.ROLE)

/-- The away regions of this device as groups of 512 map bits. -/
def mapGroups (away : List Nat) : List (Nat × Nat) :=
  (away.map fun r => r / 512).eraseDups.map fun g =>
    (g, ((away.filter fun r => r / 512 = g).map fun r => 2 ^ (r % 512)).sum)

/-- A decided resilver starts (R422). -/
def Mach.startResilver (m : Mach) : Mach :=
  match m.twin.decided with
  | none => m
  | some (kind, src) =>
    if m.twin.started then m
    else
      let kind := if m.twin.full then 2 else kind
      let m := m.modTwin fun x => { x with started := true, full := false, decided := some (kind, src) }
      let m := m.wr Reg.Twin.RS_KIND kind
      m.event .twin 0 0x3811 (kind + 4 * src.toNat) (m.rd Reg.Twin.AWAY_REGIONS)

/-- Both devices begin what they have decided: PAIRED at once, or RESILVER as source or target (R422). -/
def Mach.beginPair (m : Mach) (d : Option (Nat × Bool)) : Mach :=
  let m := (m.wr Reg.Twin.TX_NEXT 0).wr Reg.Twin.TX_ACKED (2 ^ 32 - 1)
  let m := (m.wr Reg.Twin.RX_NEXT 0).wr Reg.Twin.TX_CRED (m.act Reg.Twin.CREDITS)
  let m := m.modTwin fun x => { x with
    want := [], held := [], rx := [], toks := [], fwd := [], nextTok := 0, credRet := 0, ackWant := false }
  match d with
  | none => m.goPaired false
  | some (kind, src) =>
    let m := ((m.setFsm .twin 3).wr Reg.Twin.MIRROR_ACTIVE 1).showTwinSource
    let m := (m.wr Reg.Twin.RS_KIND kind).wb Reg.Twin.RS_SOURCE src
    let m := (m.wr Reg.Twin.RS_BOUNDARY 0).wr Reg.Twin.RS_COPIED 0
    let m := (m.wr Reg.Twin.RS_SKIPPED 0).wr Reg.Twin.RS_REVERSE 0
    let m := m.modTwin fun x => { x with decided := some (kind, src), started := false, peerAway := [] }
    let m := if kind = 3 && !src then
        let m := m.each (mapGroups m.twin.away) fun m g =>
          m.twSend { op := 0x12, line := g.1 * 8 / 2 ^ 16, arg := g.1 * 8 % 2 ^ 16, data := BitVec.ofNat 512 g.2 }
        m.inc Reg.Twin.SPLIT_REGIONS_LOST 0 0 m.twin.away.length
      else m
    if m.flag Reg.Twin.AUTO_RESILVER then m.startResilver else m

/-- The reason for which pairing is refused, 0 for none (R422). -/
def Mach.pairRefuse (m : Mach) (h : Hello) : Nat :=
  let me := m.hello
  if me.role = h.role then 1
  else if me.nlinks != h.nlinks then 2
  else if me.mir != h.mir then 3
  else if me.dpc != h.dpc || me.raw != h.raw then 4
  else if me.adm != h.adm then 5
  else if !me.sumOk || !h.sumOk then 6
  else if m.fsm .twin = 7 || h.st = 7 then 7
  else 0

/-- What the pair decides: none for PAIRED at once, else the kind of resilver and whether this device is the source
(R422). -/
def Mach.decidePair (m : Mach) (h : Hello) : Option (Nat × Bool) :=
  let me := m.hello
  let first := me.role = 1
  let solo := m.twin.soloEpoch.isSome
  let psolo := h.st % 8 = 5
  let waits := me.st % 8 = 1
  let pwaits := h.st % 8 = 1
  let mine := me.epoch = h.epoch && me.epoch != 0 && h.content = me.peerContent
  let theirs := me.epoch = h.epoch && me.epoch != 0 && me.content = h.peerContent
  if me.fresh && h.fresh then none
  else if me.fresh then some (2, false)
  else if h.fresh then some (2, true)
  else if solo && psolo && me.epoch = h.epoch then some (3, first)
  else if solo && mine then some (1, true)
  else if psolo && theirs then some (1, false)
  else if waits && mine && (first || !(pwaits && theirs)) then some (1, true)
  else if pwaits && theirs then some (1, false)
  else if solo && !psolo then some (2, true)
  else if psolo && !solo then some (2, false)
  else some (2, first)

/-- Take the first record of an operation that is outside the sequence. -/
def Mach.takeU (m : Mach) (op : Nat) : Option (Mach × TwRec) :=
  (m.twin.urx.find? fun r => r.op = op).map fun r =>
    (m.modTwin fun x => { x with urx := x.urx.erase r }, r)

/-- The peer's figures of a HELLO are shown. -/
def Mach.helloSeen (m : Mach) (h : Hello) : Mach :=
  let m := m.showDigests
  let m := ((m.wr Reg.Twin.PEER_EPOCH h.epoch).wr Reg.Twin.PEER_SERIAL h.serial).wr Reg.Twin.PEER_ADM_DIGEST h.adm
  m.wr Reg.Twin.PEER_MIRROR_DIGEST h.mir

/-- TWIN_HELLO: the peer's HELLO is compared; pairing is refused, or goes on (R413, R421, R422). -/
def twinHello (m : Mach) : Mach :=
  match m.takeU 0x0F with
  | some (m, { hello := some h, .. }) =>
    let m := m.helloSeen h
    let st := m.fsm .twin
    if st = 4 then
      let m := m.wb Reg.Twin.ADM_MISMATCH (h.adm != m.admDigest || h.mir != m.mirrorDigest)
      let m := if h.adm != m.admDigest then m.event .twin 0 0x3815 0 h.adm else m
      if h.mir != m.mirrorDigest then m.event .twin 0 0x3815 1 h.mir else m
    else if !(st = 1 || st = 2 || st = 5 || st = 7) || h.st % 8 = 6 then m
    else
      let r := m.pairRefuse h
      let m := m.wr Reg.Twin.PAIR_REFUSE r
      if r != 0 then
        let m := if st = 2 then m.setFsm .twin (if m.twin.soloEpoch.isSome then 5 else 1) else m
        m.event .twin 0 0x3814 r (h.serial % 2 ^ 32)
      else
        let d := m.decidePair h
        let m := m.modTwin fun x => { x with hello := some h, peerLink := h.content }
        let m := if st = 2 then m else (m.setFsm .twin 2).sendHello
        if st = 2 || 8 ≤ h.st then m.beginPair d else m
  | some (m, _) => m
  | none => m

def execTwinHello (t : Nat) (s : State) : Out := s.run t twinHello

/-- RESILVER_GO: a decided resilver starts (R422). -/
def execResilverGo (t : Nat) (src : Source) (s : State) : Out :=
  s.run t fun m => m.stageWrite .twin 0 src Mach.startResilver

/-- A write of 1 to `RESILVER_FULL`. -/
def Mach.wantFull (m : Mach) : Mach := m.modTwin fun x => { x with full := true }

/-- RESILVER_FULL: the next resilver is FULL (R422). -/
def execResilverFull (t : Nat) (src : Source) (s : State) : Out :=
  s.run t fun m => m.stageWrite .twin 0 src Mach.wantFull

/-- TWIN_LEAVE: LEAVE declares the peer lost (R416). -/
def twinLeave (m : Mach) : Mach :=
  match m.takeU 0x10 with
  | some (m, _) => m.peerLost 3
  | none => m

def execTwinLeave (t : Nat) (s : State) : Out := s.run t twinLeave

/-! ### Records of the stream (R402 to R409) -/

/-- Take the record at `RX_NEXT` where it has one of the operations given (R403). -/
def Mach.takeS (m : Mach) (op : Nat) : Option (Mach × TwRec) :=
  let n := m.rd Reg.Twin.RX_NEXT
  match Tbl.find m.twin.rx n with
  | some r =>
    if r.op = op then
      let m := m.modTwin fun x => { x with rx := Tbl.del x.rx n, ackWant := true }
      some (m.wr Reg.Twin.RX_NEXT ((n + 1) % 2 ^ 32), r)
    else none
  | none => none

/-- Whether a record's data passes its check word. -/
def recOk (r : TwRec) : Bool := r.lc = unitLc r.data r.line

/-- A write of the peer enters the merge buffer in its place in the order; none where no entry is free (R403, R404). -/
def Mach.peerWrite (m : Mach) (line : Nat) (d : Line) (be : BitVec 64) (ok : Bool) : Option Mach :=
  m.newMerge.map fun e =>
    let m := m.nextOrder
    let x : Merge := { line := line, order := m.order, accept := m.tide, stripe := tStripe (m.entryOf line), cls2 := true }
    let m := m.setMerge e x
    let w : WrLog := { order := m.order, data := d, mask := be, poison := !ok }
    (m.enterWrite e line w).modTwin fun x => { x with credRet := x.credRet + 1 }

/-- A full-line write record, or the first half of a partial one. -/
def Mach.writeRec (m : Mach) (op : Nat) (fwd : Bool) : Mach :=
  match m.takeS op with
  | none => m
  | some (n, r) =>
    if !m.mirrorOn then n
    else
      match n.peerWrite r.line r.data (BitVec.allOnes 64) (recOk r) with
      | none => m
      | some n => if fwd then (n.inc Reg.Twin.FWD_WRITES).twSend { op := 0x06, line := r.line } else n

/-- TWIN_MIRROR: the peer's write to a line that it orders is merged (R408). -/
def execTwinMirror (t : Nat) (s : State) : Out := s.run t fun m => m.writeRec 0x01 false

/-- TWIN_FWD: a forwarded write enters the order point here and is answered with ORDERED (R408). -/
def execTwinFwd (t : Nat) (s : State) : Out := s.run t fun m => m.writeRec 0x03 true

/-- A partial write record waits for its MASK. -/
def Mach.holdRec (m : Mach) (op : Nat) : Mach :=
  match m.takeS op with
  | none => m
  | some (m, r) => m.modTwin fun x => { x with pend := some r }

/-- TWIN_MIRROR_P: a partial write of the peer, which MASK completes (R408). -/
def execTwinMirrorP (t : Nat) (s : State) : Out := s.run t fun m => m.holdRec 0x02

/-- TWIN_FWD_P: a forwarded partial write, which MASK completes (R408). -/
def execTwinFwdP (t : Nat) (s : State) : Out := s.run t fun m => m.holdRec 0x04

/-- TWIN_MASK: the byte enables of the partial write before it; the write is merged (R402, R408). -/
def twinMask (m : Mach) : Mach :=
  match m.takeS 0x05, m.twin.pend with
  | some (n, k), some r =>
    let n := n.modTwin fun x => { x with pend := none }
    if !m.mirrorOn then n
    else
      match n.peerWrite r.line r.data (k.data.setWidth 64) (recOk r && recOk k) with
      | none => m
      | some n => if r.op = 4 then (n.inc Reg.Twin.FWD_WRITES).twSend { op := 0x06, line := r.line } else n
  | some (n, _), none => n
  | none, _ => m

def execTwinMask (t : Nat) (s : State) : Out := s.run t twinMask

/-- TWIN_ORDERED: the oldest forwarded write has its place; it commits here and completes (R408). -/
def twinOrdered (m : Mach) : Mach :=
  match m.takeS 0x06 with
  | none => m
  | some (m, _) =>
    match m.twin.fwd with
    | f :: l => ((m.modTwin fun x => { x with fwd := l }).orderFwd f).detachCheck
    | [] => m

def execTwinOrdered (t : Nat) (s : State) : Out := s.run t twinOrdered

/-- Whether a sequence lies at or below an acknowledgment. -/
def seqLe (a b : Nat) : Bool := (b + 2 ^ 32 - a) % 2 ^ 32 < 2 ^ 31

/-- TWIN_ACK: acknowledged records are freed, what waited for them completes, credits return (R403, R404). -/
def twinAck (m : Mach) : Mach :=
  match m.takeU 0x07 with
  | none => m
  | some (m, r) =>
    let fack := r.data.toNat % 2 ^ 32
    let cred := r.data.toNat / 2 ^ 32 % 2 ^ 16
    let gone := m.twin.held.filter fun h => seqLe h.seq fack
    let acts := gone.flatMap fun h => (m.twin.toks.filter fun t => t.1 = h.tok).map fun t => t.2
    let m := m.modTwin fun x => { x with
      held := x.held.filter fun h => !seqLe h.seq fack
      toks := x.toks.filter fun t => !(gone.any fun h => h.tok = t.1) }
    let m := if gone.isEmpty then m else m.wr Reg.Twin.TX_ACKED fack
    let m := m.wr Reg.Twin.TX_CRED (min (m.rd Reg.Twin.TX_CRED + cred) (m.act Reg.Twin.CREDITS))
    (m.each acts fun m a => m.tokDone a).detachCheck

def execTwinAck (t : Nat) (s : State) : Out := s.run t twinAck

/-- TWIN_BAD_RECORD: a record with a reserved operation is discarded (R402). -/
def twinBadRecord (m : Mach) : Mach :=
  match m.twin.urx.find? fun r => 0x15 < r.op with
  | some r => (m.modTwin fun x => { x with urx := x.urx.erase r }).inc Reg.Turnout.BAD_UNITS
  | none => m

def execTwinBadRecord (t : Nat) (s : State) : Out := s.run t twinBadRecord

/-! ### Refetches (R411) -/

/-- TWIN_REFETCH_REQ: the peer asks for a line: from the merge buffer or any tier, if it passes its checks within 140 ns (R411). -/
def twinRefetchReq (errs : List (BitVec 640)) (cisBad : Bool) (m : Mach) : Mach :=
  match m.takeU 0x08 with
  | none => m
  | some (m, r) =>
    let late := r.came + 140 < m.tide
    let m := (m.inc Reg.Twin.REFETCH_SERVED).takeFb 2
    let back := fun (m : Mach) (v : Option LineVal) =>
      match m.twinUp.head?, v with
      | some l, some v =>
        if v.poison then m.twNow l { op := 0x0A, line := r.line, arg := r.arg }
        else m.twNow l { op := 0x09, line := r.line, arg := r.arg, data := v.data, lc := unitLc v.data r.line }
      | some l, none => m.twNow l { op := 0x0A, line := r.line, arg := r.arg }
      | none, _ => m
    match m.mergedVal r.line m.order none with
    | some v => back m (some v)
    | none =>
      match m.tryRead r.line errs cisBad with
      | (m, .ok v) => back m (if late then none else some ((m.mergedVal r.line m.order (some v)).getD v))
      | (m, .away _) => back m none
      | (m, t) => back (m.takeTry .repair r.line m.order t) none

def execTwinRefetchReq (t : Nat) (errs : List (BitVec 640)) (cisBad : Bool) (s : State) : Out :=
  s.run t (twinRefetchReq errs cisBad)

/-- TWIN_REFETCH_RSP: the first answer ends step 3 with the line (R411). -/
def twinRefetchRsp (m : Mach) : Mach :=
  match m.takeU 0x09 with
  | none => m
  | some (m, r) =>
    match m.twin.refetch.find? fun q => q.num = r.arg with
    | none => m
    | some q =>
      if !recOk r then m.refetchEnd q 0
      else
        let m := (m.modTwin fun x => { x with refetch := x.refetch.filter fun y => y.num != q.num }).inc Reg.Twin.REFETCH_OK
        match Tbl.find m.lev.chains q.chain with
        | some c =>
          let i := m.image c.pl
          m.chainOk q.chain c 3 (freshVal c.line r.data false) i.ver (i.flg / 4 % 2 * 4)
        | none => m

def execTwinRefetchRsp (t : Nat) (s : State) : Out := s.run t twinRefetchRsp

/-- TWIN_REFETCH_FAIL: step 3 ends without success once every request is answered (R411). -/
def twinRefetchFail (m : Mach) : Mach :=
  match m.takeU 0x0A with
  | none => m
  | some (m, r) =>
    match m.twin.refetch.find? fun q => q.num = r.arg with
    | none => m
    | some q =>
      if 1 < q.left then
        m.modTwin fun x => { x with
          refetch := x.refetch.map fun y => if y.num = q.num then { y with left := y.left - 1 } else y }
      else m.refetchEnd q 0

def execTwinRefetchFail (t : Nat) (s : State) : Out := s.run t twinRefetchFail

/-- REFETCH_BUDGET_EXPIRY: 300 ns have passed without an answer (R411). -/
def refetchBudgetExpiry (n : Nat) (m : Mach) : Mach :=
  match m.twin.refetch.find? fun q => q.num = n with
  | some q => if q.tide + 300 ≤ m.tide then m.refetchEnd q 1 else m
  | none => m

def execRefetchBudgetExpiry (t : Nat) (n : Nat) (s : State) : Out := s.run t (refetchBudgetExpiry n)

/-! ### The resilver (R423 to R426) -/

/-- The mirrored lines: the first line at or after one that lies in a mirrored tract and in a region of the pass. -/
def Mach.nextMirrored (m : Mach) (b : Nat) : Option Nat :=
  let ts := m.st.tracts.filter fun e => tMirror e.2 && tMode e.2 != 0 && b < (e.1 + 1) * 2 ^ 24
  if m.rd Reg.Twin.RS_KIND = 2 then
    (ts.head?).map fun e => max b (e.1 * 2 ^ 24)
  else
    let rs := (m.twin.away ++ m.twin.peerAway.filter fun r => !m.twin.away.contains r).filter fun r =>
      b < (r + 1) * 4096 && ts.any fun e => e.1 = r * 4096 / 2 ^ 24
    (rs.foldl (fun a r => match a with | none => some r | some q => some (min q r)) none).map fun r => max b (r * 4096)

/-- What the source has of a line: blank, its value with the version of its own image, or a failure. -/
inductive RsLine where
  | blank
  | val (v : LineVal) (ver : Nat)
  | bad (t : Try)
deriving DecidableEq, Repr

/-- The source's read of a line, with what the merge buffer holds of it (R424). -/
def Mach.rsRead (m : Mach) (line : Nat) (errs : List (BitVec 640)) (cisBad : Bool) : Mach × RsLine :=
  let i := match m.linePl line with | some pl => m.image pl | none => {}
  let (m, t) := m.tryRead line errs cisBad
  match t with
  | .ok v =>
    if m.hasMerge line m.order then (m, .val ((m.mergedVal line m.order (some v)).getD v) (i.ver + 1))
    else if i.blank && !v.poison && v.data = 0 then (m, .blank)
    else (m, .val v i.ver)
  | t => (m, .bad t)

/-- RESILVER_LINE_SEND: the source sends the line at the boundary, a step of kind 2, or PAIRED after the last one (R94, R422 to R426). -/
def resilverLineSend (errs : List (BitVec 640)) (cisBad : Bool) (m : Mach) : Mach :=
  let rate := m.rd Reg.Twin.RS_RATE_LINES
  if m.fsm .twin != 3 || !m.flag Reg.Twin.RS_SOURCE || !m.twin.started || m.twin.handover || (!m.stepOn 2 && !m.hasFb 2) ||
      (rate != 0 && rate ≤ m.twin.rsUsed) then m
  else
    match m.nextMirrored (m.rd Reg.Twin.RS_BOUNDARY) with
    | none => (m.twSend { op := 0x13 }).modTwin fun x => { x with handover := true }
    | some line =>
      if m.tractHeld line || m.lev.chains.any fun c => c.2.line = line then m
      else
        match m.stepStart 2 line 0 1 with
        | none => m.stepWait 2 1
        | some m =>
        let (m, r) := m.rsRead line errs cisBad
        let go := fun (m : Mach) (q : TwRec) =>
          (((m.stepFree 2).modTwin fun x => { x with rsUsed := x.rsUsed + 1 }).twSend q).wr Reg.Twin.RS_BOUNDARY (line + 1)
        match r with
        | .bad t => m.takeTry .repair line m.order t
        | .blank => go m { op := 0x0D, line := line }
        | .val v ver =>
          if v.poison then go m { op := 0x0C, line := line, arg := ver % 2 ^ 16, data := v.data }
          else go m { op := 0x0B, line := line, arg := ver % 2 ^ 16, data := v.data, lc := unitLc v.data line }

def execResilverLineSend (t : Nat) (errs : List (BitVec 640)) (cisBad : Bool) (s : State) : Out :=
  s.run t (resilverLineSend errs cisBad)

/-- A whole line of a compressed plot goes through the merge buffer. -/
def Mach.mergeWhole (m : Mach) (line : Nat) (v : LineVal) : Mach :=
  if m.place line = .comp then
    match m.newMerge with
    | some e =>
      let m := m.nextOrder
      let w : WrLog := { order := m.order, data := v.data, mask := BitVec.allOnes 64, poison := v.poison }
      m.setMerge e { st := .held, line := line, order := m.order, accept := m.tide, logs := [w] }
    | none => m
  else m

/-- The target stores a line of the resilver with the record's version (R424). A line of a compressed plot goes through
the merge buffer. -/
def Mach.rsStore (m : Mach) (line : Nat) (v : LineVal) (ver : Nat) : Mach :=
  let m := if m.place line = .zero then (if v.data = 0 && !v.poison then m else m.zeroToRaw (line / 64)) else m
  let m := (m.takeFb 2).inc Reg.Twin.RS_COPIED
  match m.linePl line with
  | some pl => ((m.storeInternal line pl v ver).updateCistern line v)
  | none => m.mergeWhole line v

/-- What the target has of a line that a copy record brings (R424). -/
def Mach.copySeen (m : Mach) (line : Nat) : Seen :=
  match m.linePl line with
  | some pl => m.checkImage line (dpaWord line) pl (m.image pl)
  | none =>
    match m.place line with
    | .comp => match m.compLine line with
      | some v => { ok := true, val := v, ver := 2 ^ 16 }
      | none => { ok := false }
    | _ => { ok := true, blank := true }

/-- A copy record at the target; the boundary follows (R423, R424). -/
def Mach.copyRec (m : Mach) (op : Nat) (f : Mach → TwRec → Seen → Mach) : Mach :=
  match m.takeS op with
  | none => m
  | some (m, r) =>
    if m.fsm .twin != 3 || m.flag Reg.Twin.RS_SOURCE then m
    else
      let m := (m.takeFb 2).wr Reg.Twin.RS_BOUNDARY (r.line + 1)
      f m r (m.copySeen r.line)

/-- TWIN_COPY: skipped where the stored line is the same, else stored (R424). -/
def execTwinCopy (t : Nat) (s : State) : Out :=
  s.run t fun m => m.copyRec 0x0B fun m r s =>
    if s.ok && s.ver = r.arg && !s.blank && !s.val.poison && lc32 (lineBytes s.val.data) (dpaWord r.line) = r.lc then
      m.inc Reg.Twin.RS_SKIPPED
    else m.rsStore r.line (freshVal r.line r.data (!recOk r)) r.arg

/-- TWIN_COPY_POISON: stored poisoned, or the good line goes back as REVERSE (R424). -/
def execTwinCopyPoison (t : Nat) (s : State) : Out :=
  s.run t fun m => m.copyRec 0x0C fun m r s =>
    let same := lc32 (lineBytes s.val.data) (dpaWord r.line) = r.lc
    if s.ok && s.ver = r.arg && s.val.poison && !s.blank && same then m.inc Reg.Twin.RS_SKIPPED
    else if s.ok && s.ver = r.arg && !s.blank && !s.val.poison then
      m.twSend { op := 0x11, line := r.line, arg := r.arg, data := s.val.data, lc := unitLc s.val.data r.line }
    else (m.rsStore r.line { data := r.data, poison := true } r.arg).recordPoison r.line 1

/-- TWIN_COPY_BLANK: skipped where the stored line is blank, else stored blank (R424). -/
def execTwinCopyBlank (t : Nat) (s : State) : Out :=
  s.run t fun m => m.copyRec 0x0D fun m r s =>
    if s.ok && s.blank && !s.val.poison then m.inc Reg.Twin.RS_SKIPPED
    else
      match m.linePl r.line with
      | some pl => (((m.takeFb 2).putImage pl (blankImage pl)).fixParity pl |>.updateCistern r.line (freshVal r.line 0 false)).inc Reg.Twin.RS_COPIED
      | none => m.rsStore r.line (freshVal r.line 0 false) 0

/-- TWIN_REVERSE: the source stores the target's good line and clears the poison (R424). -/
def twinReverse (m : Mach) : Mach :=
  match m.takeS 0x11 with
  | none => m
  | some (m, r) =>
    if m.fsm .twin = 3 && m.flag Reg.Twin.RS_SOURCE && recOk r then
      let m := (m.takeFb 2).inc Reg.Twin.RS_REVERSE
      let v := freshVal r.line r.data false
      match m.linePl r.line with
      | some pl => ((m.storeInternal r.line pl v r.arg).updateCistern r.line v).clearPrec r.line
      | none => m.mergeWhole r.line v
    else m

def execTwinReverse (t : Nat) (s : State) : Out := s.run t twinReverse

/-- TWIN_MAP: words of the peer's away map join the pass of a split resilver (R422). A region that the boundary has passed
takes it back. -/
def twinMap (m : Mach) : Mach :=
  match m.takeS 0x12 with
  | none => m
  | some (m, r) =>
    let base := (r.line * 2 ^ 16 + r.arg) * 64
    let new := ((List.range 512).filter fun k => r.data.getLsbD k).map fun k => base + k
    let m := m.modTwin fun x => { x with peerAway := addPlots x.peerAway new }
    match new.head? with
    | some q => if q * 4096 < m.rd Reg.Twin.RS_BOUNDARY then m.wr Reg.Twin.RS_BOUNDARY (q * 4096) else m
    | none => m

def execTwinMap (t : Nat) (s : State) : Out := s.run t twinMap

/-- TWIN_PAIRED: the handover to PAIRED begins at the target (R426). -/
def twinPaired (m : Mach) : Mach :=
  match m.takeS 0x13 with
  | none => m
  | some (m, _) => if m.fsm .twin = 3 then m.modTwin fun x => { x with handover := true } else m

def execTwinPaired (t : Nat) (s : State) : Out := s.run t twinPaired

/-- PAIRED_HANDOVER_DONE: every forwarded write is ordered and every record acknowledged; the device is PAIRED (R426). -/
def pairedHandoverDone (m : Mach) : Mach :=
  if m.fsm .twin = 3 && m.twin.handover && m.twin.fwd.isEmpty && m.twin.toks.isEmpty && m.twin.want.isEmpty &&
      m.twin.held.isEmpty then m.goPaired true
  else m

def execPairedHandoverDone (t : Nat) (s : State) : Out := s.run t pairedHandoverDone

/-- TWIN_DIR: the peer's change of a directory entry is mirrored here (R382, R384, R428). -/
def twinDir (m : Mach) : Mach :=
  match m.takeS 0x0E with
  | none => m
  | some (m, r) =>
    let w := r.data.toNat % 2 ^ 64
    let e : DirEnt := { state := bits w 24 23, region := bits w 29 25, holders := bits w 37 30, own := bits w 24 23 = 2
                        aged := w.testBit 38, win := w / 2 ^ 39 % 2 ^ 24 }
    (m.modShared fun x => { x with
      dir := if w = 0 then Tbl.del x.dir r.line else Tbl.put x.dir r.line { e with used := x.uses }
      uses := x.uses + 1 }).showDir

def execTwinDir (t : Nat) (s : State) : Out := s.run t twinDir

end Sys2Proof.Machine
end

