-- ==== Sys2Proof/Machine/Path.lean ====
section
/-! DEFINITION. Paths and membership as links come and go: path changes (R356, R364, R373), a device that becomes reachable or
unreachable (R369, R372), management messages on links (R352), ALONE and JOINING (R348). -/

namespace Sys2Proof.Machine

/-! ### Remote lines (R173, R366) -/

/-- The device to which a REMOTE line's requests go. -/
def Mach.lineDev (m : Mach) (line : Nat) : Option Nat :=
  match m.place line with
  | .remote s _ =>
    if s != 0 && m.act Reg.TractTable.PEER_VALID 0 (s - 1) != 0 then some (m.act Reg.TractTable.PEER_ID 0 (s - 1)) else none
  | _ => none

/-- Show how many accepted writes wait for a destination that cannot be reached (R369). -/
def Mach.showWrWait (m : Mach) : Mach :=
  m.wr Reg.Turnout.REMOTE_WR_WAIT (m.tagsWhere fun p x => p != 4 && x.st = .accepted && x.op.writes &&
    match m.lineDev x.line with | some d => !m.reachable d | none => false).length

/-- Answer a read NOROUTE: code 4, stage 6, row 5, or 7 for one that was best effort or demoted; a Data Mover access ends
so too (R117, R369). -/
def Mach.noroute (m : Mach) (p g : Nat) : Mach :=
  match m.tag? p g with
  | none => m
  | some x =>
    let m := if x.op.reads && p < 4 then
        (m.setTag p g { x with row := if x.guar && !x.demoted then 5 else 7 }).inc Reg.Turnout.NOROUTE_RDS
      else m
    m.answer p g (if x.op.reads then poisonData else .cmp) 4 6

/-- The reads outstanding at a device that can no longer be reached, and the Data Mover's accesses, end with NOROUTE
(R369). -/
def Mach.endReads (m : Mach) (d : Nat) : Mach :=
  let gone := m.tagsWhere fun p x => x.st = .accepted && (p = 5 || p < 4 && x.op.reads) && m.lineDev x.line = some d
  m.each gone fun m e => m.noroute e.1 e.2.1

/-! ### Source slots (R363) -/

/-- A source that cannot be reached and has no unit in the receive buffer gives its slot back (R363). -/
def Mach.freeSlotOf (m : Mach) (d : Nat) : Mach :=
  if m.turn.slots.contains d && !m.reachable d && !(m.turn.buf.any fun r => r.unit.src = d) then
    let m := m.modTurn fun x => { x with slots := x.slots.filter fun k => k != d }
    m.wr Reg.Turnout.SLOTS_USED m.turn.slots.length
  else m

/-! ### Management messages (R352) -/

/-- The operation code of a message. -/
def mgmtOp : Mgmt → Nat
  | .claim .. => 1
  | .idReq .. => 2
  | .idGrant .. => 3
  | .idTable .. => 4
  | .linkState .. => 5
  | .leave .. => 6
  | .spdm .. => 7
  | .keyUpdate .. => 8

/-- Send a message of an originator on a link. -/
def Mach.mgmtTo (m : Mach) (l : Nat) (msg : Mgmt) (serial no : Nat) : Mach :=
  let u : FUnit := { utype := 10, isLocal := true, src := m.rd Reg.Turnout.MY_ID, be := mgmtOp msg, mgmt := some (msg, serial, no) }
  (m.modLink l fun x => { x with queue := x.queue ++ [u] }).inc Reg.Turnout.UNITS_TX

/-- The fabric links of the device; none while its Turnout page is disabled (R348). -/
def Mach.fabLinks (m : Mach) : List Nat := if m.enabled .turnout then (List.range 8).filter m.fabricLink else []

/-- Send a message of this device to one neighbour. -/
def Mach.mgmtSend (m : Mach) (l : Nat) (msg : Mgmt) : Mach :=
  let n := (m.turn.msgNo + 1) % 2 ^ 32
  (m.modTurn fun x => { x with msgNo := n }).mgmtTo l msg m.serial n

/-- Flood a message of this device on every fabric link. -/
def Mach.flood (m : Mach) (msg : Mgmt) : Mach :=
  let n := (m.turn.msgNo + 1) % 2 ^ 32
  let m := m.modTurn fun x => { x with msgNo := n, seen := x.seen ++ [(m.serial, n)] }
  m.each m.fabLinks fun m l => m.mgmtTo l msg m.serial n

/-- Forward a flooded message on every fabric link except the one on which it arrived. -/
def Mach.reflood (m : Mach) (from_ : Nat) (msg : Mgmt) (serial no : Nat) : Mach :=
  m.each (m.fabLinks.filter fun l => l != from_) fun m l => m.mgmtTo l msg serial no

/-! ### The ID table (R350) -/

/-- Show the ID table. -/
def Mach.showTable (m : Mach) : Mach :=
  m.wr Reg.Turnout.MEMBER_MASK ((m.turn.table.map fun e => 2 ^ (e.id % 64)).eraseDups).sum

/-- ID_TABLE messages of up to 7 entries each. -/
def tableMsgs : Nat → List IdEnt → List Mgmt
  | 0, _ => []
  | n + 1, es => if es.isEmpty then [] else .idTable (es.take 7) :: tableMsgs n (es.drop 7)

/-- The root floods its table (R350). -/
def Mach.floodTable (m : Mach) : Mach :=
  if m.flag Reg.Turnout.IS_ROOT then m.each (tableMsgs 10 m.turn.table) fun m msg => m.flood msg else m

/-- Mark an ID as held for `ID_HOLD_S`, or as in use again (R350). -/
def Mach.markHeld (m : Mach) (d : Nat) (held : Bool) : Mach :=
  if m.turn.table.any fun e => e.id = d && e.held != held then
    let m := m.modTurn fun x => { x with
      table := x.table.map fun e => if e.id = d then { e with held := held } else e
      holds := (x.holds.filter fun h => h.id != d) ++
        (if held then [⟨d, m.tide + m.act Reg.Turnout.ID_HOLD_S * 1000000000⟩] else []) }
    m.floodTable
  else m

/-! ### Path changes (R356, R364, R365, R369) -/

/-- Every flow to a destination that has been used resynchronises on the path in use (R364, R373). -/
def Mach.resyncAll (m : Mach) (d : Nat) : Mach :=
  m.each (List.range 16) fun m a =>
    let f := m.txFlow d a
    if f.st != 0 || !f.wait.isEmpty || !f.held.isEmpty then m.resync d a else m

/-- A destination becomes unreachable (R365, R369, R372). -/
def Mach.deviceGone (m : Mach) (d : Nat) : Mach :=
  let m := m.event .turnout 0 0x3013 d (m.rd Reg.Turnout.MEMBERS)
  let m := m.each (List.range 16) fun m a =>
    if (m.txFlow d a).st != 0 then m.setTx d a { m.txFlow d a with st := 0, lastTide := m.tide } else m
  let m := ((m.deviceLost d).tmLost d).endReads d
  ((m.freeSlotOf d).showWrWait).markHeld d true

/-- `PATH_USE` of a destination takes a new value: cause 1 a link, 2 a credit timeout, 3 a routing commit (R356, R375). -/
def Mach.changePath (m : Mach) (d v cause : Nat) : Mach :=
  let old := m.pathUse d
  let m := ((m.putPath d v).inc Reg.Turnout.PATH_CHANGES).event .turnout 0 0x3014 (d + 256 * v) cause
  if v = 0 then m.deviceGone d
  else
    let m := if old = 0 then ((m.event .turnout 0 0x3012 d (m.pathHops d)).showWrWait).markHeld d false else m
    m.resyncAll d

/-- The path in use to a destination fails: the alternate takes over, or nothing does (R356). -/
def Mach.pathFails (m : Mach) (d cause : Nat) : Mach :=
  let e := m.act Reg.Turnout.ROUTE 0 d
  match m.pathUse d with
  | 1 => m.changePath d (if rAltV e && m.fabricLink (rAlt e) then 2 else 0) cause
  | 2 => m.changePath d 0 cause
  | _ => m

/-- Every destination whose path in use goes over a link loses that path (R344, R356). -/
def Mach.linkPathsFail (m : Mach) (l : Nat) : Mach :=
  m.each (List.range 64) fun m d => if m.pathLink d = some l then m.pathFails d 1 else m

/-- What a routing commit gives a destination (R356). -/
def Mach.routedUse (m : Mach) (d : Nat) : Nat :=
  let e := m.act Reg.Turnout.ROUTE 0 d
  if !m.fabricOn then 0
  else if rPriV e && m.fabricLink (rPri e) then 1
  else if rAltV e && m.fabricLink (rAlt e) then 2
  else 0

/-- A routing commit applies: `was` gives each destination's path and link before it; a path that changes resynchronises its
flows, and a RESYNC under way starts again (R356, R373). -/
def Mach.routesApplied (m : Mach) (was : Nat → Nat × Option Nat) : Mach :=
  m.each (List.range 64) fun m d =>
    if m.pathUse d = 3 then m
    else
      let v := m.routedUse d
      let n := m.putPath d v
      if (v, n.pathLink d) != was d then m.changePath d v 3
      else m.each (List.range 16) fun m a => if (m.txFlow d a).st = 2 then m.resync d a else m

/-! ### Joining and ALONE (R348, R349) -/

/-- The claim of this device, where it is eligible for root (R349). -/
def Mach.ownClaim (m : Mach) : Option Claim :=
  if m.turn.eligible then some ⟨m.serial, m.rd Reg.Turnout.ROOT_PRIO, m.rd Reg.Turnout.FAB_EPOCH, none⟩ else none

/-- Flood the best claim. -/
def Mach.floodClaim (m : Mach) : Mach :=
  match m.turn.best with
  | some c => m.flood (.claim c.serial c.prio c.epoch)
  | none => m

/-- The ID that the table records for a serial number. -/
def Mach.idOf (m : Mach) (serial : Nat) : Option Nat := (m.turn.table.find? fun e => e.serial = serial).map fun e => e.id

/-- The fabric links with the neighbours' IDs and the widths, as LINK_STATE tells them (R352). -/
def Mach.ownLinks (m : Mach) : List (Nat × Nat × Nat) :=
  m.fabLinks.filterMap fun l => (m.idOf (m.link l).peerSerial).map fun d => (l, d, m.rd Reg.Culvert.WIDTH l)

/-- Flood LINK_STATE, where the device holds an ID; its own entry of the link-state database follows (R352). -/
def Mach.floodLinks (m : Mach) : Mach :=
  if m.flag Reg.Turnout.ID_VALID then
    let d := m.rd Reg.Turnout.MY_ID
    let ls := m.ownLinks
    (m.modTurn fun x => { x with lsdb := Tbl.put x.lsdb d ls }).flood (.linkState d ls)
  else m

/-- The device gives up its ID: no path leads anywhere (R348, R351). -/
def Mach.dropId (m : Mach) : Mach :=
  let m := m.each (List.range 64) fun m d =>
    if m.pathUse d = 1 || m.pathUse d = 2 then m.changePath d 0 1 else m
  let m := if m.flag Reg.Turnout.ID_VALID then m.putPath (m.rd Reg.Turnout.MY_ID) 0 else m
  ((m.wr Reg.Turnout.ID_VALID 0).wr Reg.Turnout.MY_ID 0).wr Reg.Turnout.IS_ROOT 0

/-- The device becomes ALONE (R348). -/
def Mach.goAlone (m : Mach) : Mach :=
  if m.fsm .turnout = 0 then m
  else
    let m := m.dropId.setFsm .turnout 0
    m.modTurn fun x => { x with best := none, settled := false, asked := false, back := [] }

/-- The device begins to join: its election starts with its own claim (R349). -/
def Mach.join (m : Mach) : Mach :=
  let m := m.setFsm .turnout 1
  (m.modTurn fun x => { x with best := m.ownClaim, bestAt := m.tide, settled := false, asked := false }).floodClaim

/-- A new election starts from this device's own claim (R349, R372). -/
def Mach.reElect (m : Mach) : Mach :=
  let m := m.wr Reg.Turnout.IS_ROOT 0
  (m.modTurn fun x => { x with best := m.ownClaim, bestAt := m.tide, settled := false, asked := false }).floodClaim

/-- A device is no longer a member: no path leads to it, its ID is held, and a lost root is elected again (R350, R372). -/
def Mach.memberGone (m : Mach) (d serial : Nat) : Mach :=
  let owner := m.turn.table.any fun e => e.id = d && e.serial = serial
  let m := if owner then m.modTurn fun x => { x with lsdb := Tbl.del x.lsdb d } else m
  let m := if owner && (m.pathUse d = 1 || m.pathUse d = 2) then m.changePath d 0 1
    else if owner then m.markHeld d true else m
  match m.turn.best with
  | some b => if b.serial = serial then m.reElect else m
  | none => m

/-- The devices that a link-state database reaches from those listed; `n` bounds how many links it follows. -/
def reachFrom (db : List (Nat × List (Nat × Nat × Nat))) : Nat → List Nat → List Nat
  | 0, r => r
  | n + 1, r =>
    let next := ((r.flatMap fun d => (Tbl.getD db d []).map fun l => l.2.1).filter fun d => !r.contains d).eraseDups
    if next.isEmpty then r else reachFrom db n (r ++ next)

/-- The devices that the link-state database reaches (R355, R372). -/
def Mach.lsReach (m : Mach) : List Nat := if m.flag Reg.Turnout.ID_VALID then reachFrom m.turn.lsdb 63 [m.rd Reg.Turnout.MY_ID] else []

/-- Members that the link-state database reached, and does not reach any more, are removed (R372). -/
def Mach.lostMembers (m : Mach) (was : List Nat) : Mach :=
  let now := m.lsReach
  m.each (m.turn.table.filter fun e => was.contains e.id && !now.contains e.id) fun m e => m.memberGone e.id e.serial

/-- The set of fabric links has changed (R348, R352). -/
def Mach.linksChanged (m : Mach) : Mach :=
  if m.fabLinks.isEmpty then m.goAlone
  else if m.fsm .turnout = 0 then m.join
  else if m.fsm .turnout = 4 then m
  else m.floodLinks.lostMembers m.lsReach

end Sys2Proof.Machine
end

