-- ==== Sys2Proof/Machine/Wire.lean ====
section
/-! DEFINITION. What a Culvert transmitter puts on its lanes (R316, R322 to R327): the bytes of a flit's body, the seal of AES-256-GCM, the
CRC-32, the codeword pair, RS(544,514), the lanes. The inner steps of GCM and of the code of IEEE 802.3 are the published ones (PRESUMED, log
entries 20 and 136). -/

namespace Sys2Proof.Machine

/-! ### AES-256-GCM (R316) -/

/-- Multiplication in the field of GHASH: `n` bits of `x` are left, the most significant first. -/
def ghashMul (x : Nat) : Nat → Nat → Nat → Nat
  | 0, z, _ => z
  | n + 1, z, v => ghashMul x n (if x.testBit n then z ^^^ v else z) (v / 2 ^^^ v % 2 * (0xE1 * 2 ^ 120))

/-- GHASH of whole blocks under the hash key. -/
def ghash (h : Nat) (bs : List (List Nat)) : Nat := bs.foldl (fun y b => ghashMul (y ^^^ fromBe b) 128 0 h) 0

/-- Bytes filled up with zeros to whole blocks of 16. -/
def padded (l : List Nat) : List Nat := l ++ List.replicate ((16 - l.length % 16) % 16) 0

/-- The ciphertext and the 96-bit tag of AES-256-GCM under a 12-byte IV. -/
def gcmSeal (key iv aad pt : List Nat) : List Nat × List Nat :=
  let blocks := pieces 16 ((pt.length + 15) / 16) pt
  let ct := (blocks.zipIdx.map fun b => xorBytes b.1 (aesEnc key (iv ++ beBytes 4 (b.2 + 2)))).flatten
  let all := padded aad ++ padded ct ++ beBytes 8 (8 * aad.length) ++ beBytes 8 (8 * ct.length)
  let s := ghash (fromBe (aesEnc key (List.replicate 16 0))) (pieces 16 (all.length / 16) all)
  (ct, (xorBytes (aesEnc key (iv ++ beBytes 4 1)) (beBytes 16 s)).take 12)

/-! ### RS(544,514) over GF(2^10) -/

/-- Multiplication modulo x^10 + x^3 + 1: `n` bits of `a` are left, the most significant first. -/
def gfTen (a b : Nat) : Nat → Nat → Nat
  | 0, z => z
  | n + 1, z =>
    let z := 2 * z
    let z := if z < 1024 then z else z ^^^ 0x409
    gfTen a b n (if a.testBit n then z ^^^ b else z)

/-- The product of two symbols. -/
def symMul (a b : Nat) : Nat := gfTen a b 10 0

/-- The generator with the `n` roots α^0 to α^(n - 1), the highest power first; α is 2. -/
def rsGen : Nat → Nat → List Nat → List Nat
  | 0, _, g => g
  | n + 1, a, g => rsGen n (symMul a 2) (xorBytes (g ++ [0]) (0 :: g.map fun c => symMul c a))

/-- The 30 parity symbols of the data symbols, the first sent first. -/
def rsParity (ds : List Nat) : List Nat :=
  let g := (rsGen 30 1 [1]).tail
  ds.foldl (fun p d =>
    let f := d ^^^ p.headD 0
    xorBytes (p.tail ++ [0]) (g.map fun c => symMul c f)) (List.replicate 30 0)

/-! ### Bytes of a flit (R325, R328, R358, R401) -/

/-- The operation code of a management message (R352). -/
def mgmtCode : Mgmt → Nat
  | .claim _ _ _ => 1
  | .idReq _ _ => 2
  | .idGrant _ _ _ => 3
  | .idTable _ => 4
  | .linkState _ _ => 5
  | .leave _ _ => 6
  | .spdm _ _ _ => 7
  | .keyUpdate _ => 8

/-- What a management message says, in numbers. -/
def mgmtNums : Mgmt → List Nat
  | .claim a b c => [a, b, c]
  | .idReq a b => [a, b]
  | .idGrant a b c => [a, b, c]
  | .idTable es => es.flatMap fun e => [e.id, e.serial, e.held.toNat]
  | .linkState a ls => a :: ls.flatMap fun x => [x.1, x.2.1, x.2.2]
  | .leave a b => [a, b]
  | .spdm a b c => [a.toNat, b.toNat, c]
  | .keyUpdate a => [a.toNat]

/-- The 116 bytes of a unit (R358). The place of the fields of a management message in the data bytes is open (log entry 136). -/
def unitBytes (u : FUnit) : List Nat :=
  let w0 := u.utype % 16 + u.isLocal.toNat * 2 ^ 4 + u.guar.toNat * 2 ^ 5 + u.replay.toNat * 2 ^ 6 + u.src % 64 * 2 ^ 8 + u.dst % 64 * 2 ^ 16 +
    u.allot % 16 * 2 ^ 24 + u.hops % 16 * 2 ^ 28 + u.fseq % 2 ^ 32 * 2 ^ 32
  let w1 := u.line % 2 ^ 40 + u.xid % 2 ^ 16 * 2 ^ 40 + u.code % 8 * 2 ^ 56 + u.demoted.toNat * 2 ^ 59
  let w2 := match u.mgmt with | some (g, _, _) => mgmtCode g | none => u.be
  let w3 := u.fack % 2 ^ 32 + u.credRet % 2 ^ 16 * 2 ^ 32 + u.fackV.toNat * 2 ^ 48
  let d := match u.mgmt with | some (g, a, b) => Config.msgBytes (mgmtNums g ++ [a, b]) | none => u.data
  leBytes 8 w0 ++ leBytes 8 w1 ++ leBytes 8 w2 ++ leBytes 8 w3 ++ leBytes 64 d.toNat ++ leBytes 4 u.lc ++ List.replicate 16 0

/-- The 76 bytes of a record of the twin stream (R401). The place of the fields of HELLO in its data bytes is open (log entry 136). -/
def twinRecBytes (r : TwRec) : List Nat :=
  let d := match r.hello with
    | some h => Config.msgBytes [h.serial, h.role, h.epoch, h.content, h.peerContent, h.fresh.toNat, h.st, h.nlinks, h.adm, h.mir, h.dpc, h.raw]
    | none => r.data
  leBytes 64 d.toNat ++ leBytes 4 r.lc ++ leBytes 5 r.line ++ leBytes 1 r.op ++ leBytes 2 r.arg

/-- The operands of a control operation, from byte 8 on (R328); `serial` is the sender's. -/
def ctrlBytes (c : Ctrl) : List Nat :=
  match c.op with
  | 0x01 => leBytes 3 (c.a % 2 ^ 20)
  | 0x03 => leBytes 3 (c.a % 2 ^ 20) ++ leBytes 6 (c.b % 2 ^ 44) ++ leBytes 1 c.c
  | 0x05 => leBytes 1 c.a ++ leBytes 3 c.b
  | 0x08 => leBytes 1 c.a ++ leBytes 3 c.b
  | 0x09 => leBytes 3 (c.a % 2 ^ 20) ++ leBytes 1 c.b
  | 0x0B => leBytes 8 c.a ++ leBytes 1 c.b ++ leBytes 1 c.c
  | _ => leBytes 1 c.a

/-- The 232 bytes of a body (R325, R328, R358, R401). -/
def bodyBytes (b : FlitBody) : List Nat :=
  let bs := match b with
    | .idle => []
    | .units us => us.flatMap unitBytes
    | .recs s rs => leBytes 1 (11 + rs.length % 4 * 16) ++ leBytes 3 s ++ rs.flatMap twinRecBytes
    | .ctrl c => ctrlBytes c
  bs ++ List.replicate (232 - bs.length) 0

/-- The key of a direction of a link, and its salt, as 32 and 4 bytes; they come from the session (R316, R353). Number 0 is all zeros: what
carries the session's own exchange is sealed under it (R343). -/
def linkKey (l n : Nat) : List Nat × List Nat :=
  let k := if n = 0 then 0 else (Config.linkKey l n).toNat
  (leBytes 32 k, leBytes 4 (k / 2 ^ 256))

/-- The 256 bytes of a flit: the header, the encrypted body, the tag, the CRC-32 over the sealed bytes (R316, R325, R326). -/
def flitBytes (key salt : List Nat) (x : WireFlit) : List Nat :=
  let h := leBytes 8 x.hdr
  let (ct, tag) := gcmSeal key (salt ++ leBytes 8 x.count) h (bodyBytes x.body)
  let bs := h ++ ct ++ tag
  bs ++ leBytes 4 (crc32 bs)

/-! ### The codeword pair (R323) -/

/-- The 40-bit header of a pair: the four marker symbols with the pair count. -/
def pairHdr (n : Nat) : Nat := ((List.range 4).map fun j => (0b1011 * 64 + n / 64 ^ j % 64) * 1024 ^ j).sum

/-- The 10-bit symbols of a message from a bit on. -/
def symsAt (msg bit n : Nat) : List Nat := (List.range n).map fun i => msg / 2 ^ (bit + 10 * i) % 1024

/-- The two codewords of a pair whose count is `n`, with the bytes of its five flits. -/
def codewords (n : Nat) (flits : List Nat) : List Nat × List Nat :=
  let msg := pairHdr n + fromLe flits * 2 ^ 40
  let a := symsAt msg 0 2 ++ symsAt msg 40 512
  let b := symsAt msg 20 2 ++ symsAt msg 5160 512
  (a ++ rsParity a, b ++ rsParity b)

/-- The 1,088 symbols of a pair in the order they are sent: two of A, two of B, by turns; the marker symbols are the first four. -/
def pairSymbols (n : Nat) (flits : List Nat) : List Nat :=
  let (a, b) := codewords n flits
  ((pieces 2 272 a).zip (pieces 2 272 b)).flatMap fun e => e.1 ++ e.2

/-- What each logical lane carries: symbol k goes to lane k mod `w`. -/
def laneSymbols (w : Nat) (ss : List Nat) : List (List Nat) :=
  (List.range w).map fun j => (ss.zipIdx.filter fun e => e.2 % w = j).map fun e => e.1

/-! ### Flits on their way out (R322) -/

/-- A link's transmitter. -/
def Mach.wireOf (m : Mach) (l : Nat) : WireX := Tbl.getD m.wire l {}

/-- Change a link's transmitter. -/
def Mach.modWire (m : Mach) (l : Nat) (f : WireX → WireX) : Mach := { m with wire := Tbl.put m.wire l (f (m.wireOf l)) }

/-- A flit takes its place in the codeword pair; a pair of five is sealed, encoded and distributed over the lanes under the pair count `n`
(R322, R323). -/
def Mach.putWire (m : Mach) (l n : Nat) (x : WireFlit) : Mach :=
  let w := m.rd Reg.Culvert.WIDTH l
  m.modWire l fun y =>
    if y.slots.length < 4 then { y with slots := y.slots ++ [x] }
    else
      let bytes := (y.slots ++ [x]).flatMap fun f =>
        let (key, salt) := linkKey l f.key
        flitBytes key salt f
      { y with slots := [], lanes := laneSymbols w (pairSymbols n bytes) }

/-- The number of the key that a flit of a phase is sealed under: that of the phase in force, or the one before it (R327, R338); number 0 in
TRAINING and KEYING (R343). -/
def Mach.keyOf (m : Mach) (l phase : Nat) : Nat :=
  let n := (m.wireOf l).keyNo
  let fsm := m.fsm .culvert l
  if fsm = 1 ∨ fsm = 2 then 0
  else if phase = m.rd Reg.Culvert.KEY_PHASE_TX l then n else n - 1

/-- The transmitter has a new key (R316, R338, R353). -/
def Mach.newWireKey (m : Mach) (l : Nat) : Mach := m.modWire l fun y => { y with keyNo := y.keyNo + 1 }

end Sys2Proof.Machine
end

