-- ==== Sys2Proof/Machine/Culvert.lean ====
section
/-! DEFINITION. Culvert links (R321 to R347): sending a flit, receiving one, acknowledgement, NAK and replay, lanes, retrain,
bring-up, keys in band, broken links. -/

namespace Sys2Proof.Machine

/-! ### Figures -/

/-- The payload of a width, in MB/s (R324). -/
def widthMbps : Nat → Nat
  | 4 => 47764
  | 2 => 23882
  | _ => 0

/-- The transmit pair count: a pair takes 170/7 ns at width 4 and 340/7 ns at width 2, from alignment on (R323, R324). -/
def Mach.pairNow (m : Mach) (l : Nat) : Nat :=
  let t := (m.tide - (m.link l).pairAt) * 7
  (if m.rd Reg.Culvert.WIDTH l = 2 then t / 340 else t / 170) % 2 ^ 24

/-- The distance from one sequence to another, modulo 2^20 (R330). -/
def seqDist (a b : Nat) : Nat := (b + 2 ^ 20 - a % 2 ^ 20) % 2 ^ 20

/-- The flits sent and not acknowledged (R330). -/
def Mach.unacked (m : Mach) (l : Nat) : Nat := seqDist (m.rd Reg.Culvert.ACKED l + 1) (m.rd Reg.Culvert.NEXT_TX l)

/-- The window in force (R336). -/
def Mach.windowNow (m : Mach) : Nat := min 262144 (2048 + 16384 * m.nIn)

/-- Set or clear the cap, with its events (R336). -/
def Mach.judgeCap (m : Mach) (l : Nat) : Mach :=
  let m := m.wr Reg.Culvert.WINDOW_NOW m.windowNow l
  let full := m.rd Reg.Culvert.WINDOW_NOW l ≤ m.unacked l
  let was := m.flag Reg.Culvert.AT_CAP l
  if full && !was then
    let m := (m.modLink l fun x => { x with capAt := m.tide }).wr Reg.Culvert.AT_CAP 1 l
    (m.inc Reg.Culvert.CAP_EVENTS l).event .culvert l 0x2C15 l (m.rd Reg.Culvert.WINDOW_NOW l)
  else if !full && was then
    (m.wr Reg.Culvert.AT_CAP 0 l).event .culvert l 0x2C16 l (min (m.tide - (m.link l).capAt) (2 ^ 32 - 1))
  else m

/-- Show the replay buffer (R330, R335, R346). -/
def Mach.showReplay (m : Mach) (l : Nat) : Mach :=
  let x := m.link l
  let sp := (x.held.filter fun f => f.spill).length
  let m := (m.wr Reg.Culvert.UNACKED (m.unacked l) l).wr Reg.Culvert.ONCHIP_USED (x.held.length - sp) l
  let m := (m.wr Reg.Culvert.SPILL_USED sp l).wb Reg.Culvert.MISSING (x.held.any fun f => f.missing) l
  let m := m.wr Reg.Culvert.REPLAY_HEAD ((m.rd Reg.Culvert.ACKED l + 1) % 2 ^ 20) l
  m.wr Reg.Culvert.REPLAY_TAIL ((m.rd Reg.Culvert.NEXT_TX l + 2 ^ 20 - 1) % 2 ^ 20) l

/-- Show a transit queue (R357). -/
def Mach.showTransit (m : Mach) (l : Nat) : Mach :=
  let n := (m.link l).transit.length
  (m.wr Reg.Turnout.TRANSIT_USED n 0 l).peak Reg.Turnout.TRANSIT_PEAK n 0 l

/-- A halted link is HALTED once nothing is unacknowledged and it is UP, or it is broken or OFF (R345, R346). -/
def Mach.linkHalt (m : Mach) (l : Nat) : Mach :=
  let st := m.fsm .culvert l
  if m.flag (Reg.Hdr.HALT .culvert) l && (st = 0 || st = 5 || (st = 3 && m.unacked l = 0 && !m.flag Reg.Culvert.REPLAYING l)) then
    m.reachHalted .culvert l
  else m

/-! ### Sending (R325, R327, R329, R335, R357) -/

/-- The header word of a flit (R325). -/
def flitHdr (type seq ack : Nat) (ackV : Bool) (phase : Nat) (replay : Bool) (op : Nat) : Nat :=
  type + seq % 2 ^ 20 * 2 ^ 4 + ack % 2 ^ 20 * 2 ^ 24 + ackV.toNat * 2 ^ 44 + phase % 2 * 2 ^ 45 + replay.toNat * 2 ^ 46 +
  op % 2 ^ 8 * 2 ^ 48

/-- Put a flit on the lanes with the latest acknowledgement, sealed under its count and its phase's key (R322, R327, R329). -/
def Mach.putFlit (m : Mach) (l type seq phase : Nat) (replay : Bool) (op : Nat) (b : FlitBody) (count : Nat) : Mach :=
  let hdr := flitHdr type seq (m.rd Reg.Culvert.NEXT_RX l + 2 ^ 20 - 1) (m.link l).ackV phase replay op
  (m.putWire l (m.pairNow l) { hdr := hdr, body := b, count := count, key := m.keyOf l phase }).emit (.flit l hdr b)

/-- Send an IDLE or CTRL flit under the next control count (R327). -/
def Mach.putCtrl (m : Mach) (l type op : Nat) (b : FlitBody) : Mach :=
  let n := (m.rd Reg.Culvert.CTRL_TX_COUNT l + 1) % 2 ^ 40
  (m.wr Reg.Culvert.CTRL_TX_COUNT n l).putFlit l type n (m.rd Reg.Culvert.KEY_PHASE_TX l) false op b (2 ^ 63 + n)

/-- The next unit for a link: transit goes first above 512 waiting units, else the two queues take turns (R357). -/
def nextUnit (x : LinkX) : Option (FUnit × LinkX) :=
  match x.transit, x.queue with
  | [], [] => none
  | u :: t, [] => some (u, { x with transit := t, turn := false })
  | [], u :: q => some (u, { x with queue := q, turn := true })
  | u :: t, v :: q =>
    if 512 < x.transit.length || x.turn then some (u, { x with transit := t, turn := false })
    else some (v, { x with queue := q, turn := true })

/-- Up to two units for one flit (R358). -/
def Mach.packUnits (m : Mach) (l : Nat) : Mach × List FUnit :=
  match nextUnit (m.link l) with
  | none => (m, [])
  | some (u, x) =>
    match nextUnit x with
    | none => ((m.modLink l fun _ => x).showTransit l, [u])
    | some (v, y) => ((m.modLink l fun _ => y).showTransit l, [u, v])

/-- Whether a record takes a stream sequence (R402). -/
def recSeq (op : Nat) : Bool := (1 ≤ op && op ≤ 6) || (0x0B ≤ op && op ≤ 0x0E) || (0x11 ≤ op && op ≤ 0x15)

/-- Whether a record uses a stream credit: writes, and the coherent requests CRD and EVICT (R404, R429). -/
def recCred (r : TwRec) : Bool := (1 ≤ r.op && r.op ≤ 4) || (r.op = 0x14 && (r.arg % 16 = 1 || r.arg % 16 = 2))

/-- The ACK record that is due (R403, R404). -/
def Mach.ackRec (m : Mach) : TwRec :=
  let fack := (m.rd Reg.Twin.RX_NEXT + 2 ^ 32 - 1) % 2 ^ 32
  { op := 0x07, data := BitVec.ofNat 512 (fack + m.twin.credRet % 2 ^ 16 * 2 ^ 32) }

/-- Take up to `n` records from a list that go with the sequence `s`, consecutively. -/
def takeRun (s : Nat) : Nat → List (Nat × TwRec) → List TwRec
  | 0, _ => []
  | n + 1, l =>
    match l.find? fun r => r.1 = s with
    | some r => r.2 :: takeRun ((s + 1) % 2 ^ 32) n l
    | none => []

/-- Number and hold up to `n` new records of the stream, while credits and the hold of 8,192 allow (R403, R404). -/
def Mach.newRecs (m : Mach) (l : Nat) : Nat → List TwRec → Mach × List TwRec
  | 0, acc => (m, acc)
  | n + 1, acc =>
    match m.twin.want with
    | [] => (m, acc)
    | w :: rest =>
      if 8192 ≤ m.twin.held.length || (recCred w.r && m.rd Reg.Twin.TX_CRED = 0) then (m, acc)
      else
        let s := m.rd Reg.Twin.TX_NEXT
        let h : TRec := { w with seq := s, link := l, tide := m.tide }
        let m := m.modTwin fun x => { x with want := rest, held := x.held ++ [h], nextLink := l }
        let m := m.wr Reg.Twin.TX_NEXT ((s + 1) % 2 ^ 32)
        let m := if recCred w.r then m.wr Reg.Twin.TX_CRED (m.rd Reg.Twin.TX_CRED - 1) else m
        m.newRecs l n (acc ++ [w.r])

/-- The records of the next flit on a twin link, in the order of R406, with the sequence of the first sequenced one. -/
def Mach.packRecs (m : Mach) (l : Nat) : Mach × Nat × List TwRec :=
  let q := (m.link l).recQ
  let un := q.filter fun r => r.1 = 2 ^ 32
  let a := ((un.filter fun r => 0x08 ≤ r.2.op && r.2.op ≤ 0x0A).take 3)
  let m := m.modLink l fun x => { x with recQ := a.foldl (fun q r => q.erase r) x.recQ }
  let rs := a.map fun r => r.2
  let (m, rs) := if rs.length < 3 && m.twin.ackWant then
      let r := m.ackRec
      (m.modTwin fun x => { x with ackWant := false, credRet := 0 }, rs ++ [r])
    else (m, rs)
  let b := ((un.filter fun r => r.2.op = 0x0F || r.2.op = 0x10).take (3 - rs.length))
  let m := m.modLink l fun x => { x with recQ := b.foldl (fun q r => q.erase r) x.recQ }
  let rs := rs ++ b.map fun r => r.2
  match (q.filter fun r => r.1 != 2 ^ 32).head? with
  | some (s, _) =>
    let run := takeRun s (3 - rs.length) (q.filter fun r => r.1 != 2 ^ 32)
    let m := m.modLink l fun x => { x with
      recQ := x.recQ.filter fun r => r.1 = 2 ^ 32 || !(r.1 - s < run.length && s ≤ r.1) }
    (m, s, rs ++ run)
  | none =>
    let s := m.rd Reg.Twin.TX_NEXT
    if m.nextTwin m.twin.nextLink = some l then
      let (m, rs) := m.newRecs l (3 - rs.length) rs
      (m, s, rs)
    else (m, s, rs)

/-- Send a new DATA flit: it takes the next sequence, is held for replay, and moves the oldest flit off the ring of 2,048 to
the spill area, four lines under the table key (R298, R330, R335, R338). -/
def Mach.sendData (m : Mach) (l : Nat) (b : FlitBody) : Mach :=
  let s := m.rd Reg.Culvert.NEXT_TX l
  let m := if (m.link l).switchSeq = some s then
      let ph := 1 - m.rd Reg.Culvert.KEY_PHASE_TX l
      let m := ((m.wr Reg.Culvert.KEY_PHASE_TX ph l).wr Reg.Culvert.CTRL_TX_COUNT 0 l).wr Reg.Culvert.WRAP_TX 0 l
      let m := (m.modLink l fun x => { x with switchSeq := none, keyAt := m.tide }).newWireKey l
      (m.inc Reg.Crypto.LG_REKEYS 0 l).event .culvert l 0x2C19 l ph
    else m
  let ph := m.rd Reg.Culvert.KEY_PHASE_TX l
  let count := m.rd Reg.Culvert.WRAP_TX l * 2 ^ 20 + s
  let m := m.putFlit l 1 s ph false 0 b count
  let m := m.wr Reg.Culvert.NEXT_TX ((s + 1) % 2 ^ 20) l
  let m := if s + 1 = 2 ^ 20 then m.inc Reg.Culvert.WRAP_TX l else m
  let x := m.link l
  let held := x.held ++ [{ seq := s, phase := ph, body := b, tide := m.tide, count := count }]
  let spilt := 2048 < (held.filter fun f => !f.spill).length
  let c := m.spillCanal (l * 2 ^ 20 + s)
  let held := if spilt then
      match held.findIdx? fun f => !f.spill with
      | some k => (held[k]?).elim held fun f => setAt held k { f with spill := true, on := c.getD 0, missing := c.isNone }
      | none => held
    else held
  let m := m.modLink l fun x => { x with held := held }
  let m := if spilt then ((c.elim m fun c => m.spillLines true c 4).inc Reg.Culvert.SPILL_WRITES l).debitRest 4 else m
  ((m.inc Reg.Culvert.FLITS_TX l).showReplay l).judgeCap l

/-- A key switch that is ready and may start sends KEY_SWITCH: no replay, no retrain, no old-phase flit held (R338). -/
def Mach.tryKeySwitch (m : Mach) (l : Nat) : Mach :=
  let x := m.link l
  let ph := m.rd Reg.Culvert.KEY_PHASE_TX l
  if x.newKey && x.keyed && !m.coreAway && m.fsm .culvert l = 3 && !m.flag Reg.Culvert.REPLAYING l && x.switchSeq.isNone &&
      x.held.all fun f => f.phase = ph then
    let s := m.rd Reg.Culvert.NEXT_TX l
    (m.modLink l fun x => { x with newKey := false, switchSeq := some s }).ctrl l { op := 0x09, a := s, b := 1 - ph }
  else m

/-! ### Broken links (R344) -/

/-- The link layer's state goes: keys, replay buffer, spill map, what waited to be sent (R344). -/
def Mach.clearLink (m : Mach) (l : Nat) : Mach :=
  let m := m.modLink l fun x => { arr := x.arr, turn := x.turn, peerSerial := x.peerSerial, peerSpare := x.peerSpare, brokenAt := m.tide }
  let m := ((m.wr Reg.Culvert.ONCHIP_USED 0 l).wr Reg.Culvert.SPILL_USED 0 l).wr Reg.Culvert.REPLAYING 0 l
  let m := ((m.wr Reg.Culvert.MISSING 0 l).wr Reg.Culvert.PAYLOAD_MBPS 0 l).wr Reg.Culvert.WIDTH 0 l
  (m.wr Reg.Crypto.LG_KEYED 0 0 l).showTransit l

/-- The transport and the Twin learn that a link is down (R344, R356, R405, R416). -/
def Mach.linkDown (m : Mach) (l : Nat) (fabric : Bool) : Mach :=
  let m := m.linkPathsFail l
  let m := if fabric then m.linksChanged else m
  (m.twinLinkGone l).linkHalt l

/-- A link is declared broken (R344). -/
def Mach.linkBroken (m : Mach) (l cause : Nat) : Mach :=
  let st := m.fsm .culvert l
  if st = 0 || st = 5 then m
  else
    let fab := m.fabricLink l
    let un := m.unacked l
    let m := if (st = 2 || st = 3) && cause != 5 && cause != 6 then m.putCtrl l 2 0x0A (.ctrl { op := 0x0A, a := cause }) else m
    let m := (m.clearLink l).setFsm .culvert 5 l
    let m := (m.wr Reg.Culvert.BROKEN_CAUSE cause l).inc Reg.Culvert.BROKEN_COUNT l
    let m := (m.wr Reg.Culvert.BROKEN_TIDE m.tide l).event .culvert l 0x2C17 l (cause + 256 * (un % 2 ^ 16))
    m.linkDown l fab

/-- A write of 0 to `PAGE_CTL.ENABLE` breaks the link with cause 7; a HALTED link goes OFF (R25, R344, R345). -/
def Mach.culvertDisable (m : Mach) (l : Nat) : Mach :=
  let m := m.wr (Reg.Hdr.ENABLE .culvert) 0 l
  if m.halted .culvert l && m.fsm .culvert l != 5 then
    let fab := m.fabricLink l
    ((m.clearLink l).setFsm .culvert 0 l).linkDown l fab
  else m.linkBroken l 7

/-- CULVERT_DISABLE. -/
def execCulvertDisable (t : Nat) (src : Source) (l : Fin 8) (s : State) : Out :=
  s.run t fun m => m.written src fun m => m.culvertDisable l

/-! ### The flit slot (R329) -/

/-- Send the next flit of a replay; `lost` says that the read of a spilled flit ends in poison (R334, R337). -/
def Mach.replayOne (m : Mach) (l : Nat) (lost : Bool) : Mach :=
  let s := m.rd Reg.Culvert.REPLAY_PTR l
  match (m.link l).held.find? fun f => f.seq = s with
  | none => m.wr Reg.Culvert.REPLAYING 0 l
  | some f =>
    if f.missing || (f.spill && lost) then m.linkBroken l 8
    else
      let m := (m.putFlit l 1 s f.phase true 0 f.body f.count).inc Reg.Culvert.FLITS_REPLAYED l
      let m := if f.spill then (m.spillLines false f.on 4).debitRest 4 else m
      let n := (s + 1) % 2 ^ 20
      let m := m.wr Reg.Culvert.REPLAY_PTR n l
      if n = m.rd Reg.Culvert.NEXT_TX l then ((m.wr Reg.Culvert.REPLAYING 0 l).tryKeySwitch l).linkHalt l else m

/-- The body of a new DATA flit, where something waits to be sent. -/
def Mach.newBody (m : Mach) (l : Nat) : Mach × Option FlitBody :=
  if m.twinLink l && (m.link l).queue.isEmpty then
    if m.fsm .culvert l = 3 then
      let (m, s, rs) := m.packRecs l
      (m, if rs.isEmpty then none else some (.recs (s % 2 ^ 24) rs))
    else (m, none)
  else
    let (m, us) := m.packUnits l
    (m, if us.isEmpty then none else some (.units us))

/-- FLIT_SLOT_SEND: the first that waits of a CTRL flit, a replayed flit, a new DATA flit; else an IDLE flit (R329). Only
control flits leave while the lanes train. -/
def flitSlotSend (l : Nat) (lost : Bool) (m : Mach) : Mach :=
  let st := m.fsm .culvert l
  if st = 0 || st = 5 then m
  else
    match (m.link l).ctrlQ with
    | c :: rest => (m.modLink l fun x => { x with ctrlQ := rest }).putCtrl l 2 c.op (.ctrl c)
    | [] =>
      if st = 1 || st = 4 then m
      else if m.flag Reg.Culvert.REPLAYING l then m.replayOne l lost
      else
        let m := m.judgeCap l
        if m.flag Reg.Culvert.AT_CAP l || m.quiet .culvert l then m.putCtrl l 0 0 .idle
        else
          match m.newBody l with
          | (m, some b) => m.sendData l b
          | (m, none) => m.putCtrl l 0 0 .idle

def execFlitSlotSend (t : Nat) (l : Fin 8) (lost : Bool) (s : State) : Out := s.run t (flitSlotSend l lost)

/-! ### Retrain (R342) -/

/-- Another round of a retrain starts (R342). -/
def Mach.retrainRound (m : Mach) (l reason : Nat) : Mach :=
  let m := m.modLink l fun x => { x with retrainAt := m.tide, reason := reason, ready := false, txSwitch := none, rxSwitch := none }
  let m := m.each (List.range 5) fun m k => m.wr Reg.Culvert.LANE_LOCK 0 l k
  ((m.setFsm .culvert 4 l).inc Reg.Culvert.RETRAINS l).event .culvert l 0x2C11 l reason

/-- A link that is UP retrains, and tells the peer where it starts the retrain itself (R342). -/
def Mach.startRetrain (m : Mach) (l reason : Nat) (tell : Bool) : Mach :=
  if m.fsm .culvert l = 3 then
    let m := (m.retrainRound l reason).wr Reg.Culvert.PAYLOAD_MBPS 0 l
    let m := m.modLink l fun x => { x with ctrlQ := if tell then [{ op := 0x02, a := reason }] else [] }
    if m.twinLink l then m.divertFrom l else m
  else m

/-- CULVERT_RETRAIN: a write of 1 to `RETRAIN` (R342). -/
def execCulvertRetrain (t : Nat) (src : Source) (l : Fin 8) (s : State) : Out :=
  s.run t fun m => m.stageWrite .culvert l src fun m => m.startRetrain l 3 true

/-- PAIR_ALIGNMENT_LOSS: a receiver loses pair alignment (R342). -/
def execPairAlignmentLoss (t : Nat) (l : Fin 8) (s : State) : Out := s.run t fun m => m.startRetrain l 1 true

/-- The lanes of a direction by logical lane: four where four are usable, S in the place of the one that is not, else two
(R321, R341). `ls` lists the usable physical lanes, the best first. -/
def laneChoice (rev : Bool) (ls : List Nat) : List Nat :=
  let us := ((ls.filter fun k => k < 5).eraseDups)
  if 4 ≤ us.length then
    let four := us.take 4
    (List.range 4).map fun i =>
      let k := if rev then 3 - i else i
      if four.contains k then k else 4
  else if 2 ≤ us.length then (List.range 5).filter fun k => (us.take 2).contains k
  else []

/-- A lane map as its register shows it (R346). -/
def laneMap (ls : List Nat) : Nat := (ls.zipIdx.map fun e => e.1 * 8 ^ e.2).sum

/-- The lanes of both directions are chosen, and the pair counts start at 0 (R341, R342); false where a direction has fewer
than two. The eye heights measured are free values. -/
def Mach.chooseLanes (m : Mach) (l : Nat) (tx rx : List Nat) : Mach × Bool :=
  let rev := m.act Reg.Culvert.LANE_REVERSE l != 0
  let a := laneChoice rev tx
  let b := laneChoice rev rx
  let w := min a.length b.length
  if w < 2 then (m, false)
  else
    let old := m.rd Reg.Culvert.WIDTH l
    let m := (m.wr Reg.Culvert.WIDTH w l).wr Reg.Culvert.TX_MAP (laneMap a) l
    let m := m.wr Reg.Culvert.RX_MAP (laneMap b) l
    let m := (m.wb Reg.Culvert.SPARE_USED_TX (a.contains 4) l).wb Reg.Culvert.SPARE_USED_RX (b.contains 4) l
    let m := m.each (List.range 5) fun m k =>
      let m := m.wb Reg.Culvert.LANE_LOCK (rx.contains k) l k
      let m := m.wb Reg.Culvert.LANE_DEGRADED (!rx.contains k) l k
      let m := m.wb Reg.Culvert.LANE_RETIRED (k < 4 && !b.contains k) l k
      (m.wr Reg.Culvert.LANE_EYE m.fresh.toNat l k).nextFree
    let m := (m.modLink l fun x => { x with pairAt := m.tide }).modWire l fun y => { y with slots := [] }
    (if old != 0 && old != w then m.event .culvert l 0x2C14 l (old + 256 * w) else m, true)

/-- RETRAIN_LANES_READY: equalisation is done; lanes and width are chosen and RESUME goes out (R342). `tx` and `rx` list the
usable physical lanes of each direction, the best first. -/
def retrainLanesReady (l : Nat) (tx rx : List Nat) (m : Mach) : Mach :=
  if m.fsm .culvert l = 4 && !(m.link l).ready then
    match m.chooseLanes l tx rx with
    | (m, false) => m.linkBroken l 6
    | (m, true) =>
      let m := m.modLink l fun x => { x with ready := true }
      m.ctrl l { op := 0x03, a := m.rd Reg.Culvert.NEXT_RX l, b := m.rd Reg.Culvert.WRAP_RX l, c := m.rd Reg.Culvert.KEY_PHASE_RX l }
  else m

def execRetrainLanesReady (t : Nat) (l : Fin 8) (tx rx : List Nat) (s : State) : Out := s.run t (retrainLanesReady l tx rx)

/-- RETRAIN_TIMEOUT: a retrain not done within 2 ms has failed; another starts, or the link breaks (R342). -/
def retrainTimeout (l : Nat) (m : Mach) : Mach :=
  if m.fsm .culvert l = 4 && (m.link l).retrainAt + 2000000 ≤ m.tide then
    let m := m.inc Reg.Culvert.RETRAIN_FAIL_RUN l
    if m.rd Reg.Culvert.RETRAIN_MAX l ≤ m.rd Reg.Culvert.RETRAIN_FAIL_RUN l then m.linkBroken l 1
    else m.retrainRound l (m.link l).reason
  else m

def execRetrainTimeout (t : Nat) (l : Fin 8) (s : State) : Out := s.run t (retrainTimeout l)

/-! ### Acknowledgement and NAK (R330, R331, R333, R334) -/

/-- Whether the replay pointer lies before the oldest flit held. -/
def Mach.ptrBehind (m : Mach) (l : Nat) : Bool :=
  m.unacked l < seqDist (m.rd Reg.Culvert.REPLAY_PTR l) (m.rd Reg.Culvert.NEXT_TX l)

/-- Show the round trip of the newest of `n` flits freed (R346). -/
def Mach.showRtt (m : Mach) (l n : Nat) : Mach :=
  match (m.link l).held[n - 1]? with
  | some f => m.wr Reg.Culvert.RTT_NS (min (m.tide - f.tide) 65535) l
  | none => m

/-- Flits up to and including a sequence are acknowledged: `n` of them (R330). -/
def Mach.freeFlits (m : Mach) (l n : Nat) : Mach :=
  if n = 0 then m
  else
    let m := m.showRtt l n
    let m := m.modLink l fun x => { x with held := x.held.drop n }
    let a := (m.rd Reg.Culvert.ACKED l + n) % 2 ^ 20
    let m := m.wr Reg.Culvert.ACKED a l
    let m := if m.flag Reg.Culvert.REPLAYING l && m.ptrBehind l then m.wr Reg.Culvert.REPLAY_PTR ((a + 1) % 2 ^ 20) l else m
    let m := if m.unacked l = 0 then m.wr Reg.Culvert.REPLAYING 0 l else m
    (((m.showReplay l).judgeCap l).tryKeySwitch l).linkHalt l

/-- Take the acknowledgement of a received flit; sixteen invalid ones in a row break the link (R330). -/
def Mach.takeAck (m : Mach) (l : Nat) (h : FlitHdr) : Mach :=
  if !h.ackV then m
  else
    let n := seqDist (m.rd Reg.Culvert.ACKED l) (h.ack % 2 ^ 20)
    if n ≤ m.unacked l then (m.modLink l fun x => { x with badRun := 0 }).freeFlits l n
    else
      let r := (m.link l).badRun + 1
      let m := (m.inc Reg.Culvert.BAD_ACKS l).modLink l fun x => { x with badRun := r }
      if 16 ≤ r then m.linkBroken l 4 else m

/-- A NAK, or the `NEXT_RX` of RESUME, names the first flit to resend (R334). -/
def Mach.takeNak (m : Mach) (l seq : Nat) : Mach :=
  let o := seqDist (m.rd Reg.Culvert.ACKED l + 1) (seq % 2 ^ 20)
  let un := m.unacked l
  if un < o then m.linkBroken l 4
  else
    let replaying := m.flag Reg.Culvert.REPLAYING l
    let at_ := seqDist (m.rd Reg.Culvert.ACKED l + 1) (m.rd Reg.Culvert.REPLAY_PTR l)
    let m := m.freeFlits l o
    if o = un || (replaying && at_ ≤ o) then m
    else (m.wr Reg.Culvert.REPLAYING 1 l).wr Reg.Culvert.REPLAY_PTR seq l

/-- Send a NAK for the expected flit; more than `NAK_LIMIT` in a millisecond start a retrain (R333). -/
def Mach.sendNak (m : Mach) (l : Nat) : Mach :=
  let recent := (m.link l).naks.filter fun t => m.tide < t + 1000000
  let m := m.modLink l fun x => { x with nak := some m.tide, naks := recent ++ [m.tide] }
  let m := (m.ctrl l { op := 0x01, a := m.rd Reg.Culvert.NEXT_RX l }).inc Reg.Culvert.NAKS_SENT l
  if m.rd Reg.Culvert.NAK_LIMIT l < recent.length + 1 then
    (m.event .culvert l 0x2C18 l (recent.length + 1)).startRetrain l 2 true
  else m

/-- The first failed flit or gap after the last NAK was satisfied is answered with a NAK (R333). -/
def Mach.wantNak (m : Mach) (l : Nat) : Mach := if (m.link l).nak.isNone then m.sendNak l else m

/-- NAK_RETRY_TIMEOUT: the expected flit has not come within `NAK_RETRY_NS` (R333). -/
def nakRetryTimeout (l : Nat) (m : Mach) : Mach :=
  match (m.link l).nak with
  | some t => if t + m.rd Reg.Culvert.NAK_RETRY_NS l ≤ m.tide && m.fsm .culvert l = 3 then m.sendNak l else m
  | none => m

def execNakRetryTimeout (t : Nat) (l : Fin 8) (s : State) : Out := s.run t (nakRetryTimeout l)

/-- AT_CAP_TIMEOUT: `AT_CAP` has stayed 1 for longer than the credit return timeout (R336). -/
def atCapTimeout (l : Nat) (m : Mach) : Mach :=
  if m.flag Reg.Culvert.AT_CAP l && (m.link l).capAt + m.act Reg.Turnout.CRED_TIMEOUT_US * 1000 < m.tide then m.linkBroken l 2 else m

def execAtCapTimeout (t : Nat) (l : Fin 8) (s : State) : Out := s.run t (atCapTimeout l)

/-! ### Receiving (R326, R327, R331) -/

/-- Whether a type of flit is taken in the state the link is in. -/
def takesFlit (st : Nat) (data : Bool) : Bool := st = 3 || st = 2 || (!data && (st = 1 || st = 4))

/-- The control count of a received IDLE or CTRL flit: the smallest above the last one that fits (R327). -/
def Mach.takeCount (m : Mach) (l : Nat) (h : FlitHdr) : Mach :=
  let newest := h.phase = m.rd Reg.Culvert.KEY_PHASE_RX l
  let x := m.link l
  let m := if newest && x.switchRx.isSome && !x.rxNew then
      (m.modLink l fun x => { x with rxNew := true }).wr Reg.Culvert.CTRL_RX_COUNT 0 l
    else m
  let c := m.rd Reg.Culvert.CTRL_RX_COUNT l
  let n := c / 2 ^ 20 * 2 ^ 20 + h.seq % 2 ^ 20
  if newest then m.wr Reg.Culvert.CTRL_RX_COUNT (if n ≤ c then n + 2 ^ 20 else n) l else m

/-- A flit that passes FEC and CRC is received: the GCM tag, the control count, the acknowledgement, the header; `k` is what
the flit then does (R326). A failing tag breaks the link (R317). -/
def Mach.flitIn (m : Mach) (l : Nat) (h : FlitHdr) (data : Bool) (k : Mach → Mach) : Mach :=
  if !takesFlit (m.fsm .culvert l) data then m
  else
    let m := m.inc Reg.Culvert.FEC_CORR l 0 h.corr
    if !h.gcm then
      let m := ((m.raiseCause 2).inc Reg.Crypto.LG_AUTH_FAILS 0 l).event .crypto 0 0x2818 l 1
      m.linkBroken l 3
    else
      let m := if m.twinLink l then m.wr Reg.Twin.LAST_RX_TIDE m.tide else m
      let m := if data then m else m.takeCount l h
      let m := m.takeAck l h
      if m.fsm .culvert l = 5 then m
      else if h.bad then m.inc Reg.Culvert.BAD_HDR l
      else k m

/-- Put a MGMT unit into the management queue of 4,096 units (R357); it is dropped while the management core restarts (R507). -/
def Mach.ejectMgmt (m : Mach) (l : Nat) (u : FUnit) : Mach :=
  match u.mgmt with
  | none => m.inc Reg.Turnout.BAD_UNITS
  | some (msg, serial, no) =>
    if m.turn.mgmt.length < 4096 && !m.coreAway then
      (m.modTurn fun x => { x with mgmt := x.mgmt ++ [(l, msg, serial, no)] }).inc Reg.Turnout.UNITS_RX
    else m.inc Reg.Turnout.MGMT_DROPS

/-- Deliver the units of an accepted flit to Turnout (R357). A link that carries no fabric traffic delivers keying messages
alone (R343, R348). -/
def Mach.ejectUnits (m : Mach) (l : Nat) (us : List FUnit) : Mach :=
  let open_ := m.fsm .culvert l = 3 && !m.twinLink l && m.enabled .turnout
  m.each us fun m u =>
    if u.utype = 0 then m
    else if u.utype = 10 then
      match u.mgmt with
      | some (.spdm .., _, _) => m.ejectMgmt l u
      | some (.keyUpdate .., _, _) => m.ejectMgmt l u
      | _ => if open_ then m.ejectMgmt l u else m
    else if open_ then m.modLink l fun x => { x with arr := x.arr ++ [u] }
    else m

/-- The 32-bit stream sequence that a flit's header names (R401). -/
def Mach.streamSeq (m : Mach) (lo : Nat) : Nat :=
  let base := m.rd Reg.Twin.RX_NEXT + 2 ^ 32 - 2 ^ 23
  (base + (lo + 2 ^ 25 - base % 2 ^ 24) % 2 ^ 24) % 2 ^ 32

/-- Deliver the records of an accepted flit to the Twin logic: sequenced ones into the reorder window, duplicates counted
(R401 to R403). -/
def Mach.ejectRecs (m : Mach) (s : Nat) : List TwRec → Mach
  | [] => m
  | r :: rs =>
    if r.op = 0 then m.ejectRecs s rs
    else if recSeq r.op then
      let d := (s + 2 ^ 32 - m.rd Reg.Twin.RX_NEXT) % 2 ^ 32
      let m :=
        if d < 8192 then
          if (Tbl.find m.twin.rx s).isSome then m.inc Reg.Turnout.DUP_UNITS
          else m.modTwin fun x => { x with rx := Tbl.put x.rx s r }
        else if 2 ^ 31 ≤ d then (m.inc Reg.Turnout.DUP_UNITS).modTwin fun x => { x with ackWant := true }
        else m
      m.ejectRecs ((s + 1) % 2 ^ 32) rs
    else (m.modTwin fun x => { x with urx := x.urx ++ [{ r with came := m.tide }] }).ejectRecs s rs

/-- Deliver the body of an accepted DATA flit. -/
def Mach.ejectBody (m : Mach) (l : Nat) (b : FlitBody) : Mach :=
  match b with
  | .units us => m.ejectUnits l us
  | .recs lo rs => if m.twinLink l && m.fsm .culvert l = 3 then m.ejectRecs (m.streamSeq lo) rs else m
  | _ => m

/-- A DATA flit that passes its checks (R331). -/
def Mach.dataIn (m : Mach) (l : Nat) (h : FlitHdr) (b : FlitBody) : Mach :=
  let n := m.rd Reg.Culvert.NEXT_RX l
  let s := h.seq % 2 ^ 20
  if s = n then
    let m := m.wr Reg.Culvert.NEXT_RX ((n + 1) % 2 ^ 20) l
    let m := if n + 1 = 2 ^ 20 then m.inc Reg.Culvert.WRAP_RX l else m
    let m := if (m.link l).switchRx = some n then
        (m.wr Reg.Culvert.WRAP_RX 0 l).modLink l fun x => { x with switchRx := none, rxNew := false }
      else m
    let m := m.modLink l fun x => { x with ackV := true, nak := none }
    (m.inc Reg.Culvert.FLITS_RX l).ejectBody l b
  else if seqDist s n ≤ 2 ^ 18 then m.inc Reg.Culvert.DUP_DISCARD l
  else (m.inc Reg.Culvert.GAP_DISCARD l).wantNak l

/-- DATA_FLIT_RECEIVED (R331). -/
def execDataFlitReceived (t : Nat) (l : Fin 8) (h : FlitHdr) (b : FlitBody) (s : State) : Out :=
  s.run t fun m => m.flitIn l h true fun m => m.dataIn l h b

/-- IDLE_FLIT_RECEIVED: its acknowledgement is used (R326). -/
def execIdleFlitReceived (t : Nat) (l : Fin 8) (h : FlitHdr) (s : State) : Out := s.run t fun m => m.flitIn l h false id

/-- FAILED_FLIT: a codeword that cannot be corrected, or a CRC that fails (R326, R333). -/
def failedFlit (l : Nat) (fec : Bool) (m : Mach) : Mach :=
  let st := m.fsm .culvert l
  if st = 0 || st = 5 then m
  else
    let m := if fec then m.inc Reg.Culvert.FEC_UNCORR l else m.inc Reg.Culvert.CRC_ERRS l
    if st = 2 || st = 3 then m.wantNak l else m

def execFailedFlit (t : Nat) (l : Fin 8) (fec : Bool) (s : State) : Out := s.run t (failedFlit l fec)

/-! ### Control operations (R328) -/

/-- CTRL_NAK: counted and acted on; one that arrives during a retrain is discarded (R334, R345). -/
def execCtrlNak (t : Nat) (l : Fin 8) (h : FlitHdr) (seq : Nat) (s : State) : Out :=
  s.run t fun m => m.flitIn l h false fun m =>
    if m.fsm .culvert l = 3 || m.fsm .culvert l = 2 then (m.inc Reg.Culvert.NAKS_RCVD l).takeNak l seq else m

/-- CTRL_RETRAIN_REQ: the peer retrains (R342). -/
def execCtrlRetrainReq (t : Nat) (l : Fin 8) (h : FlitHdr) (reason : Nat) (s : State) : Out :=
  s.run t fun m => m.flitIn l h false fun m => m.startRetrain l reason false

/-- RESUME ends a retrain whose lanes are chosen: the link is UP and replays from the peer's `NEXT_RX` (R342). -/
def Mach.resume (m : Mach) (l next : Nat) : Mach :=
  if m.fsm .culvert l = 4 && (m.link l).ready then
    let w := m.rd Reg.Culvert.WIDTH l
    let m := (m.setFsm .culvert 3 l).wr Reg.Culvert.PAYLOAD_MBPS (widthMbps w) l
    let m := m.wr Reg.Culvert.RETRAIN_FAIL_RUN 0 l
    let m := m.modLink l fun x => { x with ready := false, nak := none }
    let m := m.event .culvert l 0x2C10 l (w + 256 * (m.rd Reg.Culvert.RETRAINS l % 256))
    let m := m.takeNak l next
    let m := if m.fabricLink l then m.linksChanged else m
    (m.tryKeySwitch l).linkHalt l
  else m

/-- CTRL_RESUME: the peer's `NEXT_RX`, its receive wrap count and its receive key phase (R328, R342). -/
def execCtrlResume (t : Nat) (l : Fin 8) (h : FlitHdr) (next wrap phase : Nat) (s : State) : Out :=
  s.run t fun m => m.flitIn l h false fun m =>
    if wrap < 2 ^ 44 && phase < 2 then m.resume l next else m

/-- CTRL_BROKEN: the peer has declared the link broken (R344). -/
def execCtrlBroken (t : Nat) (l : Fin 8) (h : FlitHdr) (cause : Nat) (s : State) : Out :=
  s.run t fun m => m.flitIn l h false fun m => m.linkBroken l cause

/-- CTRL_HELLO: the peer's serial number, and whether it has a spare lane (R328, R343). -/
def execCtrlHello (t : Nat) (l : Fin 8) (h : FlitHdr) (serial link : Nat) (spare : Bool) (s : State) : Out :=
  s.run t fun m => m.flitIn l h false fun m =>
    if m.fsm .culvert l = 1 && link < 8 then m.modLink l fun x => { x with peerSerial := serial, peerSpare := spare } else m

/-! ### Lane sparing (R339 to R341) -/

/-- The pair of a switch that is announced now (R339). -/
def Mach.switchPair (m : Mach) (l : Nat) : Nat := (m.pairNow l + 16) % 2 ^ 24

/-- The physical lanes in a map of `WIDTH` lanes. -/
def mapLanes (w v : Nat) : List Nat := (List.range w).map fun i => v / 8 ^ i % 8

/-- LANE_DEGRADED: at the end of a window a lane's corrected symbols exceed the threshold, or it has lost lock: it is replaced
by S, or the link retrains (R339, R341, R342, R345). -/
def laneDegraded (l k corr : Nat) (lost : Bool) (m : Mach) : Mach :=
  if m.fsm .culvert l != 3 then m
  else
    let m := m.wr Reg.Culvert.LANE_CORR (min corr (2 ^ 24 - 1)) l k
    if !lost && corr ≤ m.rd Reg.Culvert.SPARE_THRESH l then m
    else
      let m := m.wr Reg.Culvert.LANE_DEGRADED 1 l k
      let m := if lost then (m.wr Reg.Culvert.LANE_LOCK 0 l k).inc Reg.Culvert.LANE_LOCK_LOSSES l k else m
      let inUse := mapLanes (m.rd Reg.Culvert.WIDTH l) (m.rd Reg.Culvert.RX_MAP l)
      let x := m.link l
      let m := match x.rxSwitch with
        | some w => if w.back && w.lane = k then m.modLink l fun x => { x with rxSwitch := none } else m
        | none => m
      if 2 ≤ (inUse.filter fun j => !m.flag Reg.Culvert.LANE_LOCK l j).length then m.startRetrain l 1 true
      else if !inUse.contains k then m
      else if m.flag Reg.Culvert.SPARE_EN l && !m.flag Reg.Culvert.SPARE_USED_RX l && k < 4 && x.peerSpare &&
          !m.flag Reg.Culvert.LANE_DEGRADED l 4 then
        if x.rxSwitch.isSome then m
        else (m.modLink l fun x => { x with rxSwitch := some ⟨k, 0, false⟩ }).ctrl l { op := 0x04, a := k }
      else m.startRetrain l 4 true

def execLaneDegraded (t : Nat) (l : Fin 8) (k : Fin 5) (corr : Nat) (lost : Bool) (s : State) : Out :=
  s.run t (laneDegraded l k corr lost)

/-- CTRL_SPARE_REQ: the transmitter announces the pair from which it drives S (R339). -/
def execCtrlSpareReq (t : Nat) (l : Fin 8) (h : FlitHdr) (k : Nat) (s : State) : Out :=
  s.run t fun m => m.flitIn l h false fun m =>
    if m.fsm .culvert l = 3 && !m.flag Reg.Culvert.SPARE_USED_TX l && k < 4 then
      let p := m.switchPair l
      (m.modLink l fun x => { x with txSwitch := some ⟨k, p, false⟩ }).ctrl l { op := 0x05, a := k, b := p }
    else m

/-- The receiver learns the pair of a switch that it has asked for. -/
def Mach.switchAck (m : Mach) (l k p : Nat) (back : Bool) : Mach :=
  match (m.link l).rxSwitch with
  | some w => if w.lane = k && w.back = back then m.modLink l fun x => { x with rxSwitch := some { w with pair := p } } else m
  | none => m

/-- CTRL_SPARE_ACK (R339). -/
def execCtrlSpareAck (t : Nat) (l : Fin 8) (h : FlitHdr) (k p : Nat) (s : State) : Out :=
  s.run t fun m => m.flitIn l h false fun m => m.switchAck l k p false

/-- CTRL_SPARE_DONE: the replaced lane carries PRBS31 from now on (R339). -/
def execCtrlSpareDone (t : Nat) (l : Fin 8) (h : FlitHdr) (k : Nat) (s : State) : Out :=
  s.run t fun m => m.flitIn l h false fun m =>
    match (m.link l).txSwitch with
    | some w =>
      if w.lane = k && !w.back && m.flag Reg.Culvert.SPARE_USED_TX l then
        (m.modLink l fun x => { x with txSwitch := none }).event .culvert l 0x2C12 l k
      else m
    | none => m

/-- A map with the share of one physical lane carried on another. -/
def moveLane (w v a b : Nat) : Nat := laneMap ((mapLanes w v).map fun k => if k = a then b else k)

/-- The transmitter's side of a switch at its pair (R339, R340). -/
def Mach.switchTx (m : Mach) (l : Nat) (w : LaneSwitch) : Mach :=
  let n := m.rd Reg.Culvert.WIDTH l
  let v := m.rd Reg.Culvert.TX_MAP l
  if w.back then
    let m := (m.wr Reg.Culvert.TX_MAP (moveLane n v 4 w.lane) l).wr Reg.Culvert.SPARE_USED_TX 0 l
    (m.modLink l fun x => { x with txSwitch := none }).event .culvert l 0x2C13 l w.lane
  else (m.wr Reg.Culvert.TX_MAP (moveLane n v w.lane 4) l).wr Reg.Culvert.SPARE_USED_TX 1 l

/-- The receiver's side of a switch at its pair (R339, R340). -/
def Mach.switchRx (m : Mach) (l : Nat) (w : LaneSwitch) : Mach :=
  let n := m.rd Reg.Culvert.WIDTH l
  let v := m.rd Reg.Culvert.RX_MAP l
  let m := m.modLink l fun x => { x with rxSwitch := none }
  if w.back then
    let m := (m.wr Reg.Culvert.RX_MAP (moveLane n v 4 w.lane) l).wr Reg.Culvert.SPARE_USED_RX 0 l
    let m := (m.wr Reg.Culvert.LANE_RETIRED 0 l w.lane).wr Reg.Culvert.LANE_DEGRADED 0 l w.lane
    (m.inc Reg.Culvert.SPAREBACKS l).event .culvert l 0x2C13 l (w.lane + 256)
  else
    let m := (m.wr Reg.Culvert.RX_MAP (moveLane n v w.lane 4) l).wr Reg.Culvert.SPARE_USED_RX 1 l
    let m := ((m.wr Reg.Culvert.LANE_RETIRED 1 l w.lane).inc Reg.Culvert.SPARES l).ctrl l { op := 0x06, a := w.lane }
    m.event .culvert l 0x2C12 l (w.lane + 256)

/-- SPARE_SWITCH: pair P of a switch is reached in the receive (`rx`) or the transmit direction (R339, R340). Where SPARE_ACK
was not decoded, the markers alone decide. -/
def spareSwitch (l : Nat) (rx : Bool) (m : Mach) : Mach :=
  if m.fsm .culvert l != 3 then m
  else if rx then
    match (m.link l).rxSwitch with
    | some w => if w.back && w.pair = 0 then m else m.switchRx l w
    | none => m
  else
    match (m.link l).txSwitch with
    | some w => if w.back = m.flag Reg.Culvert.SPARE_USED_TX l then m.switchTx l w else m
    | none => m

def execSpareSwitch (t : Nat) (l : Fin 8) (rx : Bool) (s : State) : Out := s.run t (spareSwitch l rx)

/-- SPAREBACK_QUALIFIED: a lane out of use has stayed clean for 10 s: it is restored, or at width 2 the link retrains once
four lanes are clean (R340, R341). -/
def sparebackQualified (l k : Nat) (m : Mach) : Mach :=
  if m.fsm .culvert l != 3 || !m.flag Reg.Culvert.SPAREBACK_EN l then m
  else if m.rd Reg.Culvert.WIDTH l = 2 then
    let m := m.wr Reg.Culvert.LANE_DEGRADED 0 l k
    if 4 ≤ ((List.range 5).filter fun j => !m.flag Reg.Culvert.LANE_DEGRADED l j).length then m.startRetrain l 4 true else m
  else if m.flag Reg.Culvert.SPARE_USED_RX l && m.flag Reg.Culvert.LANE_RETIRED l k && (m.link l).rxSwitch.isNone then
    (m.modLink l fun x => { x with rxSwitch := some ⟨k, 0, true⟩ }).ctrl l { op := 0x07, a := k }
  else m

def execSparebackQualified (t : Nat) (l : Fin 8) (k : Fin 5) (s : State) : Out := s.run t (sparebackQualified l k)

/-- CTRL_SPAREBACK_REQ (R340). -/
def execCtrlSparebackReq (t : Nat) (l : Fin 8) (h : FlitHdr) (k : Nat) (s : State) : Out :=
  s.run t fun m => m.flitIn l h false fun m =>
    if m.fsm .culvert l = 3 && m.flag Reg.Culvert.SPARE_USED_TX l && k < 4 then
      let p := max 1 (m.switchPair l)
      (m.modLink l fun x => { x with txSwitch := some ⟨k, p, true⟩ }).ctrl l { op := 0x08, a := k, b := p }
    else m

/-- CTRL_SPAREBACK_ACK (R340). -/
def execCtrlSparebackAck (t : Nat) (l : Fin 8) (h : FlitHdr) (k p : Nat) (s : State) : Out :=
  s.run t fun m => m.flitIn l h false fun m => m.switchAck l k p true

/-! ### Keys in band (R338, R353) -/

/-- CTRL_KEY_SWITCH: the first sequence under the new phase; both phases are kept until it is accepted (R338). -/
def execCtrlKeySwitch (t : Nat) (l : Fin 8) (h : FlitHdr) (seq phase : Nat) (s : State) : Out :=
  s.run t fun m => m.flitIn l h false fun m =>
    if m.fsm .culvert l = 3 && phase % 2 != m.rd Reg.Culvert.KEY_PHASE_RX l then
      let m := m.modLink l fun x => { x with switchRx := some (seq % 2 ^ 20), rxNew := false }
      ((m.wr Reg.Culvert.KEY_PHASE_RX phase l).inc Reg.Crypto.LG_REKEYS 0 l).event .culvert l 0x2C19 l (phase % 2 + 2)
    else m

/-- LINK_KEY_READY: the next key phase is installed; the switch starts, or waits (R338). -/
def execLinkKeyReady (t : Nat) (l : Fin 8) (s : State) : Out :=
  s.run t fun m =>
    if (m.link l).rekeyRun && (m.fsm .culvert l = 3 || m.fsm .culvert l = 4) then
      (m.modLink l fun x => { x with rekeyRun := false, newKey := true }).tryKeySwitch l
    else m

/-! ### Bring-up (R343) -/

/-- A link starts TRAINING and sends HELLO. -/
def Mach.startLink (m : Mach) (l : Nat) : Mach :=
  if m.enabled .culvert l && (m.fsm .culvert l = 0 || m.fsm .culvert l = 5) then
    let m := (m.setFsm .culvert 1 l).wr (Reg.Hdr.HALTED .culvert) 0 l
    (m.modLink l fun x => { arr := x.arr, turn := x.turn, helloSent := true }).ctrl l { op := 0x0B, a := m.serial, b := l, c := 1 }
  else m

/-- CULVERT_RESTART: a write of 1 to `RESTART` (R343). -/
def execCulvertRestart (t : Nat) (src : Source) (l : Fin 8) (s : State) : Out :=
  s.run t fun m => m.stageWrite .culvert l src fun m => m.startLink l

/-- RESTART_TIMER: `RESTART_MS` after the link became broken (R343). -/
def restartTimer (l : Nat) (m : Mach) : Mach :=
  let d := m.rd Reg.Culvert.RESTART_MS l
  if m.fsm .culvert l = 5 && d != 0 && (m.link l).brokenAt + d * 1000000 ≤ m.tide then m.startLink l else m

def execRestartTimer (t : Nat) (l : Fin 8) (s : State) : Out := s.run t (restartTimer l)

/-- The first SPDM message of a keying exchange goes out (R353). -/
def Mach.startSpdm (m : Mach) (l : Nat) : Mach := m.mgmtSend l (.spdm false true 0)

/-- CULVERT_TRAINING_DONE: lanes are chosen, and the link enters KEYING with its sequences at 0 (R343). -/
def culvertTrainingDone (l : Nat) (tx rx : List Nat) (m : Mach) : Mach :=
  if m.fsm .culvert l = 1 then
    match m.chooseLanes l tx rx with
    | (m, false) => m.linkBroken l 6
    | (m, true) =>
      let m := (m.wr Reg.Culvert.NEXT_TX 0 l).wr Reg.Culvert.ACKED (2 ^ 20 - 1) l
      let m := ((m.wr Reg.Culvert.NEXT_RX 0 l).setFsm .culvert 2 l).showReplay l
      m.startSpdm l
  else m

def execCulvertTrainingDone (t : Nat) (l : Fin 8) (tx rx : List Nat) (s : State) : Out :=
  s.run t (culvertTrainingDone l tx rx)

/-- CULVERT_KEYING_DONE: the session has installed key phase 0, and the link is UP with every count at 0 (R343, R353). -/
def culvertKeyingDone (l : Nat) (m : Mach) : Mach :=
  if m.fsm .culvert l = 2 && (m.link l).keyed then
    let m := m.modLink l fun x => { arr := x.arr, turn := x.turn, peerSerial := x.peerSerial, peerSpare := x.peerSpare,
                                    keyed := true, keyAt := m.tide, pairAt := x.pairAt }
    let m := ((m.wr Reg.Culvert.NEXT_TX 0 l).wr Reg.Culvert.ACKED (2 ^ 20 - 1) l).wr Reg.Culvert.NEXT_RX 0 l
    let m := ((m.wr Reg.Culvert.WRAP_TX 0 l).wr Reg.Culvert.WRAP_RX 0 l).wr Reg.Culvert.CTRL_TX_COUNT 0 l
    let m := ((m.wr Reg.Culvert.CTRL_RX_COUNT 0 l).wr Reg.Culvert.KEY_PHASE_TX 0 l).wr Reg.Culvert.KEY_PHASE_RX 0 l
    let m := ((m.wr Reg.Culvert.REPLAYING 0 l).wr Reg.Culvert.REPLAY_PTR 0 l).wr Reg.Culvert.RETRAIN_FAIL_RUN 0 l
    let w := m.rd Reg.Culvert.WIDTH l
    let m := ((m.setFsm .culvert 3 l).wr Reg.Culvert.PAYLOAD_MBPS (widthMbps w) l).wr Reg.Crypto.LG_KEYED 1 0 l
    let m := m.modTurn fun x => { x with keyFail := Tbl.del x.keyFail l }
    let m := m.event .culvert l 0x2C10 l (w + 256 * (m.rd Reg.Culvert.RETRAINS l % 256))
    let m := (m.showReplay l).judgeCap l
    let m := if m.fabricLink l then
        let m := m.linksChanged
        match m.turn.best with
        | some c => m.mgmtSend l (.claim c.serial c.prio c.epoch)
        | none => m
      else m
    m.linkHalt l
  else m

def execCulvertKeyingDone (t : Nat) (l : Fin 8) (s : State) : Out := s.run t (culvertKeyingDone l)

end Sys2Proof.Machine
end

