-- ==== Sys2Proof/Machine/Members.lean ====
section
/-! DEFINITION. Members of the fabric (R348 to R353, R371, R372): claims and the root, IDs, the link-state database, leaving,
and the keying messages of links. -/

namespace Sys2Proof.Machine

/-! ### Taking messages (R352, R357) -/

/-- The head of the management queue, where it is a message of the operation given: the link, the message, its originator's
serial number and its number. -/
def Mach.takeMgmt (m : Mach) (op : Nat) : Option (Mach × Nat × Mgmt × Nat × Nat) :=
  match m.turn.mgmt with
  | (l, msg, s, n) :: rest =>
    if mgmtOp msg = op && !m.coreAway then some (m.modTurn fun x => { x with mgmt := rest }, l, msg, s, n) else none
  | [] => none

/-- A flooded message that has not been seen is forwarded once (R352); the flag says that it is new. -/
def Mach.relay (m : Mach) (l : Nat) (msg : Mgmt) (s n : Nat) : Mach × Bool :=
  if m.turn.seen.contains (s, n) then (m, false)
  else ((m.modTurn fun x => { x with seen := x.seen ++ [(s, n)] }).reflood l msg s n, true)

/-! ### The root (R349) -/

/-- Whether one claim is better than another (R349). -/
def Claim.better (a b : Claim) : Bool := b.prio < a.prio || (a.prio = b.prio && a.serial < b.serial)

/-- MGMT_CLAIM: the best claim is kept, and every new claim is forwarded (R349). -/
def mgmtClaim (m : Mach) : Mach :=
  match m.takeMgmt 1 with
  | some (m, l, .claim serial prio epoch, s, n) =>
    match m.relay l (.claim serial prio epoch) s n with
    | (m, false) => m
    | (m, true) =>
      let m := m.modTurn fun x => { x with topEpoch := max x.topEpoch epoch }
      let m := if m.fsm .turnout = 0 && !m.fabLinks.isEmpty then m.join else m
      let c : Claim := ⟨serial, prio, epoch, some l⟩
      let take := match m.turn.best with | some b => c.better b | none => true
      if take then m.modTurn fun x => { x with best := some c, bestAt := m.tide, settled := false, asked := false }
      else
        m.modTurn fun x => { x with best := x.best.map fun b => if b.serial = serial then { b with epoch := epoch } else b }
  | some (m, _) => m
  | none => m

def execMgmtClaim (t : Nat) (s : State) : Out := s.run t mgmtClaim

/-- The device's own claim takes a new `ROOT_PRIO` from the next CLAIM, and may be the best then (R349, R374). -/
def Mach.renewClaim (m : Mach) : Mach :=
  match m.ownClaim, m.turn.best with
  | some c, some b =>
    if b.serial = c.serial then m.modTurn fun x => { x with best := some { c with epoch := b.epoch } }
    else if c.better b then m.modTurn fun x => { x with best := some c, bestAt := m.tide, settled := false, asked := false }
    else m
  | _, _ => m

/-- CLAIM_PERIODIC: the best claim is flooded again every 1 s (R349). -/
def execClaimPeriodic (t : Nat) (s : State) : Out :=
  s.run t fun m => if m.fsm .turnout = 0 then m else m.renewClaim.floodClaim

/-! ### IDs (R350, R351) -/

/-- The ID that the root grants a serial number (R350). -/
def Mach.grantFor (m : Mach) (serial pref : Nat) : Option Nat :=
  match m.idOf serial with
  | some d => some d
  | none =>
    let taken := fun d => m.turn.table.any fun e => e.id = d
    if !taken pref then some pref else (List.range 64).find? fun d => !taken d

/-- List an ID for a serial number. -/
def Mach.listId (m : Mach) (d serial : Nat) : Mach :=
  (m.modTurn fun x => { x with
    table := (x.table.filter fun e => e.id != d && e.serial != serial) ++ [⟨d, serial, false⟩]
    holds := x.holds.filter fun h => h.id != d }).showTable

/-- The device takes its ID (R350). -/
def Mach.takeId (m : Mach) (d epoch : Nat) : Mach :=
  let m := (m.wr Reg.Turnout.MY_ID d).wr Reg.Turnout.ID_VALID 1
  let m := ((m.wr Reg.Turnout.FAB_EPOCH epoch).putPath d 3).event .turnout 0 0x3010 d epoch
  m

/-- Show the root's ID, as the table gives it. -/
def Mach.showRoot (m : Mach) : Mach :=
  match m.turn.best with
  | some b => match m.idOf b.serial with | some d => m.wr Reg.Turnout.ROOT_ID d | none => m
  | none => m

/-- A device without an ID asks the root for one, over the link on which the best claim arrived (R350). -/
def Mach.askId (m : Mach) : Mach :=
  match m.turn.best.bind fun b => b.link with
  | some l => (m.modTurn fun x => { x with asked := true }).mgmtSend l (.idReq m.serial (m.rd Reg.Turnout.PREF_ID))
  | none => m

/-- This device is the root (R349, R350). -/
def Mach.becomeRoot (m : Mach) : Mach :=
  let e := m.turn.topEpoch + 1
  let m := (m.modTurn fun x => { x with topEpoch := e, best := x.best.map fun b => { b with epoch := e } }).wr Reg.Turnout.FAB_EPOCH e
  let m := (m.wr Reg.Turnout.IS_ROOT 1).setFsm .turnout 3
  let m := if m.flag Reg.Turnout.ID_VALID then m
    else match m.grantFor m.serial (m.rd Reg.Turnout.PREF_ID) with
      | some d => (m.listId d m.serial).takeId d e
      | none => m
  let m := m.showRoot.event .turnout 0 0x3011 (m.rd Reg.Turnout.ROOT_ID) e
  ((m.floodClaim).floodTable).floodLinks

/-- ELECTION_SETTLE: the best claim has stood for 20 ms (R349). -/
def electionSettle (m : Mach) : Mach :=
  let st := m.fsm .turnout
  if st = 0 || st = 4 || m.turn.settled || m.tide < m.turn.bestAt + 20000000 then m
  else
    let m := m.modTurn fun x => { x with settled := true }
    match m.turn.best with
    | none =>
      let m := m.event .turnout 0 0x3016 0 (m.rd Reg.Turnout.MEMBERS)
      if m.flag Reg.Turnout.ID_VALID then m else m.goAlone
    | some b =>
      let m := m.inc Reg.Turnout.ELECTIONS
      if b.serial = m.serial then m.becomeRoot
      else
        let m := ((m.wr Reg.Turnout.IS_ROOT 0).wr Reg.Turnout.FAB_EPOCH b.epoch).showRoot
        if m.flag Reg.Turnout.ID_VALID then (m.setFsm .turnout 2).floodLinks else (m.setFsm .turnout 1).askId

def execElectionSettle (t : Nat) (s : State) : Out := s.run t electionSettle

/-- MGMT_ID_REQ: the root grants an ID; another device passes the request on towards the root (R350, R352). -/
def mgmtIdReq (m : Mach) : Mach :=
  match m.takeMgmt 2 with
  | some (m, l, .idReq serial pref, s, n) =>
    if m.flag Reg.Turnout.IS_ROOT then
      match m.grantFor serial (pref % 64) with
      | some d => ((m.listId d serial).floodTable).mgmtSend l (.idGrant serial d (m.rd Reg.Turnout.FAB_EPOCH))
      | none => m
    else
      match m.turn.best.bind fun b => b.link with
      | some out =>
        (m.modTurn fun x => { x with back := (x.back.filter fun e => e.1 != serial) ++ [(serial, l)] }).mgmtTo out
          (.idReq serial pref) s n
      | none => m
  | some (m, _) => m
  | none => m

def execMgmtIdReq (t : Nat) (s : State) : Out := s.run t mgmtIdReq

/-- MGMT_ID_GRANT: the device takes its ID, or passes the grant back along the request's path (R350, R352). -/
def mgmtIdGrant (m : Mach) : Mach :=
  match m.takeMgmt 3 with
  | some (m, _, .idGrant serial d epoch, s, n) =>
    if serial = m.serial then
      if m.fsm .turnout = 1 then (((m.listId (d % 64) serial).takeId (d % 64) epoch).setFsm .turnout 2).floodLinks else m
    else
      match m.turn.back.find? fun e => e.1 = serial with
      | some (_, out) =>
        (m.modTurn fun x => { x with back := x.back.filter fun e => e.1 != serial }).mgmtTo out (.idGrant serial d epoch) s n
      | none => m
  | some (m, _) => m
  | none => m

def execMgmtIdGrant (t : Nat) (s : State) : Out := s.run t mgmtIdGrant

/-- The device enters CONFLICT: the winning root's table holds its ID for another serial number (R351). -/
def Mach.conflict (m : Mach) (other : Nat) : Mach :=
  let d := m.rd Reg.Turnout.MY_ID
  let m := m.event .turnout 0 0x3017 d other
  ((m.flood (.leave d 2)).dropId).setFsm .turnout 4

/-- MGMT_ID_TABLE: the copy of the table follows the root's; a clash with this device's ID is a conflict (R350, R351). -/
def mgmtIdTable (m : Mach) : Mach :=
  match m.takeMgmt 4 with
  | some (m, l, .idTable es, s, n) =>
    match m.relay l (.idTable es) s n with
    | (m, false) => m
    | (m, true) =>
      let m := m.modTurn fun x => { x with
        table := (x.table.filter fun e => !(es.any fun f => f.id = e.id || f.serial = e.serial)) ++ es.take 7 }
      let m := m.showTable.showRoot
      match es.find? fun e => m.flag Reg.Turnout.ID_VALID && e.id = m.rd Reg.Turnout.MY_ID && e.serial != m.serial with
      | some e => if m.flag Reg.Turnout.IS_ROOT then m else m.conflict e.serial
      | none => m
  | some (m, _) => m
  | none => m

def execMgmtIdTable (t : Nat) (s : State) : Out := s.run t mgmtIdTable

/-- ID_HOLD_EXPIRY: `ID_HOLD_S` ends for the ID of a device that cannot be reached (R350). -/
def idHoldExpiry (d : Nat) (m : Mach) : Mach :=
  match m.turn.holds.find? fun h => h.id = d with
  | some h =>
    if h.end_ ≤ m.tide then
      ((m.modTurn fun x => { x with
        table := x.table.filter fun e => e.id != d, holds := x.holds.filter fun h => h.id != d }).showTable).floodTable
    else m
  | none => m

def execIdHoldExpiry (t : Nat) (d : Fin 64) (s : State) : Out := s.run t (idHoldExpiry d)

/-! ### The link-state database (R352, R355) -/

/-- MGMT_LINK_STATE: the database follows; the root lists a member whose ID its table does not have; members that it does not reach any
more are removed (R350 to R352, R372). -/
def mgmtLinkState (m : Mach) : Mach :=
  match m.takeMgmt 5 with
  | some (m, l, .linkState d links, s, n) =>
    match m.relay l (.linkState d links) s n with
    | (m, false) => m
    | (m, true) =>
      let was := m.lsReach
      let m := (m.modTurn fun x => { x with lsdb := Tbl.put x.lsdb (d % 64) links }).inc Reg.Turnout.LSDB_MSGS
      let m := if m.flag Reg.Turnout.IS_ROOT then
          match m.turn.table.find? fun e => e.id = d % 64 with
          | none => (m.listId (d % 64) s).floodTable
          | some e => if e.serial = s then m else m.floodTable
        else m
      m.lostMembers was
  | some (m, _) => m
  | none => m

def execMgmtLinkState (t : Nat) (s : State) : Out := s.run t mgmtLinkState

/-- LINK_STATE_PERIODIC: every 1 s (R352). -/
def execLinkStatePeriodic (t : Nat) (s : State) : Out :=
  s.run t fun m => if m.fsm .turnout = 2 || m.fsm .turnout = 3 then m.floodLinks else m

/-- MGMT_LEAVE (R372). -/
def mgmtLeave (m : Mach) : Mach :=
  match m.takeMgmt 6 with
  | some (m, l, .leave d why, s, n) =>
    match m.relay l (.leave d why) s n with
    | (m, false) => m
    | (m, true) => m.memberGone (d % 64) s
  | some (m, _) => m
  | none => m

def execMgmtLeave (t : Nat) (s : State) : Out := s.run t mgmtLeave

/-- FABRIC_LEAVE: a write of 0 to `PAGE_CTL.ENABLE` floods LEAVE, ends every send flow, and leaves the device ALONE (R372). -/
def fabricLeave (m : Mach) : Mach :=
  let m := if m.flag Reg.Turnout.ID_VALID then m.flood (.leave (m.rd Reg.Turnout.MY_ID) 1) else m
  m.goAlone.wr (Reg.Hdr.ENABLE .turnout) 0

def execFabricLeave (t : Nat) (src : Source) (s : State) : Out := s.run t fun m => m.written src fabricLeave

/-- A write of 1 to `PAGE_CTL.ENABLE` lets the device join again (R348, R351). -/
def Mach.fabricBack (m : Mach) : Mach :=
  let m := m.wr (Reg.Hdr.ENABLE .turnout) 1
  if m.fsm .turnout = 0 && !m.fabLinks.isEmpty then m.join else m

/-! ### Keying (R338, R353) -/

/-- MGMT_SPDM: a fragment is answered; the last one ends the session, and a failure is counted; a fabric trust anchor refused at boot refuses
every peer (R353, R502). -/
def mgmtSpdm (m : Mach) : Mach :=
  match m.takeMgmt 7 with
  | some (m, l, .spdm last ok err, _, _) =>
    if m.fsm .culvert l != 2 then m
    else if !ok || m.boot.anchorBad.contains 1 then
      let m := (m.inc Reg.Turnout.KEY_FAILS).event .turnout 0 0x301C l err
      m.modTurn fun x => { x with keyFail := Tbl.put x.keyFail l m.tide }
    else if last then (m.modLink l fun x => { x with keyed := true }).newWireKey l
    else m.mgmtSend l (.spdm true true 0)
  | some (m, _) => m
  | none => m

def execMgmtSpdm (t : Nat) (s : State) : Out := s.run t mgmtSpdm

/-- KEYING_RETRY: 1 s after a failure the exchange is tried again (R353). -/
def keyingRetry (l : Nat) (m : Mach) : Mach :=
  match Tbl.find m.turn.keyFail l with
  | some t =>
    if m.fsm .culvert l = 2 && !m.coreAway && t + 1000000000 ≤ m.tide then
      (m.modTurn fun x => { x with keyFail := Tbl.del x.keyFail l }).startSpdm l
    else m
  | none => m

def execKeyingRetry (t : Nat) (l : Fin 8) (s : State) : Out := s.run t (keyingRetry l)

/-- MGMT_KEY_UPDATE: the next key phase is derived; the first fragment is answered (R353). -/
def mgmtKeyUpdate (m : Mach) : Mach :=
  match m.takeMgmt 8 with
  | some (m, l, .keyUpdate last, _, _) =>
    if m.fsm .culvert l = 3 || m.fsm .culvert l = 4 then
      let m := m.modLink l fun x => { x with rekeyRun := true }
      if last then m else m.mgmtSend l (.keyUpdate true)
    else m
  | some (m, _) => m
  | none => m

def execMgmtKeyUpdate (t : Nat) (s : State) : Out := s.run t mgmtKeyUpdate

/-- LINK_REKEY_DUE: `LINK_REKEY_S` has passed, or a wrap count nears its limit of 2^20 (R316, R353). -/
def linkRekeyDue (l : Nat) (m : Mach) : Mach :=
  let old := (m.link l).keyAt + m.act Reg.Turnout.LINK_REKEY_S * 1000000000 ≤ m.tide
  if m.fsm .culvert l = 3 && !m.coreAway && (old || 2 ^ 20 - 1 ≤ max (m.rd Reg.Culvert.WRAP_TX l) (m.rd Reg.Culvert.WRAP_RX l)) then
    m.mgmtSend l (.keyUpdate false)
  else m

def execLinkRekeyDue (t : Nat) (l : Fin 8) (s : State) : Out := s.run t (linkRekeyDue l)

end Sys2Proof.Machine
end

