-- ==== Sys2Proof/Machine/Fabric.lean ====
section
/-! DEFINITION. Transport units as they arrive (R357 to R369): transit, sequences, acknowledgement and credits, RESYNC, the
receive buffer, responses at the requester. -/

namespace Sys2Proof.Machine

/-! ### Taking units (R357, R359) -/

/-- Whether a unit is for this device: for the neighbour only, or its `DST` is this device's ID. -/
def Mach.forMe (m : Mach) (u : FUnit) : Bool :=
  u.isLocal || (m.flag Reg.Turnout.ID_VALID && u.dst = m.rd Reg.Turnout.MY_ID)

/-- The oldest unit that a link has delivered, where it is for this device and satisfies a test. -/
def Mach.takeUnit (m : Mach) (l : Nat) (f : FUnit → Bool) : Option (Mach × FUnit) :=
  match (m.link l).arr with
  | u :: rest =>
    if m.forMe u && f u then some ((m.modLink l fun x => { x with arr := rest }).inc Reg.Turnout.UNITS_RX, u) else none
  | [] => none

/-! ### Transit (R357) -/

/-- A transit unit is dropped; the first drop on a link in a turn is told. -/
def Mach.transitDrop (m : Mach) (l : Nat) : Mach :=
  let m := m.inc Reg.Turnout.TRANSIT_DROPS 0 l
  if (m.link l).dropTold then m
  else (m.modLink l fun x => { x with dropTold := true }).event .turnout 0 0x3019 l (m.rd Reg.Turnout.TRANSIT_DROPS 0 l)

/-- UNIT_TRANSIT: a unit for another device joins the transit queue of the output link, or is dropped (R357). -/
def unitTransit (l : Nat) (m : Mach) : Mach :=
  match (m.link l).arr with
  | u :: rest =>
    if m.forMe u then m
    else
      let m := m.modLink l fun x => { x with arr := rest }
      if u.hops = 15 then (m.inc Reg.Turnout.HOP_DROPS).event .turnout 0 0x301A u.dst u.src
      else
        match m.pathLink (u.dst % 64) with
        | none => m.transitDrop l
        | some o =>
          if 1024 ≤ (m.link o).transit.length then m.transitDrop o
          else
            let m := m.modLink o fun x => { x with transit := x.transit ++ [{ u with hops := u.hops + 1 }] }
            (m.inc Reg.Turnout.UNITS_FWD).showTransit o
  | [] => m

def execUnitTransit (t : Nat) (l : Fin 8) (s : State) : Out := s.run t (unitTransit l)

/-- UNIT_BAD: a unit of a reserved type, or a TWIN unit on a fabric link, is discarded (R359). -/
def unitBad (l : Nat) (m : Mach) : Mach :=
  match m.takeUnit l fun u => 13 ≤ u.utype || u.utype = 11 || u.utype = 0 with
  | some (m, _) => m.inc Reg.Turnout.BAD_UNITS
  | none => m

def execUnitBad (t : Nat) (l : Fin 8) (s : State) : Out := s.run t (unitBad l)

/-! ### Acknowledgement and credits (R361 to R363) -/

/-- What a unit tells of the flow towards its sender: units acknowledged, credits returned (R362, R363). -/
def Mach.takeFack (m : Mach) (u : FUnit) : Mach :=
  let f := m.txFlow u.src u.allot
  let n := if u.fackV then (u.fack + 2 ^ 32 - f.acked % 2 ^ 32) % 2 ^ 32 else 0
  let n := if n ≤ f.held.length then n else 0
  let c := if u.utype = 9 then 0 else u.credRet
  if n = 0 && c = 0 then m
  else
    let f := { f with acked := (f.acked + n) % 2 ^ 32, held := f.held.drop n, cred := f.cred + c, out := f.out - c, moved := m.tide }
    (((m.setTx u.src u.allot f).pump u.src u.allot f.wait.length)).showTxr

/-- Send a FACK unit on the reverse flow (R362). -/
def Mach.sendFack (m : Mach) (d a : Nat) : Mach := m.emitUnit { utype := 7, dst := d, allot := a }

/-- A sequenced unit is judged: the flag says that it is accepted (R361). -/
def Mach.acceptSeq (m : Mach) (u : FUnit) : Mach × Bool :=
  let r := m.rxFlow u.src u.allot
  if !r.known then (m.inc Reg.Turnout.GAP_UNITS, false)
  else if u.fseq = r.next then
    (m.setRx u.src u.allot { r with next := (r.next + 1) % 2 ^ 32, due := some (r.due.getD m.tide) }, true)
  else if (r.next + 2 ^ 32 - u.fseq % 2 ^ 32) % 2 ^ 32 ≤ 2 ^ 31 then
    ((m.inc Reg.Turnout.DUP_UNITS).sendFack u.src u.allot, false)
  else (m.inc Reg.Turnout.GAP_UNITS, false)

/-- Take the oldest unit of a link where it passes a test and is next in its flow. -/
def Mach.takeSeq (m : Mach) (l : Nat) (f : FUnit → Bool) : Mach × Option FUnit :=
  match m.takeUnit l f with
  | none => (m, none)
  | some (m, u) =>
    match (m.takeFack u).acceptSeq u with
    | (m, true) => (m, some u)
    | (m, false) => (m, none)

/-- Show the receive buffer. -/
def Mach.showRx (m : Mach) : Mach :=
  let n := m.turn.buf.length
  (m.wr Reg.Turnout.RX_USED n).peak Reg.Turnout.RX_PEAK n

/-- A unit leaves the receive buffer and its credit returns, unless it was granted before the last RESYNC (R363, R365). -/
def Mach.creditBack (m : Mach) (d a : Nat) : Mach :=
  let r := m.rxFlow d a
  let r := if r.stale = 0 then { r with ret := r.ret + 1, due := some (r.due.getD m.tide) } else { r with stale := r.stale - 1 }
  (m.setRx d a { r with held := r.held - 1 }).freeSlotOf d

/-- UNIT_FACK (R362). -/
def unitFack (l : Nat) (m : Mach) : Mach :=
  match m.takeUnit l fun u => u.utype = 7 with
  | some (m, u) => m.takeFack u
  | none => m

def execUnitFack (t : Nat) (l : Fin 8) (s : State) : Out := s.run t (unitFack l)

/-- FACK_TIMER: `FACK_NS` after acceptance no unit of the reverse flow has carried the acknowledgement (R362). -/
def fackTimer (d a : Nat) (m : Mach) : Mach :=
  match (m.rxFlow d a).due with
  | some t => if t + m.rd Reg.Turnout.FACK_NS ≤ m.tide then m.sendFack d a else m
  | none => m

def execFackTimer (t : Nat) (d : Fin 64) (a : Fin 16) (s : State) : Out := s.run t (fackTimer d a)

/-! ### Requests at the owner (R367) -/

/-- A request unit waits in the receive buffer (R363, R367). -/
def Mach.bufferUnit (m : Mach) (l type : Nat) : Mach :=
  match m.takeSeq l fun u => u.utype = type with
  | (m, some u) =>
    let m := m.modTurn fun x => { x with buf := x.buf ++ [⟨u, m.tide⟩] }
    let r := m.rxFlow u.src u.allot
    (m.setRx u.src u.allot { r with held := r.held + 1 }).showRx
  | (m, none) => m

/-- UNIT_RD: a read waits for pacing. -/
def execUnitRd (t : Nat) (l : Fin 8) (s : State) : Out := s.run t fun m => m.bufferUnit l 1
/-- UNIT_WR: a full-line write waits for pacing. -/
def execUnitWr (t : Nat) (l : Fin 8) (s : State) : Out := s.run t fun m => m.bufferUnit l 2
/-- UNIT_WRP: a partial write waits for pacing. -/
def execUnitWrp (t : Nat) (l : Fin 8) (s : State) : Out := s.run t fun m => m.bufferUnit l 3

/-! ### Responses at the requester (R366, R368) -/

/-- The key under which responses to a transaction are awaited: device, allotment, XID. -/
def owedKey (d a xid : Nat) : Nat := flowKey d a * 2 ^ 16 + xid % 2 ^ 16

/-- A request has been sent whose response is owed. -/
def Mach.owe (m : Mach) (d a xid : Nat) : Mach :=
  m.modTurn fun x => { x with owed := Tbl.put x.owed (owedKey d a xid) (Tbl.getD x.owed (owedKey d a xid) 0 + 1) }

/-- A response arrives: the flag says that it answers the newest request of its transaction, not an abandoned one. -/
def Mach.paid (m : Mach) (u : FUnit) : Mach × Bool :=
  let k := owedKey u.src u.allot u.xid
  let n := Tbl.getD m.turn.owed k 0
  (m.modTurn fun x => { x with owed := if n ≤ 1 then Tbl.del x.owed k else Tbl.put x.owed k (n - 1) }, n = 1)

/-- The tag that an XID names: a host request's, or that of the Data Mover access that holds a tracker entry (R358). -/
def Mach.xidTag (m : Mach) (xid : Nat) : Option (Nat × Nat × Tag) :=
  if xid / 2 ^ 14 = 0 then
    (m.tag? (xid / 2 ^ 12 % 4) (xid % 2 ^ 12)).map fun x => (xid / 2 ^ 12 % 4, xid % 2 ^ 12, x)
  else (m.tagsWhere fun p x => p = 5 && x.want % 2 ^ 13 = xid % 2 ^ 13).head?

/-- UNIT_RDRSP: the response becomes MemData, poisoned where its code is not 0 or its check fails (R360, R366). -/
def unitRdrsp (l : Nat) (m : Mach) : Mach :=
  match m.takeSeq l fun u => u.utype = 4 with
  | (m, none) => m
  | (m, some u) =>
    let ok := u.lc = unitLc u.data u.line
    let trk := u.xid - 2 ^ 14
    if u.xid / 2 ^ 14 = 1 && m.sip.tmRead.any fun k => k % 2 ^ 13 = trk then
      let m := (m.untrack (m.sip.tmRead.getD 0))
      m.tmArrive { data := u.data, poison := u.code != 0 || !ok }
    else
      let (m, mine) := m.paid u
      match m.xidTag u.xid with
      | some (p, g, x) =>
        if mine && x.st = .accepted && x.op.reads then
          if u.code != 0 then m.answer p g (.memData u.data true 0) u.code 6
          else if ok then m.answer p g (.memData u.data false 0) 0 6
          else (m.inc Reg.Levee.INTERNAL_FAILS).answer p g poisonData 2 6
        else m.inc Reg.Turnout.LATE_RESP
      | none => m.inc Reg.Turnout.LATE_RESP

def execUnitRdrsp (t : Nat) (l : Fin 8) (s : State) : Out := s.run t (unitRdrsp l)

/-- UNIT_WRCMP: the write is complete (R104, R366). -/
def unitWrcmp (l : Nat) (m : Mach) : Mach :=
  match m.takeSeq l fun u => u.utype = 5 with
  | (m, none) => m
  | (m, some u) =>
    let (m, mine) := m.paid u
    match m.xidTag u.xid with
    | some (p, g, x) =>
      if mine && x.st = .accepted && x.op.writes then
        if p = 5 then m.answer p g .cmp u.code 6
        else ((m.setTag p g { x with point := true }).writePoint p g).showWrWait
      else m
    | none =>
      let out := m.sip.tmOut.filter fun k => k % 2 ^ 13 = u.xid % 2 ^ 13
      let m := m.modSip fun x => { x with tmOut := x.tmOut.filter fun k => k % 2 ^ 13 != u.xid % 2 ^ 13 }
      match out.head? with
      | some k => m.untrack k
      | none => m.each ((m.mover.tracks.filter fun e => e.1 % 2 ^ 13 = u.xid % 2 ^ 13 && e.2.kind = 0).take 1) fun m e => m.untrack e.1

def execUnitWrcmp (t : Nat) (l : Fin 8) (s : State) : Out := s.run t (unitWrcmp l)

/-- UNIT_DEMOTE: the read's deadline becomes the ceiling, and the demotion is counted here (R131, R368). -/
def unitDemote (l : Nat) (m : Mach) : Mach :=
  match m.takeSeq l fun u => u.utype = 6 with
  | (m, none) => m
  | (m, some u) =>
    match m.xidTag u.xid with
    | some (p, g, x) => if x.st = .accepted && p < 4 && m.tide ≤ m.egressLimit p x then m.demoteAt p g x else m
    | none => m

def execUnitDemote (t : Nat) (l : Fin 8) (s : State) : Out := s.run t (unitDemote l)

/-! ### RESYNC (R363 to R365) -/

/-- The epoch that a RESYNC or RESYNC_ACK carries (R365). -/
def unitEpoch (u : FUnit) : Nat := u.line / 2 ^ 32 % 2 ^ 8 * 2 ^ 8 + u.xid % 2 ^ 8

/-- A source takes a slot, or is refused (R363); the flag says that it has one. -/
def Mach.takeSlot (m : Mach) (d : Nat) : Mach × Bool :=
  if m.turn.slots.contains d then (m, true)
  else if m.turn.slots.length < m.act Reg.Turnout.SRC_MAX then
    ((m.modTurn fun x => { x with slots := x.slots ++ [d] }).wr Reg.Turnout.SLOTS_USED (m.turn.slots.length + 1), true)
  else ((m.inc Reg.Turnout.SRC_REFUSED).event .turnout 0 0x3018 d (m.act Reg.Turnout.SRC_MAX), false)

/-- UNIT_RESYNC: what it acknowledges and returns is taken (R362); it is answered with `RX_NEXT` and the credits granted; units that still wait were granted before (R363, R365). -/
def unitResync (l : Nat) (m : Mach) : Mach :=
  match m.takeUnit l fun u => u.utype = 8 with
  | none => m
  | some (m, u) =>
    let (m, ok) := (m.takeFack u).takeSlot u.src
    let r := m.rxFlow u.src u.allot
    let c := if ok then m.act Reg.Turnout.CRED 0 u.allot else 0
    let r := { r with known := true, next := if r.known then r.next else u.fseq, granted := c, ret := 0, stale := r.held }
    let f := m.txFlow u.src u.allot
    let m := m.setTx u.src u.allot { f with resyncs := (f.resyncs + 1) % 2 ^ 32, seenAt := m.tide }
    (m.setRx u.src u.allot r).emitUnit
      { utype := 9, dst := u.src, allot := u.allot, fseq := r.next, line := u.line / 2 ^ 32 * 2 ^ 32, xid := u.xid, credRet := c }

def execUnitResync (t : Nat) (l : Fin 8) (s : State) : Out := s.run t (unitResync l)

/-- A flow that is granted no credit completes its requests NOROUTE (R363). -/
def Mach.refused (m : Mach) (d a : Nat) : Mach :=
  let gone := m.tagsWhere fun p x =>
    x.st = .accepted && (p < 4 || p = 5) && x.allot = a && x.coh.isNone && m.lineDev x.line = some d
  let f := m.txFlow d a
  let m := m.setTx d a { f with refused := true, wait := f.wait.filter fun u => !credUnit u }
  m.each gone fun m e => m.noroute e.1 e.2.1

/-- UNIT_RESYNC_ACK: units below `RX_NEXT` are freed, the others are replayed in order, and the flow is open (R365); those in the spill area,
taken to be this flow's first, are read from it (R362, log entry 132). -/
def unitResyncAck (l : Nat) (m : Mach) : Mach :=
  match m.takeUnit l fun u => u.utype = 9 with
  | none => m
  | some (m, u) =>
    let f := m.txFlow u.src u.allot
    if f.st != 2 || unitEpoch u != f.epoch then m
    else
      let n := min ((u.fseq + 2 ^ 32 - (f.acked + 1) % 2 ^ 32) % 2 ^ 32) f.held.length
      let spilt := min (f.held.length - n) (m.txHeld - 4096)
      let m := m.each (List.range spilt) fun m _ =>
        ((m.spillCanal (2 ^ 23 + m.free)).elim m fun c => m.spillLines false c 2).debitRest 2
      let again := (f.held.drop n).map fun v => { v with replay := true }
      let f := { f with st := 1, cred := u.credRet, out := 0, acked := (f.acked + n) % 2 ^ 32, next := (f.acked + n + 1) % 2 ^ 32,
                        held := [], wait := again ++ f.wait, moved := m.tide, lastTide := m.tide, refused := false }
      let m := m.setTx u.src u.allot f
      let m := if u.credRet = 0 then m.refused u.src u.allot else m
      ((m.pump u.src u.allot f.wait.length).showTxr).showWrWait

def execUnitResyncAck (t : Nat) (l : Fin 8) (s : State) : Out := s.run t (unitResyncAck l)

/-- CRED_TIMEOUT: a flow with unreturned credits has seen neither a credit nor an acknowledgement for `CRED_TIMEOUT_US` (R364). -/
def credTimeout (d a : Nat) (m : Mach) : Mach :=
  let f := m.txFlow d a
  if f.st = 1 && f.out != 0 && f.moved + m.act Reg.Turnout.CRED_TIMEOUT_US * 1000 ≤ m.tide then
    let m := (m.setTx d a { f with timeouts := min (f.timeouts + 1) (2 ^ 32 - 1) }).inc Reg.Turnout.CRED_TIMEOUTS
    (m.event .turnout 0 0x3015 (d + 64 * a) f.out).pathFails d 2
  else m

def execCredTimeout (t : Nat) (d : Fin 64) (a : Fin 16) (s : State) : Out := s.run t (credTimeout d a)

/-- RESYNC_ACK_TIMEOUT: no answer to a RESYNC within `CRED_TIMEOUT_US`; the path changes again (R365). -/
def resyncAckTimeout (d a : Nat) (m : Mach) : Mach :=
  let f := m.txFlow d a
  if f.st = 2 && f.resyncAt + m.act Reg.Turnout.CRED_TIMEOUT_US * 1000 ≤ m.tide then m.pathFails d 2 else m

def execResyncAckTimeout (t : Nat) (d : Fin 64) (a : Fin 16) (s : State) : Out := s.run t (resyncAckTimeout d a)

end Sys2Proof.Machine
end

