-- ==== Sys2Proof/Machine/Coh.lean ====
section
/-! DEFINITION. Coherence operations between devices (R389 to R393, R428, R429): a proxy's requests at the home, snoops at a
proxy, answers, grants, and the messages that form and end a region. Device 64 stands for the peer of the pair. -/

namespace Sys2Proof.Machine

/-- A coherence operation as it arrives. -/
structure CohOp where
  src : Nat
  allot : Nat := 0
  op : Nat
  right : Nat
  port : Nat
  region : Nat
  line : Nat
  xid : Nat
  code : Nat := 0
  data : Option Line := none
  guar : Bool := false
deriving DecidableEq, Repr

/-- The member that sends an operation to this home. -/
def Mach.cohMember (m : Mach) (c : CohOp) : Option Nat :=
  m.memberOf c.region (if c.src = 64 then .peer c.port else .remote c.src c.port)

/-- The PROXY region of this device that is homed on a device as its region `hr`; of the peer, the region itself (R376, R428). -/
def Mach.proxyRegion (m : Mach) (src hr : Nat) : Option Nat :=
  if src = 64 then some hr
  else (List.range 32).find? fun r =>
    m.regRole r = 2 && m.act Reg.Shared.HOME_ID 0 r = src && m.act Reg.Shared.HOME_REGION 0 r = hr

/-- The line under which this device's ports reach a line of another device (R173); a twin's line is the same. -/
def Mach.localLine (m : Mach) (src line : Nat) : Option Nat :=
  if src = 64 then some line
  else
    (m.st.tracts.find? fun e =>
      tMode e.2 = 3 && tShared e.2 && tPeerTract e.2 = lineTract line && m.lineDev (e.1 * 2 ^ 24) = some src).map fun e =>
      e.1 * 2 ^ 24 + line % 2 ^ 24

/-! ### Requests at the home (R380, R389) -/

/-- Answer a coherent request without serving it. -/
def Mach.cohRefuse (m : Mach) (c : CohOp) (code : Nat) (data : Option Line) : Mach :=
  m.sendCoh c.src c.allot 5 0 c.port c.region c.line c.xid code 0 data

/-- A member's request enters the home's address order point and seeks its right (R378, R380, R385, R391). -/
def Mach.cohRequest (m : Mach) (c : CohOp) (op : MemOp) (giveUp : Bool) (deadline : Nat) : Mach :=
  let other := fun (m : Mach) =>
    ((m.inc Reg.Shared.NONMEMBER).event .shared 0 0x3415 (4 + c.src) (c.line % 2 ^ 32)).cohRefuse c 2 (some (BitVec.allOnes 512))
  if m.regRole c.region != 1 || m.regState c.region = 0 then other m
  else if m.regState c.region != 2 then
    (m.modReg c.region fun x => { x with fenced := min (x.fenced + 1) (2 ^ 32 - 1) }).cohRefuse c 3 none
  else
    match m.cohMember c, m.newTag 4 with
    | some k, some g =>
      let m := m.nextOrder
      let x : Tag := { st := .accepted, op := op, allot := c.allot, hostTag := c.port, line := c.line, hpa := c.line
                       arrived := m.tide, accept := m.tide, deadline := deadline, order := m.order, row := m.rowOf c.line
                       guar := c.guar, src := c.src, xid := c.xid
                       coh := some { region := c.region, member := k, right := c.right, giveUp := giveUp } }
      (m.setTag 4 g x).seekRight 4 g
    | none, _ => other m
    | _, none => m

/-- The deadline of a coherent request that runs under its allotment's ceiling (R367, R388). -/
def Mach.cohDeadline (m : Mach) (a : Nat) : Nat := m.tide + m.act Reg.Allotment.CEILING_US a * 1000

/-- CRD: a right, with the line's data, or for a write the right alone. -/
def Mach.cohCrdBy (m : Mach) (c : CohOp) (deadline : Nat) : Mach :=
  m.cohRequest c (if c.right = 3 then .memInv else .memRd) false deadline

/-- CRD under the allotment's ceiling. -/
def Mach.cohCrd (m : Mach) (c : CohOp) : Mach := m.cohCrdBy c (m.cohDeadline c.allot)

/-- EVICT: the member gives its right up. -/
def Mach.cohEvict (m : Mach) (c : CohOp) : Mach :=
  m.cohRequest { c with right := 0 } .memClnEvct true (m.cohDeadline c.allot)

/-! ### Snoops and answers (R386, R389) -/

/-- BISNP: the home's snoop goes to the member's port; a port that is down, or a line that no tract reaches, answers at once. -/
def Mach.cohBisnp (m : Mach) (c : CohOp) : Mach :=
  match m.proxyRegion c.src c.region, m.localLine c.src c.line with
  | some r, some line =>
    if m.flag Reg.HostPort.DL_UP c.port then
      let q : PSnoop := { line := line, port := c.port, region := r, xid := c.xid, inv := c.right = 2, src := c.src
                          hline := c.line, sent := false }
      (m.modShared fun x => { x with proxy := x.proxy ++ [q] }).sendProxy
    else m.sendCoh c.src 0 4 2 c.port c.region c.line c.xid 0 2 none
  | _, _ => m.sendCoh c.src 0 4 2 c.port c.region c.line c.xid 0 2 none

/-- BIRSP: dirty data is written back, and the snoop is answered (R381, R386, R387). -/
def Mach.cohBirsp (m : Mach) (c : CohOp) : Mach :=
  match m.cohMember c with
  | none => m
  | some k =>
    let open_ := m.shared.snoops.any fun s => s.line = c.line && s.member = k
    let m := match c.data with
      | some d =>
        if open_ then
          let m := m.writeBack c.line d
          if m.mirrored c.line then m.sendWrite false c.line d (BitVec.allOnes 64) false none else m
        else m
      | none => m
    m.snoopAnswer c.region k c.line (c.right = 1)

/-- GRANT: the member's request is answered with data or a completion and the state granted (R380, R389). -/
def Mach.cohGranted (m : Mach) (c : CohOp) : Mach :=
  match m.xidTag c.xid with
  | some (p, g, x) =>
    if x.st != .accepted || x.coh.isNone then m
    else
      match x.op with
      | .memRd | .memRdData =>
        if c.code = 0 then m.answer p g (.memData (c.data.getD 0) false c.right) 0 6
        else m.answer p g (.memData (c.data.getD 0) true 0) c.code 6
      | .memInv | .memInvNT => m.answer p g (if c.code = 0 then .cmpE else .cmp) c.code 6
      | .memWr | .memWrPtl => if c.code = 0 then m.rightGranted p g else m.answer p g .cmp c.code 6
      | _ => m.answer p g .cmp c.code 6
  | none => m.inc Reg.Turnout.LATE_RESP

/-! ### Forming and ending (R391 to R393) -/

/-- AGENT_DOWN: a member of the sending device is a dead agent (R392). -/
def Mach.cohAgentDown (m : Mach) (c : CohOp) : Mach :=
  match m.cohMember c with
  | some k => m.tear c.region 4 (some k)
  | none => m

/-- FENCE: the home tears the region down (R392). -/
def Mach.cohFence (m : Mach) (c : CohOp) : Mach :=
  match m.proxyRegion c.src c.region with
  | some r => if m.regRole r = 2 then m.tear r 7 none else m
  | none => m

/-- READY: a home that forms counts the proxy, and tells one it had not counted that it forms; a proxy that forms becomes ACTIVE
and answers (R391). -/
def Mach.cohReady (m : Mach) (c : CohOp) : Mach :=
  if m.regRole c.region = 1 && (m.proxies c.region).contains c.src then
    if m.regState c.region = 1 && !(m.reg c.region).ready.contains c.src then
      let m := m.modReg c.region fun x => { x with ready := x.ready ++ [c.src] }
      (m.sendCoh c.src 0 8 0 0 c.region 0 0 0 0 none).tryActive c.region
    else m
  else
    match m.proxyRegion c.src c.region with
    | some r =>
      if m.regRole r != 2 then m
      else
        let back := fun (m : Mach) => m.sendCoh c.src 0 8 0 0 c.region 0 0 0 0 none
        match m.regState r with
        | 1 =>
          let mask := m.act Reg.Shared.PORTS 0 r
          back (((m.setReg r 2).modReg r fun x => { x with activeTide := m.tide }).event .shared 0 0x3410 r mask)
        | 2 => back m
        | _ => m
    | none => m

/-! ### Units (R389) -/

/-- The operation that a COHERENCE unit carries (R389); line data that fails its check is not used (R360). -/
def unitCoh (u : FUnit) : CohOp :=
  let ok := u.lc = unitLc u.data u.line
  { src := u.src, allot := u.allot, op := u.be % 256, right := u.be / 2 ^ 8 % 4, port := u.be / 2 ^ 16 % 4
    region := u.be / 2 ^ 24 % 32, line := u.line, xid := u.xid, guar := u.guar
    code := if u.code = 0 && !ok then 2 else u.code
    data := if u.be.testBit 32 && ok then some u.data else none }

/-- A unit that uses a credit but does not wait in the receive buffer returns it at once (R363). -/
def Mach.quickCredit (m : Mach) (u : FUnit) : Mach :=
  let r := m.rxFlow u.src u.allot
  (m.setRx u.src u.allot { r with held := r.held + 1 }).creditBack u.src u.allot

/-- Take the oldest unit of a link where it is a coherence operation of the code given, and act on it. -/
def Mach.cohUnit (m : Mach) (l op : Nat) (f : Mach → CohOp → Mach) : Mach :=
  match m.takeSeq l fun u => u.utype = 12 && u.be % 256 = op with
  | (m, none) => m
  | (m, some u) => f (if credUnit u then m.quickCredit u else m) (unitCoh u)

/-- COH_CRD: a proxy's request waits in the receive buffer as every request unit does (R367, R389). -/
def cohCrdIn (l : Nat) (m : Mach) : Mach :=
  match m.takeSeq l fun u => u.utype = 12 && u.be % 256 = 1 with
  | (m, none) => m
  | (m, some u) =>
    let m := m.modTurn fun x => { x with buf := x.buf ++ [⟨u, m.tide⟩] }
    let r := m.rxFlow u.src u.allot
    (m.setRx u.src u.allot { r with held := r.held + 1 }).showRx

def execCohCrd (t : Nat) (l : Fin 8) (s : State) : Out := s.run t (cohCrdIn l)
/-- COH_EVICT. -/
def execCohEvict (t : Nat) (l : Fin 8) (s : State) : Out := s.run t fun m => m.cohUnit l 2 Mach.cohEvict
/-- COH_BISNP. -/
def execCohBisnp (t : Nat) (l : Fin 8) (s : State) : Out := s.run t fun m => m.cohUnit l 3 Mach.cohBisnp
/-- COH_BIRSP. -/
def execCohBirsp (t : Nat) (l : Fin 8) (s : State) : Out := s.run t fun m => m.cohUnit l 4 Mach.cohBirsp
/-- COH_GRANT. -/
def execCohGrant (t : Nat) (l : Fin 8) (s : State) : Out := s.run t fun m => m.cohUnit l 5 Mach.cohGranted
/-- COH_AGENT_DOWN. -/
def execCohAgentDown (t : Nat) (l : Fin 8) (s : State) : Out := s.run t fun m => m.cohUnit l 6 Mach.cohAgentDown
/-- COH_FENCE. -/
def execCohFence (t : Nat) (l : Fin 8) (s : State) : Out := s.run t fun m => m.cohUnit l 7 Mach.cohFence
/-- COH_READY. -/
def execCohReady (t : Nat) (l : Fin 8) (s : State) : Out := s.run t fun m => m.cohUnit l 8 Mach.cohReady

/-! ### Records (R428, R429) -/

/-- The operation that a COH record carries. -/
def recCoh (r : TwRec) (data : Option Line) : CohOp :=
  let tail := r.data.toNat / 2 ^ 16 % 2 ^ 8
  let op := r.arg % 16
  { src := 64, op := op, right := if op = 4 || op = 5 then tail else r.arg / 2 ^ 4 % 4, port := r.arg / 2 ^ 6 % 4
    region := r.arg / 2 ^ 8 % 32, line := r.line, xid := r.data.toNat % 2 ^ 16, data := data }

/-- Act on an operation of the peer; CRD and EVICT return their stream credit (R404, R429). -/
def Mach.peerCoh (m : Mach) (c : CohOp) : Mach :=
  let m := if c.op = 1 || c.op = 2 then m.modTwin fun x => { x with credRet := x.credRet + 1 } else m
  match c.op with
  | 1 => m.cohCrd c
  | 2 => m.cohEvict c
  | 3 => m.cohBisnp c
  | 4 => m.cohBirsp c
  | 5 => m.cohGranted c
  | 6 => m.cohAgentDown c
  | 7 => if m.twinRegion c.region then m.tear c.region 7 none else m
  | _ => m

/-- TWIN_COH: an operation of a twin region; one that carries line data waits for its COH_DATA (R429). -/
def twinCoh (m : Mach) : Mach :=
  match m.takeS 0x14 with
  | none => m
  | some (m, r) =>
    if !recOk r then m
    else if r.data.toNat / 2 ^ 24 % 2 = 1 then m.modTwin fun x => { x with pend := some r }
    else m.peerCoh (recCoh r none)

def execTwinCoh (t : Nat) (s : State) : Out := s.run t twinCoh

/-- TWIN_COH_DATA: the line data of the COH record before it (R429). -/
def twinCohData (m : Mach) : Mach :=
  match m.takeS 0x15 with
  | none => m
  | some (m, d) =>
    match m.twin.pend with
    | some r =>
      let m := m.modTwin fun x => { x with pend := none }
      if r.op = 0x14 then
        if recOk d then m.peerCoh (recCoh r (some d.data))
        else m.peerCoh { recCoh r none with code := 2 }
      else m
    | none => m

def execTwinCohData (t : Nat) (s : State) : Out := s.run t twinCohData

end Sys2Proof.Machine
end

