-- ==== Sys2Proof/Machine/Crypto.lean ====
section
/-! DEFINITION. Key commands (R294 to R297, R305), `ALARM_CAUSE` (R304), the Rekey engine (R308 to R313), the key sets of host
port IDE (R314, R315). -/

namespace Sys2Proof.Machine

/-! ### Key commands (R294 to R296) -/

/-- Whether a rekey that runs or is stopped names a slot (R295, R313). -/
def Mach.rekeyNames (m : Mach) (k : Nat) : Bool :=
  m.fsm .rekey != 0 && (m.rd Reg.Rekey.RK_OLD = k || m.rd Reg.Rekey.RK_NEW = k)

/-- `SV_USERS` of a slot (R296). -/
def Mach.slotUsers (m : Mach) (k : Nat) : Nat :=
  (m.st.tracts.filter fun e => (tMode e.2 = 1 || tMode e.2 = 2) && tKey e.2 = k).length +
  (if m.fsm .rekey != 0 && m.rd Reg.Rekey.RK_NEW = k then 1 else 0)

/-- Whether a source may run key commands and rekeys (R295, R318). -/
def Mach.keyWriter (m : Mach) (src : Nat) : Bool :=
  if src = 5 then true else if src = 4 then m.flag Reg.Crypto.BMC_KEY else (m.rd Reg.Crypto.PORT_KEY).testBit src

/-- The result of a key command by the conditions of R295, REFUSED_BUSY apart: 0 LOAD, 1 GENERATE, 2 CLEAR, 3 ZEROISE. -/
def Mach.keyRefusal (m : Mach) (op k src : Nat) : Nat :=
  if !m.keyWriter src then 1
  else if op = 3 then 0
  else if (m.slot k).lock then 2
  else if m.slotUsers k != 0 || m.rekeyNames k then 3
  else if op != 2 && (m.slot k).epoch = 65535 then 4
  else 0

/-- A slot takes keys: VALID, the next epoch, its counter at 0 (R294). -/
def Mach.loadSlot (m : Mach) (k k1 k2 k3 : Nat) (lock gen : Bool) (src : Nat) : Mach :=
  let x := m.slot k
  let m := m.setSlot k { x with state := 1, k1 := k1, k2 := k2, k3 := k3, epoch := x.epoch + 1, lock := x.lock || lock
                                gen := gen, writes := 0, advised := false, sat := false, loadTide := m.tide }
  m.event .crypto 0 0x2811 k (src + (x.epoch + 1) * 256)

/-- GENERATE fills a slot from the random number generator, whose numbers are free values (R294). -/
def Mach.generate (m : Mach) (k : Nat) (lock : Bool) (src : Nat) : Mach :=
  let a := m.fresh.toNat
  let m := m.nextFree
  let b := m.fresh.toNat
  m.nextFree.loadSlot k (a % 2 ^ 256) (a / 2 ^ 256) (b % 2 ^ 256) lock true src

/-- A key as four of the twelve data words. -/
def Mach.keyWord (m : Mach) (w : Nat) : Nat :=
  ((List.range 4).map fun i => m.rd Reg.Crypto.KEY_DATA 0 (w + i) * 2 ^ (64 * i)).sum

/-- The action of a command that is not refused (R294, R305). -/
def Mach.keyAct (m : Mach) (op k src : Nat) (lock : Bool) : Mach :=
  match op with
  | 0 => m.loadSlot k (m.keyWord 0) (m.keyWord 4) (m.keyWord 8) lock false src
  | 1 => m.generate k lock src
  | 2 => (m.setSlot k { m.slot k with state := 0, k1 := 0, k2 := 0, k3 := 0, gen := false }).event .crypto 0 0x2812 k src
  | _ => m.zeroise [k] k 0

/-- KEY_CMD_DONE: the running command posts its result, and the data words are 0 (R294, R295). -/
def keyCmdDone (m : Mach) : Mach :=
  match m.cry.cmd with
  | none => m
  | some c =>
    let m := { m with cry := { m.cry with cmd := none } }
    let m := (m.wr Reg.Crypto.KEY_RESULT c.code).wr Reg.Crypto.KEY_RESULT_SLOT c.slot
    let m := (m.wr Reg.Crypto.KEY_RESULT_SRC c.src).inc Reg.Crypto.KEY_CMDS
    m.each (List.range 12) fun m w => m.wr Reg.Crypto.KEY_DATA 0 0 w

/-- A write of the register 0x160 with `CMD_GO` = 1 (R294, R295). A permitted ZEROISE is not refused: a command that runs posts its result
first, as it may in any cycle (DEDUCED, log entry 150). -/
def Mach.keyGo (m : Mach) (op k src : Nat) (lock : Bool) : Mach :=
  let m := ((m.wr Reg.Crypto.CMD_SLOT k).wr Reg.Crypto.CMD_OP op).wb Reg.Crypto.CMD_LOCK lock
  if m.cry.cmd.isSome && !(op = 3 && m.keyWriter src) then m.event .crypto 0 0x2816 k 5
  else
    let m := keyCmdDone m
    let code := m.keyRefusal op k src
    let m := { m with cry := { m.cry with cmd := some ⟨k, src, code, m.tide⟩ } }
    if code = 0 then m.keyAct op k src lock else m.event .crypto 0 0x2816 k code

/-- KEY_LOAD: the data words become the slot's keys (R294). -/
def execKeyLoad (t : Nat) (src : Source) (k : Fin 64) (lock : Bool) (s : State) : Out :=
  s.run t fun m => m.stageWrite .crypto 0 src fun m => m.keyGo 0 k src lock
/-- KEY_GENERATE (R294). -/
def execKeyGenerate (t : Nat) (src : Source) (k : Fin 64) (lock : Bool) (s : State) : Out :=
  s.run t fun m => m.stageWrite .crypto 0 src fun m => m.keyGo 1 k src lock
/-- KEY_CLEAR (R294). -/
def execKeyClear (t : Nat) (src : Source) (k : Fin 64) (s : State) : Out :=
  s.run t fun m => m.stageWrite .crypto 0 src fun m => m.keyGo 2 k src false
/-- KEY_ZEROISE (R294, R305). -/
def execKeyZeroise (t : Nat) (src : Source) (k : Fin 64) (s : State) : Out :=
  s.run t fun m => m.stageWrite .crypto 0 src fun m => m.keyGo 3 k src false

def execKeyCmdDone (t : Nat) (s : State) : Out := s.run t keyCmdDone

/-- Bring-up: every slot EMPTY, slot 0 generated by the management core, a new table key (R297, R298, R503). -/
def Mach.keysAtReset (m : Mach) : Mach :=
  let a := m.fresh.toNat
  let m := m.nextFree
  let b := m.fresh.toNat
  let m := m.nextFree
  let tk : KeySlot := { state := 1, k1 := a % 2 ^ 256, k2 := a / 2 ^ 256, k3 := b % 2 ^ 256 }
  let m := { m with cry := { m.cry with slots := [], tableKey := tk, cmd := none, rkRead := none, rkPaid := none, rkDone := false } }
  (((m.generate 0 false 5).wr Reg.Crypto.KEY_RESULT 0).wr Reg.Crypto.KEY_RESULT_SRC 5).inc Reg.Crypto.KEY_CMDS

/-- Causes are written 1 to clear (R304). -/
def Mach.alarmClear (m : Mach) (mask : Nat) : Mach :=
  (m.wr Reg.Crypto.ALARM_CAUSE ((m.rd Reg.Crypto.ALARM_CAUSE) &&& (31 - mask % 32))).showAlarm

/-- ALARM_CAUSE_CLEAR. -/
def execAlarmCauseClear (t : Nat) (src : Source) (mask : Nat) (s : State) : Out :=
  s.run t fun m => m.written src fun m => m.alarmClear mask

/-! ### The Rekey engine (R308 to R313) -/

/-- The reason for which a start is ignored, 0 for none (R309). -/
def Mach.rekeyRefusal (m : Mach) (n k src : Nat) : Nat :=
  let e := m.tract n
  if !m.keyWriter src then 1
  else if m.fsm .rekey != 0 || !m.enabled .rekey then 2
  else if tMode e != 1 && tMode e != 2 then 3
  else if (m.slot k).state != 1 then 4
  else if k % 8 = tKey e % 8 then 5
  else if m.sip.queue.any fun c => 8 ≤ c.op && c.plot / 2 ^ 18 = n then 6
  else 0

/-- A write of the register 0x100 with `RK_GO` = 1 (R309, R319). -/
def Mach.rekeyGo (m : Mach) (n k src : Nat) : Mach :=
  let m := (m.wr Reg.Rekey.RK_TRACT n).wr Reg.Rekey.RK_NEW_SLOT k
  let why := m.rekeyRefusal n k src
  if why != 0 then
    ((m.wr Reg.Rekey.RK_REFUSE why).inc Reg.Rekey.RK_REFUSALS).event .rekey 0 0x2816 n (256 + why)
  else
    let old := tKey (m.tract n)
    let m := ((m.wr Reg.Rekey.RK_ACT_TRACT n).wr Reg.Rekey.RK_OLD old).wr Reg.Rekey.RK_NEW k
    let m := ((m.wr Reg.Rekey.RK_BOUNDARY 0).wr Reg.Rekey.RK_LINES_DONE 0).wr Reg.Rekey.RK_LINES_SKIPPED 0
    let m := ((m.wr Reg.Rekey.RK_OVERTAKEN 0).wr Reg.Rekey.RK_LATE_STEPS 0).wr Reg.Rekey.RK_START_TIDE m.tide
    let m := { m with cry := { m.cry with rkDone := false, rkRead := none, rkPaid := none } }
    let m := (m.wr Reg.Rekey.RK_END_TIDE 0).setFsm .rekey (if m.quiet .rekey then 2 else 1)
    m.event .rekey 0 0x2820 n (old + k * 256)

/-- REKEY_GO (R309). -/
def execRekeyGo (t : Nat) (src : Source) (n : Fin 65536) (k : Fin 64) (s : State) : Out :=
  s.run t fun m => m.stageWrite .rekey 0 src fun m => m.rekeyGo n k src

/-- Change the Rekey engine's own state. -/
def Mach.modCry (m : Mach) (f : CryptoX → CryptoX) : Mach := { m with cry := f m.cry }

/-- Debit lines of kind 3 (R312). -/
def Mach.rkDebit (m : Mach) (n : Nat) : Mach := (m.takeFbN 3 n).modCry fun x => { x with rkUsed := x.rkUsed + n }

/-- Whether `n` lines of kind 3 are to be had this turn within `RK_RATE_LINES` (R163, R312). -/
def Mach.rkHas (m : Mach) (n : Nat) : Bool :=
  m.hasFbN 3 n && (m.rd Reg.Rekey.RK_RATE_LINES = 0 || m.cry.rkUsed + n ≤ m.rd Reg.Rekey.RK_RATE_LINES)

/-- Whether a step may run now: the engine RUNNING, its tract not held (R313). -/
def Mach.rkMay (m : Mach) : Bool :=
  m.fsm .rekey = 1 && (!m.cry.rkDone || m.cry.rkRead.isSome) && !m.tractHeld (m.rd Reg.Rekey.RK_ACT_TRACT * 2 ^ 24)

/-- The tracker entry of a step with its deadline; none where it waits (R94, R95, R312). -/
def Mach.rkEntry (m : Mach) (line : Nat) : Option Mach := m.stepEntry 3 line (m.tide + m.rd Reg.Rekey.RK_STEP_US * 1000)

/-- A line of a step is done or skipped (R312, R319). -/
def Mach.rkCount (m : Mach) (done : Bool) (n : Nat) : Mach :=
  (m.inc (if done then Reg.Rekey.RK_LINES_DONE else Reg.Rekey.RK_LINES_SKIPPED) 0 0 n).modCry fun x => { x with rkRead := none, rkPaid := none }

/-- A line of a step takes its freeboard lines once; it waits where they are not to be had (R163, R312). -/
def Mach.rkPay (m : Mach) (line n : Nat) : Mach × Bool :=
  if m.cry.rkPaid = some line then (m, true)
  else
    let m := if m.cry.rkRead = some line then m else m.modCry fun x => { x with rkRead := some line, rkOrder := m.order }
    if m.rkHas n then ((m.rkDebit n).modCry fun x => { x with rkPaid := some line }, true) else (m, false)

/-- Read a line for the engine, with what the merge buffer holds of it; none while its chain is at work (R105, R311). -/
def Mach.rkRead (m : Mach) (line : Nat) (errs : List (BitVec 640)) (cisBad : Bool) : Mach × Option LineVal :=
  match m.lev.done.find? fun d => d.who = .rekey && d.line = line with
  | some d =>
    (m.modLev fun x => { x with done := x.done.filter fun q => q.who != .rekey }, some ((m.mergedVal line m.order (some d.val)).getD d.val))
  | none =>
    if m.lev.chains.any fun c => c.2.who = .rekey then (m, none)
    else
      match m.tryRead line errs cisBad with
      | (m, .ok v) => (m, some ((m.mergedVal line m.order (some v)).getD v))
      | (m, t) => (m.takeTry .rekey line m.order t, none)

/-- The lines a stored line costs (R312). -/
def Mach.rkCost (m : Mach) (pl : Nat) : Nat := if m.striped (pl / 2 ^ 24) then 4 else 2

/-- What a line costs: 1 where it is blank (R312). -/
def Mach.rkLineCost (m : Mach) (line pl : Nat) : Nat := if (m.image pl).blank && !m.hasMerge line m.order then 1 else m.rkCost pl

/-- One stored line of a step: read, and stored under the new slot with its version; a blank line is skipped; a write accepted
since the read counts as the store (R311). -/
def Mach.rkLine (m : Mach) (line pl : Nat) (errs : List (BitVec 640)) (cisBad : Bool) : Mach × Bool :=
  match m.rkPay line (m.rkLineCost line pl) with
  | (m, false) => (m, false)
  | (m, true) =>
  if (m.image pl).blank && !m.hasMerge line m.order then (m.rkCount false 1, true)
  else
    match m.rkRead line errs cisBad with
    | (m, none) => (m, false)
    | (m, some v) =>
      if m.writtenSince line (m.cry.rkOrder + 1) then ((m.inc Reg.Rekey.RK_OVERTAKEN).rkCount true 1, true)
      else ((m.storeInternal line pl v (m.image pl).ver).rkCount true 1, true)

/-- A step of the chain of a sector succeeds, 1 or 4; it is counted and told (R238, R267). -/
def Mach.sectorOk (m : Mach) (line pl step : Nat) : Mach :=
  let m := if step = 1 then m.inc Reg.Levee.REREAD_OK else m.inc Reg.Levee.STRIPE_OK
  let m := (m.inc Reg.Levee.CANAL_RECOVERED 0 (canalOf pl)).wr Reg.Levee.LAST_FAIL_STEP step
  m.event .levee 0 0x1C11 line (dpaHi line + step * 2 ^ 8)

/-- A sector of a COMPRESSED plot that fails its check: read again, else rebuilt from its row; none where it is lost (R238, R311). DESIGN CHOICE
(log entry 134): its chain runs within the step, and has no steps 2 and 3, which give lines. -/
def Mach.rkRecover (m : Mach) (plot pl : Nat) (errs : List (BitVec 640)) (s : Seen) (flip : Bool) : Mach × Option LineVal :=
  let line := plot * 64
  match (m.firstFail .rekey line pl s flip).readAt line (plWord pl) pl (errs.headD 0) with
  | (m, .ok v) => (m.sectorOk line pl 1, some v)
  | (m, t) =>
    let m := match t with | .bad pl s flip => m.chainMac line pl s flip | _ => m
    let (m, i) := if m.striped (pl / 2 ^ 24) then m.rebuild pl line errs.tail else (m, none)
    match i with
    | some i =>
      match m.openSector plot pl i with
      | (some (v, _), _) => (m.sectorOk line pl 4, some v)
      | (none, s) => ((m.chainMac line pl s flip).inc Reg.Levee.CHAIN_POISONED |>.wr Reg.Levee.LAST_FAIL_STEP 5, none)
    | none => ((m.inc Reg.Levee.CHAIN_POISONED).wr Reg.Levee.LAST_FAIL_STEP 5, none)

/-- A sector of a COMPRESSED plot: read, or recovered, and stored under the new slot; one that is lost is stored poisoned (R311). -/
def Mach.rkSector (m : Mach) (plot pl : Nat) (errs : List (BitVec 640)) : Mach :=
  let ver := (m.image pl).ver
  let put := fun (m : Mach) (v : LineVal) =>
    if m.canalTakes pl then m.storeWithRow (plot * 64) pl fun m => m.storeRaw (plot * 64) (plWord pl) pl v ver (4 + v.poison.toNat) else m
  let lost := fun (m : Mach) => put (m.recordPoison (plot * 64) 1) { lc := lc32 (lineBytes 0) (plWord pl), poison := true }
  match m.readAt (plot * 64) (plWord pl) pl (errs.headD 0) with
  | (m, .ok v) => put m v
  | (m, .bad pl s flip) =>
    match m.rkRecover plot pl errs.tail s flip with
    | (m, some v) => put m v
    | (m, none) => lost m
  | (m, _) =>
    let (m, i) := if m.striped (pl / 2 ^ 24) then m.rebuild pl (plot * 64) [] else (m, none)
    match i.bind fun i => (m.openSector plot pl i).1 with
    | some (v, _) => put m v
    | none => lost m

/-- The sectors of a plot's step from number `k` on, of `n` left; the flag says that none is left (R308, R312). `plot * 64 + k` names the place
of a step that waits for freeboard lines. -/
def Mach.rkSectors (m : Mach) (plot : Nat) (errs : List (BitVec 640)) : Nat → Nat → Mach × Bool
  | 0, _ => (m, true)
  | n + 1, k =>
    if (match m.cry.rkRead with | some l => l / 64 = plot && plot * 64 + k < l | none => false) then m.rkSectors plot errs n (k + 1)
    else
      match m.rkPay (plot * 64 + k) 2 with
      | (m, false) => (m, false)
      | (m, true) => (((m.rkSector plot (m.realPl ((m.plot plot).loc + k)) errs).rkCount true 1)).rkSectors plot errs.tail n (k + 1)

/-- B advances past a line or a plot; at the end of the tract every step is done (R308, R313). -/
def Mach.rkAdvance (m : Mach) (b : Nat) : Mach :=
  if b < 2 ^ 24 then m.wr Reg.Rekey.RK_BOUNDARY b
  else (m.wr Reg.Rekey.RK_BOUNDARY (2 ^ 24 - 1)).modCry fun x => { x with rkDone := true }

/-- The lines of a plot's step from one on; the flag says that none is left (R308, R311). -/
def Mach.rkPlotLines (m : Mach) (plot : Nat) (errs : List (BitVec 640)) (cisBad : Bool) : Nat → Mach × Bool
  | 0 => (m, true)
  | n + 1 =>
    let line := plot * 64 + (63 - n)
    if (match m.cry.rkRead with | some l => l / 64 = plot && line < l | none => false) then m.rkPlotLines plot errs cisBad n
    else
      match m.linePl line with
      | none => m.rkPlotLines plot errs cisBad n
      | some pl =>
        match m.rkLine line pl [errs.headD 0] cisBad with
        | (m, true) => m.rkPlotLines plot errs.tail cisBad n
        | (m, false) => (m, false)

/-- The step of a plot: its lines or its sectors, then its entry (R308). -/
def Mach.rkPlot (m : Mach) (plot : Nat) (errs : List (BitVec 640)) (cisBad : Bool) : Mach :=
  let p := m.plot plot
  let b := plot % 2 ^ 18 * 64 + 64
  let entry := fun (m : Mach) =>
    (m.setPlot plot { m.plot plot with key := m.rd Reg.Rekey.RK_NEW, version := ((m.plot plot).version + 1) % 2 ^ 16 }).rkAdvance b
  match p.tier with
  | 0 => if m.rkHas 1 then (((m.rkDebit 1).rkCount false 64).rkAdvance b).stepFree 3 else m
  | 2 =>
    match (m.rkAdvance b).rkSectors plot errs p.sectors 0 with
    | (m, true) => (entry m).stepFree 3
    | (m, false) => m
  | _ =>
    match (m.rkAdvance b).rkPlotLines plot errs cisBad 64 with
    | (m, true) => (entry m).stepFree 3
    | (m, false) => m

/-- REKEY_STEP_DONE: a step of the running rekey (R308, R311). B passes the line or plot when its read is accepted. -/
def rekeyStepDone (errs : List (BitVec 640)) (cisBad : Bool) (m : Mach) : Mach :=
  let n := m.rd Reg.Rekey.RK_ACT_TRACT
  if !m.rkMay then m
  else if tMode (m.tract n) = 1 then
    let line := match m.cry.rkRead with | some l => l | none => n * 2 ^ 24 + m.rd Reg.Rekey.RK_BOUNDARY
    match m.linePl line with
    | none => m
    | some pl =>
      if m.cry.rkRead.isNone && !m.rkHas (m.rkLineCost line pl) then m
      else
        match m.rkEntry line with
        | none => m.inc Reg.DataMover.TRACK_WAITS
        | some m =>
          match (m.rkAdvance (line % 2 ^ 24 + 1)).rkLine line pl errs cisBad with
          | (m, true) => m.stepFree 3
          | (m, false) => m
  else
    let plot := n * 2 ^ 18 + (match m.cry.rkRead with | some l => l % 2 ^ 24 | none => m.rd Reg.Rekey.RK_BOUNDARY) / 64
    if m.cry.rkRead.isNone && !m.rkHas 1 then m
    else
      match m.rkEntry (plot * 64) with
      | none => m.inc Reg.DataMover.TRACK_WAITS
      | some m => m.rkPlot plot errs cisBad

def execRekeyStepDone (t : Nat) (errs : List (BitVec 640)) (cisBad : Bool) (s : State) : Out := s.run t (rekeyStepDone errs cisBad)

/-- At a turn boundary a rekey whose steps are done ends: the tract takes the new slot (R313). -/
def Mach.rekeyBoundary (m : Mach) : Mach :=
  if m.fsm .rekey = 1 && m.cry.rkDone && m.cry.rkRead.isNone then
    let n := m.rd Reg.Rekey.RK_ACT_TRACT
    let m := m.modSt fun s => { s with tracts := Tbl.putD s.tracts n (tWithKey (m.tract n) (m.rd Reg.Rekey.RK_NEW)) 0 }
    let m := (m.modCry fun x => { x with rkDone := false }).setFsm .rekey 0
    let m := ((m.wr Reg.Rekey.RK_RESULT 0).wr Reg.Rekey.RK_END_TIDE m.tide).inc Reg.Rekey.RK_COUNT
    m.event .rekey 0 0x2821 n 0
  else m

/-- `HALT` or `ENABLE` = 0 pauses a rekey with B kept; it goes on when both are cleared (R313). -/
def Mach.rekeyPause (m : Mach) : Mach :=
  let stop := m.quiet .rekey || !m.enabled .rekey
  if m.fsm .rekey = 1 && stop then m.setFsm .rekey 2 else if m.fsm .rekey = 2 && !stop then m.setFsm .rekey 1 else m

/-- A stopped rekey lets its tract go once the tract is NONE (R313). -/
def Mach.rekeyRelease (m : Mach) : Mach :=
  if m.fsm .rekey = 3 && tMode (m.tract (m.rd Reg.Rekey.RK_ACT_TRACT)) = 0 then m.setFsm .rekey 0 else m

/-! ### Host port IDE (R314, R315) -/

/-- The key sets of a stream of a port: 0 CXL.io, 1 CXL.cachemem. -/
def Mach.ide (m : Mach) (p : Nat) (mem : Bool) : IdeStream := Tbl.getD m.cry.ide (2 * p + mem.toNat) {}

def ideState (mem : Bool) : Field := if mem then Reg.Crypto.IDE_MEM_STATE else Reg.Crypto.IDE_IO_STATE
def ideSet (mem : Bool) : Field := if mem then Reg.Crypto.IDE_MEM_KSET else Reg.Crypto.IDE_IO_KSET

/-- The flag of `LINK_STATE` that says that a stream is active (R85). -/
def ideOn (mem : Bool) : Field := if mem then Reg.HostPort.IDE_MEM else Reg.HostPort.IDE_IO

/-- A stream is off: no set in use (R314, R315). -/
def Mach.ideOff (m : Mach) (p : Nat) (mem : Bool) : Mach :=
  ((m.wr (ideState mem) 0 0 p).wr (ideSet mem) 0 0 p).wr (ideOn mem) 0 p

/-- Replace the key sets of a stream. -/
def Mach.setIde (m : Mach) (p : Nat) (mem : Bool) (x : IdeStream) : Mach :=
  m.modCry fun c => { c with ide := Tbl.put c.ide (2 * p + mem.toNat) x }

/-- Whether a set is programmed in both directions. -/
def IdeStream.full (x : IdeStream) (k : Nat) : Bool := x.rx.contains k && x.tx.contains k

/-- Every IDE key of a port is erased (R78, R81, R82, R314). -/
def Mach.eraseIde (m : Mach) (p : Nat) (keepInsecure : Bool) : Mach :=
  m.each [false, true] fun m mem =>
    let m := m.setIde p mem {}
    if keepInsecure && m.rd (ideState mem) 0 p = 3 then m.wr (ideOn mem) 0 p else m.ideOff p mem

/-- An answer of IDE_KM: the message's object, the stream, its state and the set in use, whether it was done. -/
def Mach.ideReply (m : Mach) (p : Nat) (mem : Bool) (obj : Nat) (done : Bool) : Mach :=
  m.emit (.doe p 2 [obj, mem.toNat, m.rd (ideState mem) 0 p, m.rd (ideSet mem) 0 p, done.toNat])

/-- IDE_QUERY (R314). -/
def execIdeQuery (t : Nat) (p : Port) (mem : Bool) (s : State) : Out := s.run t fun m => m.ideReply p mem 0 true

/-- IDE_KEY_PROG: one direction of a set is programmed; the set in use is not (R315). -/
def ideKeyProg (p : Nat) (mem tx : Bool) (k : Nat) (m : Mach) : Mach :=
  let st := m.rd (ideState mem) 0 p
  if st = 3 || (st = 2 && m.rd (ideSet mem) 0 p = k) then m.ideReply p mem 2 false
  else
    let x := m.ide p mem
    let x := if tx then { x with tx := insertNat k x.tx } else { x with rx := insertNat k x.rx }
    let m := m.setIde p mem x
    let m := if st = 0 && x.full k then m.wr (ideState mem) 1 0 p else m
    m.ideReply p mem 2 true

def execIdeKeyProg (t : Nat) (p : Port) (mem tx : Bool) (k : Fin 2) (s : State) : Out := s.run t (ideKeyProg p mem tx k)

/-- IDE_K_SET_GO: a set programmed in both directions is used; a change of set in use is a switch (R315). -/
def ideKSetGo (p : Nat) (mem : Bool) (k : Nat) (m : Mach) : Mach :=
  let st := m.rd (ideState mem) 0 p
  if (m.ide p mem).full k && (st = 1 || st = 2) then
    let swap := st = 2 && m.rd (ideSet mem) 0 p != k
    let m := ((m.wr (ideState mem) 2 0 p).wr (ideSet mem) k 0 p).wr (ideOn mem) 1 p
    let m := if swap then (m.inc Reg.Crypto.IDE_SWITCHES 0 p).event .crypto 0 0x2819 p (mem.toNat + k * 2) else m
    m.ideReply p mem 4 true
  else m.ideReply p mem 4 false

def execIdeKSetGo (t : Nat) (p : Port) (mem : Bool) (k : Fin 2) (s : State) : Out := s.run t (ideKSetGo p mem k)

/-- IDE_K_SET_STOP: the set's keys go; a stream whose set in use it was, or that has no full set left, is OFF (R315). -/
def ideKSetStop (p : Nat) (mem : Bool) (k : Nat) (m : Mach) : Mach :=
  let st := m.rd (ideState mem) 0 p
  if st = 3 then m.ideReply p mem 5 false
  else
    let x := m.ide p mem
    let x : IdeStream := { rx := x.rx.filter fun j => j != k, tx := x.tx.filter fun j => j != k }
    let m := m.setIde p mem x
    let off := if st = 2 then m.rd (ideSet mem) 0 p = k else !(x.full 0 || x.full 1)
    let m := if off then m.ideOff p mem else m
    m.ideReply p mem 5 true

def execIdeKSetStop (t : Nat) (p : Port) (mem : Bool) (k : Fin 2) (s : State) : Out := s.run t (ideKSetStop p mem k)

end Sys2Proof.Machine
end

