-- ==== Sys2Proof/Machine/Gauge.lean ====
section
/-! DEFINITION. The Gauge Book (R476 to R495): records, the ring and the flash, reading, clearing, host mirroring. -/

namespace Sys2Proof.Machine

/-- Whole seconds during which VAON had been present at a tide, restored count included (R479). -/
def Mach.opsAt (m : Mach) (t : Nat) : Nat := min (m.gb.opBase + t / 1000000000) (2 ^ 40 - 1)

/-- The same now. -/
def Mach.opSeconds (m : Mach) : Nat := m.opsAt m.tide

/-- The four words of a record, its 32 bytes little-endian (R476). -/
def recWord (r : Rec) : Nat → Nat
  | 0 => r.code % 2 ^ 16 + r.seq % 2 ^ 48 * 2 ^ 16
  | 1 => r.p0 % 2 ^ 32 + r.p1 % 2 ^ 32 * 2 ^ 32
  | 2 => r.p2 % 2 ^ 32 + r.ops % 2 ^ 32 * 2 ^ 32
  | _ => r.ops / 2 ^ 32 % 2 ^ 8 + r.cycles % 2 ^ 32 * 2 ^ 8 + r.rep % 2 ^ 16 * 2 ^ 40 +
         (r.sev % 8 + r.inst % 16 * 8) * 2 ^ 56

/-- The 32 bytes of a record as one number. -/
def recBytes (r : Rec) : Nat :=
  recWord r 0 + recWord r 1 * 2 ^ 64 + recWord r 2 * 2 ^ 128 + recWord r 3 * 2 ^ 192

/-- Change the Gauge Book's own state. -/
def Mach.modGb (m : Mach) (f : GaugeX → GaugeX) : Mach := { m with gb := f m.gb }

/-- A flash block of the area; an unlisted one is erased and in use. -/
def GaugeX.blk (g : GaugeX) (b : Nat) : FlashBlk := Tbl.getD g.flash b {}

/-- The flash blocks that are not retired (R486). -/
def GaugeX.live (g : GaugeX) : List Nat := (List.range g.nBlk).filter fun b => !(g.blk b).retired

/-- Show the counts of the flash blocks in the page (R486, R494). -/
def Mach.showFlash (m : Mach) : Mach :=
  let live := m.gb.live.length
  let m := m.wr Reg.Gauge.FLASH_BLOCKS live
  let m := m.wr Reg.Gauge.FLASH_RETIRED (m.gb.nBlk - live)
  let m := m.wr Reg.Gauge.ERASE_MAX ((m.gb.flash.map fun e => e.2.erases).foldl max 0)
  if live = 0 then m.setFsm .gauge 1 else m

/-- Write a closed record into the host ring by two posted writes: 32 bytes with `VALID_N` = 1, then byte 31 (R491). -/
def Mach.mirrorRec (m : Mach) (r : Rec) : Mach :=
  if m.rd Reg.Gauge.MIRROR_STATE = 1 then
    let p := m.rd Reg.Gauge.MIRROR_PORT
    let a := m.rd Reg.Gauge.MIRROR_HPA * 64 + r.seq % 2 ^ m.rd Reg.Gauge.MIRROR_LOG2 * 32
    let m := m.emit (.hostWrite p a (recBytes r + 2 ^ 255) 32)
    let m := m.emit (.hostWrite p (a + 31) (recWord r 3 / 2 ^ 56) 1)
    m.wr Reg.Gauge.SEQ_HOST r.seq
  else m

/-- The newest record stops being open: the `RECORD` bit is set and the record is mirrored (R482, R491, R494). -/
def Mach.closeRec (m : Mach) : Mach :=
  if m.gb.isOpen then
    let m := m.modGb fun g => { g with isOpen := false }
    let m := m.setBlock ⟨.gauge, 0⟩ recordEvt
    match Tbl.find m.gb.ring (m.rd Reg.Gauge.SEQ_HEAD) with
    | some r => m.mirrorRec r
    | none => m
  else m

/-- The record that a new one pushes out of the ring is lost from flash unless it has reached it (R485). -/
def Mach.pushOut (m : Mach) (seq : Nat) : Mach :=
  match Tbl.find m.gb.ring seq with
  | none => m
  | some _ =>
    let m := m.modGb fun g => { g with ring := Tbl.del g.ring seq }
    if m.rd Reg.Gauge.SEQ_FLASH < seq && m.rd Reg.Gauge.SEQ_FLOOR ≤ seq && !m.gb.live.isEmpty then
      (m.inc Reg.Gauge.FLASH_LOST).modGb fun g =>
        { g with lostRun := match g.lostRun with | none => some (seq, 1) | some (f, n) => some (f, n + 1) }
    else m

/-- Write a new record with the next sequence, and leave it open (R478, R482, R483). -/
def Mach.newRec (m : Mach) (e : Event) : Mach :=
  let m := m.closeRec
  let seq := (m.rd Reg.Gauge.SEQ_HEAD + 1) % 2 ^ 64
  let m := m.pushOut (seq - 4096)
  let r : Rec := { code := e.code, seq := seq, p0 := e.p0, p1 := e.p1, p2 := e.p2, ops := m.opsAt e.tide,
                   cycles := m.rd Reg.Gauge.POWER_CYCLES, rep := 0, sev := severity e.code, inst := e.inst }
  let m := m.wr Reg.Gauge.SEQ_HEAD seq
  let m := m.inc Reg.Gauge.RECORDS
  m.modGb fun g => { g with ring := Tbl.put g.ring seq r, isOpen := true, lastOcc := e.tide }

/-- The merge window in ns. -/
def Mach.repeatNs (m : Mach) : Nat := m.rd Reg.Gauge.REPEAT_WINDOW_MS * 1000000

/-- The open record an event merges into, if there is one (R482, R493). -/
def Mach.mergeInto (m : Mach) (e : Event) : Option Rec :=
  if m.gb.isOpen && e.tide ≤ m.gb.lastOcc + m.repeatNs then
    match Tbl.find m.gb.ring (m.rd Reg.Gauge.SEQ_HEAD) with
    | some r =>
      if r.rep < 65535 && r.code = e.code && r.inst = e.inst && r.p0 = e.p0 && r.p1 = e.p1 then some r else none
    | none => none
  else none

/-- Record one event: merge it into the open record, which closes at 65,535 repeats, or write a new one (R482). -/
def Mach.record (m : Mach) (e : Event) : Mach :=
  match m.mergeInto e with
  | some r =>
    let m := (m.inc Reg.Gauge.REPEATS).modGb fun g =>
      { g with ring := Tbl.put g.ring r.seq { r with rep := r.rep + 1, p2 := e.p2 }, lastOcc := e.tide }
    if r.rep + 1 = 65535 then m.closeRec else m
  | none => m.newRec e

/-- The recorder's own event 0x4414 joins the queue as soon as there is room for its severity (R481). -/
def Mach.joinDropped (m : Mach) : Mach :=
  match m.gb.dropWait with
  | none => m
  | some r =>
    if m.gb.queue.length < 480 then
      let m := m.modGb fun g => { g with dropWait := none }
      let m := m.setBlock ⟨.gauge, 0⟩ 0x4414
      m.enqueue ⟨0x4414, 0, r.head, (r.count + 2 ^ 31) % 2 ^ 32, r.tide % 2 ^ 32, m.tide⟩
    else m

/-- RECORD_WRITE: the recorder takes the oldest queued event and records it (R481, R482); not before the record sequence has been
restored (R479), and not while MGMT is off (R470, R483). -/
def recordWrite (m : Mach) : Mach :=
  match m.gb.queue with
  | [] => m
  | e :: q =>
    if m.boot.restoreDue || m.islandDown 37 then m else
    let m := (m.modGb fun g => { g with queue := q }).record e
    let m := m.joinDropped
    if m.gb.queue.isEmpty then m.modGb fun g => { g with dropSeen := false } else m

def execRecordWrite (t : Nat) (s : State) : Out := s.run t recordWrite

/-- REPEAT_WINDOW_EXPIRY: the open record closes once the window has passed since its last occurrence (R482). -/
def repeatWindowExpiry (m : Mach) : Mach :=
  if !m.islandDown 37 && m.gb.isOpen && m.gb.lastOcc + m.repeatNs ≤ m.tide then m.closeRec else m

def execRepeatWindowExpiry (t : Nat) (s : State) : Out := s.run t repeatWindowExpiry

/-- TOKEN_REFILL: the bucket of a page's code gains a token, up to its depth (R480). -/
def tokenRefill (p : PageId) (code : Nat) (m : Mach) : Mach :=
  m.modGb fun g =>
    { g with bucketUsed := Tbl.putD g.bucketUsed (bucketKey p code) (Tbl.getD g.bucketUsed (bucketKey p code) 0 - 1) 0 }

def execTokenRefill (t : Nat) (pg : PageId) (code : Nat) (s : State) : Out := s.run t (tokenRefill pg code)

/-- CHECKPOINT: a record every 3,600 operating seconds (R479). -/
def checkpoint (m : Mach) : Mach :=
  if m.gb.lastCheck + 3600 ≤ m.opSeconds then
    let m := m.modGb fun g => { g with lastCheck := m.opSeconds }
    m.event .gauge 0 0x4412 (m.opSeconds % 2 ^ 32) (m.opSeconds / 2 ^ 32)
  else m

def execCheckpoint (t : Nat) (s : State) : Out := s.run t checkpoint

/-! ### Flash -/

/-- The next block after `b` that is not retired, ascending and wrapping (R485). -/
def GaugeX.nextBlk (g : GaugeX) (b : Nat) : Nat :=
  match ((List.range g.nBlk).map fun i => (b + 1 + i) % g.nBlk).find? fun c => !(g.blk c).retired with
  | some c => c
  | none => b

/-- Retire a block with an event: 0x4413 at 100,000 erases, 0x4417 at a failed program (0) or erase (1) (R486). -/
def Mach.retireBlk (m : Mach) (b code p1 : Nat) : Mach :=
  let m := m.modGb fun g => { g with flash := Tbl.put g.flash b { g.blk b with retired := true } }
  (m.showFlash).event .gauge 0 code b p1

/-- Erase a block, or retire it where it may not be erased again (R486). -/
def Mach.eraseBlk (m : Mach) (b : Nat) : Mach :=
  let f := m.gb.blk b
  if 100000 ≤ f.erases then m.retireBlk b 0x4413 f.erases
  else (m.modGb fun g => { g with flash := Tbl.put g.flash b { f with erases := f.erases + 1, recs := [] } }).showFlash

/-- The next record due for flash: the first closed one above `SEQ_FLASH` and not below the floor (R485, R490). -/
def Mach.nextForFlash (m : Mach) : Option Rec :=
  let lo := max (m.rd Reg.Gauge.SEQ_FLASH + 1) (m.rd Reg.Gauge.SEQ_FLOOR)
  match (m.gb.ring.filter fun e => lo ≤ e.1).head? with
  | some (s, r) => if s = m.rd Reg.Gauge.SEQ_HEAD && m.gb.isOpen then none else some r
  | none => none

/-- Whether closed records wait for flash (R485). -/
def Mach.flashPending (m : Mach) : Bool := !m.gb.live.isEmpty && m.nextForFlash.isSome

/-- A run of records lost before flash ends when the next one is written: event 0x4414 tells it (R485). -/
def Mach.tellLost (m : Mach) : Mach :=
  match m.gb.lostRun with
  | none => m
  | some (f, n) => (m.modGb fun g => { g with lostRun := none }).event .gauge 0 0x4414 (f % 2 ^ 32) n

/-- FLASH_RECORD_WRITE: the next closed record goes into the current block; a full block gives way to the next; half a
block full, the next block's erase falls due (R485). A failed program retires the block (R486). Nothing is written in recovery
mode, while the management core restarts or while MGMT is off (R459, R499, R507). -/
def flashRecordWrite (ok : Bool) (m : Mach) : Mach :=
  if m.gb.live.isEmpty || m.coreAway || m.islandDown 37 || m.rd Reg.Mailbox.BOOT_STAGE = 7 then m
  else
    match m.nextForFlash with
    | none => m
    | some r =>
      if !ok then
        let b := m.gb.curBlk
        (m.retireBlk b 0x4417 0).modGb fun g => { g with curBlk := g.nextBlk b }
      else
        let m :=
          if 2047 ≤ (m.gb.blk m.gb.curBlk).recs.length || (m.gb.blk m.gb.curBlk).retired then
            let b := m.gb.nextBlk m.gb.curBlk
            let m := if (m.gb.blk b).recs.isEmpty then m else m.eraseBlk b
            m.modGb fun g => { g with curBlk := if (g.blk b).retired then g.nextBlk b else b }
          else m
        let f := m.gb.blk m.gb.curBlk
        let m := m.modGb fun g =>
          { g with
            flash := Tbl.put g.flash g.curBlk { f with recs := f.recs ++ [r] }
            eraseDue := if f.recs.length + 1 = 1024 then some (g.nextBlk g.curBlk) else g.eraseDue }
        (m.wr Reg.Gauge.SEQ_FLASH r.seq).tellLost

def execFlashRecordWrite (t : Nat) (ok : Bool) (s : State) : Out := s.run t (flashRecordWrite ok)

/-- FLASH_ERASE_DONE: the due block is erased; at 100,000 erases it is retired instead, and a failed erase retires it
(R485, R486). -/
def flashEraseDone (ok : Bool) (m : Mach) : Mach :=
  match m.gb.eraseDue with
  | none => m
  | some b =>
    let m := m.modGb fun g => { g with eraseDue := none }
    if ok then m.eraseBlk b else m.retireBlk b 0x4417 1

def execFlashEraseDone (t : Nat) (ok : Bool) (s : State) : Out := s.run t (flashEraseDone ok)

/-! ### Reading (R488) -/

/-- A record held in flash. -/
def GaugeX.inFlash (g : GaugeX) (seq : Nat) : Option Rec :=
  (g.flash.flatMap fun e => e.2.recs).find? fun r => r.seq = seq

/-- Show a record, or zeros, in `REC_W0` to `REC_W3` with a status. -/
def Mach.showRec (m : Mach) (r : Option Rec) (status : Nat) : Mach :=
  let w := fun n => match r with | some r => recWord r n | none => 0
  let m := (m.wr Reg.Gauge.REC_W0 (w 0)).wr Reg.Gauge.REC_W1 (w 1)
  let m := (m.wr Reg.Gauge.REC_W2 (w 2)).wr Reg.Gauge.REC_W3 (w 3)
  m.wr Reg.Gauge.READ_STATUS status

/-- A copy from the ring in one cycle, else a flash read, else status 3 or 4 (R488). -/
def Mach.readSeq (m : Mach) (seq : Nat) : Mach :=
  let m := (m.wr Reg.Gauge.READ_SEQ seq).modGb fun g => { g with readWait := none }
  if m.rd Reg.Gauge.SEQ_HEAD < seq then m.showRec none 4
  else if seq < m.rd Reg.Gauge.SEQ_FLOOR then m.showRec none 3
  else
    match Tbl.find m.gb.ring seq with
    | some r => m.showRec (some r) (if m.gb.isOpen && seq = m.rd Reg.Gauge.SEQ_HEAD then 2 else 1)
    | none =>
      if (m.gb.inFlash seq).isSome then
        (m.wr Reg.Gauge.READ_STATUS 0).modGb fun g => { g with readWait := some seq }
      else m.showRec none 3

/-- READ_SEQ: a write of a sequence to `READ_SEQ` (R488). -/
def execReadSeq (t : Nat) (src : Source) (seq : Nat) (s : State) : Out :=
  s.run t fun m => m.stageWrite .gauge 0 src fun m => m.readSeq (seq % 2 ^ 64)

/-- FLASH_READ_DONE: the flash read for `READ_SEQ` completes into the record window (R488). -/
def flashReadDone (m : Mach) : Mach :=
  match m.gb.readWait with
  | none => m
  | some seq =>
    let m := m.modGb fun g => { g with readWait := none }
    match m.gb.inFlash seq with
    | some r => if seq < m.rd Reg.Gauge.SEQ_FLOOR then m.showRec none 3 else m.showRec (some r) 1
    | none => m.showRec none 3

def execFlashReadDone (t : Nat) (s : State) : Out := s.run t flashReadDone

/-! ### Clearing (R489, R490) -/

/-- A refused clear records event 0x4415 with the source and the reason. -/
def Mach.refuseClear (m : Mach) (src why : Nat) : Mach := m.event .gauge 0 0x4415 src why

/-- The flash blocks that hold only records below the floor (R490). -/
def Mach.belowFloor (m : Mach) : List Nat :=
  m.gb.live.filter fun b =>
    !(m.gb.blk b).recs.isEmpty && (m.gb.blk b).recs.all fun r => r.seq < m.rd Reg.Gauge.SEQ_FLOOR

/-- An accepted clear: the CLEAR record is the next record, its sequence becomes the floor, records below it leave the
ring, and the erasing of flash blocks below it begins (R490). -/
def Mach.acceptClear (m : Mach) (src : Nat) : Mach :=
  let m := m.setBlock ⟨.gauge, 0⟩ 0x4410
  let m := m.newRec ⟨0x4410, 0, src, m.rd Reg.Gauge.SEQ_HEAD % 2 ^ 32, m.tide32, m.tide⟩
  let floor := m.rd Reg.Gauge.SEQ_HEAD
  let m := m.wr Reg.Gauge.SEQ_FLOOR floor
  let m := m.modGb fun g => { g with ring := g.ring.filter fun e => floor ≤ e.1 }
  let m := (m.wr Reg.Gauge.CHALLENGE 0).wr Reg.Gauge.CLEAR_FAILS 0
  let m := m.inc Reg.Gauge.CLEARS
  if m.belowFloor.isEmpty then m.wr Reg.Gauge.CLEAR_STATE 0
  else (m.wr Reg.Gauge.CLEAR_STATE 3).setFsm .gauge 2

/-- A challenge from the random number generator, valid for 300 s; ignored while LOCKED, refused while CLEARING
(R489, R490). -/
def Mach.clearReq (m : Mach) (src : Nat) : Mach :=
  if m.rd Reg.Gauge.CLEAR_STATE = 2 then m
  else if m.rd Reg.Gauge.CLEAR_STATE = 3 then m.refuseClear src 5
  else
    let m := (m.wr Reg.Gauge.CHALLENGE (m.fresh.toNat % 2 ^ 64)).nextFree
    let m := (m.wr Reg.Gauge.CLEAR_STATE 1).wr Reg.Gauge.CLEAR_FAILS 0
    m.modGb fun g => { g with chalEnd := m.tide + 300000000000 }

/-- CLEAR_REQ: a write of 1 to `CLEAR_REQ`. -/
def execClearReq (t : Nat) (src : Source) (s : State) : Out :=
  s.run t fun m => m.stageWrite .gauge 0 src fun m => m.clearReq src

/-- The response that a challenge asks for: bytes 0 to 7 of HMAC-SHA-256 under the clear key over the serial number and
the challenge, byte 0 in bits [63:56] (R489); none while no clear key is provisioned. -/
def clearCode (f : Fuses) (serial challenge : Nat) : Option Nat :=
  f.clearKey.map fun k => fromBe ((hmacSha256 (leBytes 32 k) (leBytes 8 serial ++ leBytes 8 challenge)).take 8)

/-- A write of `CLEAR_RESP` is accepted or refused; the third refusal against a challenge locks for 60 s (R489). -/
def Mach.clearResp (m : Mach) (f : Fuses) (src v : Nat) : Mach :=
  if m.rd Reg.Gauge.CLEAR_STATE = 3 then m.refuseClear src 5
  else if m.rd Reg.Gauge.CLEAR_STATE = 2 then (m.refuseClear src 3).inc Reg.Gauge.CLEAR_FAILS
  else if m.rd Reg.Gauge.CLEAR_STATE = 0 then (m.refuseClear src 2).inc Reg.Gauge.CLEAR_FAILS
  else if clearCode f m.serial (m.rd Reg.Gauge.CHALLENGE) = some v then m.acceptClear src
  else
    let m := (m.refuseClear src 1).inc Reg.Gauge.CLEAR_FAILS
    if m.rd Reg.Gauge.CLEAR_FAILS = 3 then
      ((m.wr Reg.Gauge.CHALLENGE 0).wr Reg.Gauge.CLEAR_STATE 2).modGb fun g =>
        { g with lockEnd := m.tide + 60000000000 }
    else m

/-- CLEAR_RESP: a write of a response code. -/
def execClearResp (t : Nat) (src : Source) (v : Nat) (s : State) : Out :=
  s.run t fun m => m.stageWrite .gauge 0 src fun m => m.clearResp s.fuse src (v % 2 ^ 64)

/-- GB_CLEAR: accepted only in a secured session with mutual authentication whose certificate chains to the management
trust anchor, which boot has not refused (R489, R502). -/
def Mach.gbClear (m : Mach) (src : Nat) (authentic : Bool) : Mach :=
  if !authentic then m.refuseClear src 4
  else if m.rd Reg.Gauge.CLEAR_STATE = 3 then m.refuseClear src 5
  else m.acceptClear src

def execGbClear (t : Nat) (src : Source) (secured mutualAuth chained : Bool) (s : State) : Out :=
  s.run t fun m => m.gbClear src (secured && mutualAuth && chained && !m.boot.anchorBad.contains 0)

/-- CHALLENGE_EXPIRY: the challenge, or the lockout, ends when its time is over (R489). -/
def challengeExpiry (m : Mach) : Mach :=
  if m.rd Reg.Gauge.CLEAR_STATE = 1 && m.gb.chalEnd ≤ m.tide then
    ((m.wr Reg.Gauge.CHALLENGE 0).wr Reg.Gauge.CLEAR_STATE 0).wr Reg.Gauge.CLEAR_FAILS 0
  else if m.rd Reg.Gauge.CLEAR_STATE = 2 && m.gb.lockEnd ≤ m.tide then
    (m.wr Reg.Gauge.CLEAR_STATE 0).wr Reg.Gauge.CLEAR_FAILS 0
  else m

def execChallengeExpiry (t : Nat) (s : State) : Out := s.run t challengeExpiry

/-- CLEAR_BLOCK_ERASE: one block below the floor is erased, or retired at 100,000 erases; the clear ends when none is
left (R490, R493). -/
def clearBlockErase (m : Mach) : Mach :=
  if m.rd Reg.Gauge.CLEAR_STATE = 3 then
    let m := match m.belowFloor with
      | [] => m
      | b :: _ => m.eraseBlk b
    if m.belowFloor.isEmpty then
      let m := m.wr Reg.Gauge.CLEAR_STATE 0
      m.setFsm .gauge (if m.gb.live.isEmpty then 1 else 0)
    else m
  else m

def execClearBlockErase (t : Nat) (s : State) : Out := s.run t clearBlockErase

/-! ### Host mirroring and restoring -/

/-- Host mirroring stops on an FLR (1), a link drop (2), Bus Master Enable 0 (3) or a disabled Data Mover (4) (R491). -/
def Mach.mirrorStop (m : Mach) (port why : Nat) : Mach :=
  if m.rd Reg.Gauge.MIRROR_STATE = 1 && (m.rd Reg.Gauge.MIRROR_PORT = port || why = 4) then
    let m := (m.wr Reg.Gauge.MIRROR_STATE 2).inc Reg.Gauge.MIRROR_ERRS
    m.event .gauge 0 0x4416 (m.rd Reg.Gauge.MIRROR_PORT) why
  else m

/-- Every complete record found in flash. -/
def GaugeX.flashRecs (g : GaugeX) : List Rec := g.flash.flatMap fun e => e.2.recs

/-- The operating seconds a flash record tells: its own, or the fields of a CHECKPOINT record (R479). -/
def recOps (r : Rec) : Nat := if r.code = 0x4412 then max r.ops (r.p0 + r.p1 % 2 ^ 8 * 2 ^ 32) else r.ops

/-- GAUGE_RESTORE, inside FW_AUTH_DONE: the counts are restored from flash, the sequence resumes 4,097 above the highest
found, writing goes on in a block erased first, and a POWER_ON record follows (R479, R487). -/
def Mach.gaugeRestore (m : Mach) : Mach :=
  let rs := m.gb.flashRecs
  let top := rs.foldl (fun a r => max a r.seq) 0
  let ops := rs.foldl (fun a r => max a (recOps r)) 0
  let cyc := rs.foldl (fun a r => max a r.cycles) 0
  let noFlash := m.gb.live.isEmpty
  let m := m.modGb fun g => { g with opBase := ops, lastCheck := ops }
  let m := m.wr Reg.Gauge.POWER_CYCLES (if noFlash then 0 else min (cyc + 1) (2 ^ 32 - 1))
  let m := if rs.isEmpty then m else
    (m.wr Reg.Gauge.SEQ_HEAD (top + 4096)).wr Reg.Gauge.SEQ_FLASH top
  let m := if rs.isEmpty then m else
    m.modGb fun g => { g with curBlk := g.nextBlk ((((g.flash.find? fun e => e.2.recs.any fun r => r.seq = top).map
      fun e => e.1)).getD 0) }
  let m := if rs.isEmpty then m else m.eraseBlk m.gb.curBlk
  m.showFlash.event .gauge 0 0x4411 (m.rd Reg.Gauge.POWER_CYCLES) (m.opSeconds % 2 ^ 32)

end Sys2Proof.Machine
end

