-- ==== Sys2Proof/Machine/Request.lean ====
section
/-! DEFINITION. Requests: arrival at a port (R62, R64, R90, R91), release from a Headgate, which is acceptance (R18, R88, R130,
R131, R135 to R146, R168, R537), and where an accepted request goes (R173, R181, R366, R369, R378, R380, R389, R408, R415). -/

namespace Sys2Proof.Machine

/-! ### Arrival (R62, R64, R66, R90, R91) -/

/-- The M2S opcode of a request, as events 0x0419 and 0x1010 carry it (PRESUMED from CXL, log entry 21). -/
def memOpcode : MemOp → Nat
  | .memRd => 1
  | .memRdData => 2
  | .memWr => 1
  | .memWrPtl => 2
  | .memInv => 0
  | .memInvNT => 9
  | .memClnEvct => 10

/-- Whether a port takes a request now: its link up, credits given (R61, R66, R78, R84). -/
def Mach.takesReq (m : Mach) (p : Nat) : Bool :=
  m.flag Reg.HostPort.DL_UP p && !(m.port p).draining && !m.quiet .hostPort p &&
  (m.act Reg.HostPort.IDE_REQUIRED p = 0 || m.flag Reg.HostPort.IDE_IO p && m.flag Reg.HostPort.IDE_MEM p)

/-- A request that no committed decoder matches (R64). -/
def Mach.unmapped (m : Mach) (p hpa opcode : Nat) : Mach :=
  ((m.inc Reg.HostPort.UNMAPPED_REQ p).wr Reg.HostPort.LAST_UNMAPPED_HPA hpa p).event .hostPort p 0x0419 hpa opcode

/-- Show the peak of the tags in use. -/
def Mach.peakTags (m : Mach) (p : Nat) : Mach := m.peak Reg.HostPort.TAGS_PEAK (m.port p).tags.length p

/-- A request with a tag that no committed decoder matches: a read gets all-ones with poison, a write completes (R64). -/
def Mach.answerUnmapped (m : Mach) (p g : Nat) (x : Tag) : Mach :=
  (m.unmapped p x.hpa (memOpcode x.op)).setTag p g
    { x with st := .responding, resp := some (if x.op.reads then unmappedData else .cmp) }

/-- A request arrives: it takes a tag and joins its allotment's queue; an unmapped one is answered at once (R64, R89, R91). -/
def Mach.arrive (m : Mach) (p hpa : Nat) (x : Tag) : Mach :=
  if !m.takesReq p then m
  else
    let m := m.awake
    match m.newTag p with
    | none => m
    | some g =>
      match m.decode p hpa with
      | none => (m.answerUnmapped p g { x with hpa := hpa, arrived := m.tide }).peakTags p
      | some (a, d, line) =>
        let m := m.setTag p g { x with allot := a, line := line, hpa := hpa, bi := d.bi, arrived := m.tide }
        (m.setQueue p a (m.queueOf p a ++ [g])).peakTags p

/-- CXL_MEMRD: `dataOnly` says MemRdData; `want` is the right sought in a shared region: 0 none, 1 SHARED, 2 OWNED (R380). -/
def execCxlMemrd (t : Nat) (p : Port) (hostTag hpa : Nat) (dataOnly : Bool) (want : Fin 3) (s : State) : Out :=
  s.run t fun m => m.arrive p hpa { op := if dataOnly then .memRdData else .memRd, hostTag := hostTag, want := want }

/-- CXL_MEMWR: `giveUp` says MetaValue I (R380). -/
def execCxlMemwr (t : Nat) (p : Port) (hostTag hpa : Nat) (data : Line) (poison giveUp : Bool) (s : State) : Out :=
  s.run t fun m => m.arrive p hpa
    { op := .memWr, hostTag := hostTag, data := data, be := BitVec.allOnes 64, poison := poison, want := if giveUp then 1 else 0 }

/-- CXL_MEMWRPTL: a partial write with its byte enables. -/
def execCxlMemwrptl (t : Nat) (p : Port) (hostTag hpa : Nat) (data : Line) (be : BitVec 64) (poison giveUp : Bool) (s : State) : Out :=
  s.run t fun m => m.arrive p hpa
    { op := .memWrPtl, hostTag := hostTag, data := data, be := be, poison := poison, want := if giveUp then 1 else 0 }

/-- CXL_MEMINV: MemInv, or MemInvNT where `nt`. -/
def execCxlMeminv (t : Nat) (p : Port) (hostTag hpa : Nat) (nt : Bool) (s : State) : Out :=
  s.run t fun m => m.arrive p hpa { op := if nt then .memInvNT else .memInv, hostTag := hostTag, want := 2 }

/-- CXL_MEMCLNEVCT. -/
def execCxlMemclnevct (t : Nat) (p : Port) (hostTag hpa : Nat) (s : State) : Out :=
  s.run t fun m => m.arrive p hpa { op := .memClnEvct, hostTag := hostTag }

/-- CXL_MEMSPECRD: a hint; `fetch` says that the device takes it on a MANAGED tract (R90). DESIGN CHOICE (log entry 119): one that no
decoder matches is discarded without a count or an event (R64). -/
def memSpecRd (p hpa : Nat) (fetch : Bool) (m : Mach) : Mach :=
  if !m.takesReq p then m
  else
    let m := m.awake
    match m.decode p hpa with
    | some (_, _, line) =>
      let pl := m.plot (line / 64)
      if fetch && tMode (m.entryOf line) = 2 && m.enabled .siphon && (pl.tier = 1 || pl.tier = 2) && !pl.migrating then
        m.wantAuto (line / 64) 1
      else m
    | none => m

def execCxlMemspecrd (t : Nat) (p : Port) (hpa : Nat) (fetch : Bool) (s : State) : Out := s.run t (memSpecRd p hpa fetch)

/-- CXL_BICONFLICT: answered at once (R388); it counts in `REQ_ACCEPTED` only (R537). -/
def biConflict (p hostTag hpa : Nat) (m : Mach) : Mach :=
  if !m.takesReq p then m
  else
    let m := m.awake
    match m.decode p hpa with
    | some _ => (m.emit (.biConflictAck p hostTag)).inc Reg.HostPort.REQ_ACCEPTED p
    | none => (m.unmapped p hpa 4).emit (.biConflictAck p hostTag)

def execCxlBiconflict (t : Nat) (p : Port) (hostTag hpa : Nat) (s : State) : Out := s.run t (biConflict p hostTag hpa)

/-! ### The promise (R154, R155, R156) -/

/-- The promise of a line's target in ns, without the rate adder (R154, R155). -/
def Mach.promiseNs (m : Mach) (line : Nat) : Nat :=
  let e := m.entryOf line
  let tw := m.twinMode && tMirror e
  let par := if tStripe e then 1400 else 0
  let raw := if tw then 900 else 600
  match m.place line with
  | .none => 600
  | .remote _ _ =>
    let h := match m.lineDev line with | some d => if m.reachable d then m.pathHops d else 1 | none => 1
    1200 + (h - 1) * 250 + par
  | .zero => raw
  | .dram _ => raw + par
  | .cis _ _ => 160
  | .comp => (if tw then 1080 else 780) + par

/-! ### What becomes of an accepted request -/

/-- The destination of a request as it counts a NONE tract's access: the opcode, or 0xFFFF for the Data Mover (R208). -/
def noneCode (p : Nat) (x : Tag) : Nat := if p = 5 then 0xFFFF else memOpcode x.op

/-- An access to a NONE tract (R181, R367). Row 0 marks a fabric read whose data is all-ones. -/
def Mach.noneTract (m : Mach) (p g : Nat) (x : Tag) : Mach :=
  let n := lineTract x.line
  if x.op.reads then
    let m := (m.inc Reg.TractTable.NONE_READS).event .tractTable 0 0x1010 n (noneCode p x)
    (m.setTag p g { x with row := if p = 4 then 0 else x.row }).answer p g unmappedData (if p < 4 then 0 else 2) 0
  else if x.op.writes then
    let m := (m.inc Reg.TractTable.NONE_WRITES).event .tractTable 0 0x1010 n (noneCode p x)
    m.answer p g .cmp (if p = 5 then 2 else 0) 0
  else m.answer p g .cmp 0 0

/-- Send an accepted request to the owner of its line (R366, R369). -/
def Mach.sendRemote (m : Mach) (p g : Nat) (x : Tag) : Mach :=
  match m.lineDev x.line with
  | none => m.noroute p g
  | some d =>
    if p = 4 || (m.txFlow d x.allot).refused || (!m.reachable d && (x.op.reads || p = 5)) then m.noroute p g
    else
      let line := tPeerTract (m.entryOf x.line) * 2 ^ 24 + x.line % 2 ^ 24
      let xid := if p = 5 then trackXid x.want else hostXid p g
      let u : FUnit :=
        if x.op.writes then writeUnit line xid x.data x.be x.poison x.guar
        else { utype := 1, line := line, xid := xid, guar := x.guar }
      let m := if x.op.writes && p < 4 then m.setTag p g { x with want := 0 } else m
      let m := if x.op.writes then m.tmWrite x.line { order := x.order, data := x.data, mask := x.be, poison := x.poison } else m
      ((m.owe d x.allot xid).sendOn d x.allot u).showWrWait

/-- The first write to a mirrored tract ends `FRESH`, and the away map takes its region (R417, R421). -/
def Mach.mirrorMarks (m : Mach) (line : Nat) : Mach :=
  if tMirror (m.entryOf line) then (m.wr Reg.Twin.FRESH 0).markAway line else m

/-- A local write reserves its merge-buffer entry; one to a mirrored line takes a mirror entry of the tracker, and is forwarded
where the peer orders the line (R95, R247, R408). -/
def Mach.reserve (m : Mach) (p g : Nat) (x : Tag) : Mach :=
  match m.newMerge with
  | none => m
  | some e =>
    let m := m.setMerge e
      { line := x.line, allot := x.allot, cls2 := x.guar, stripe := tStripe (m.entryOf x.line)
        hint := x.hint, accept := x.accept, order := x.order }
    let m := m.mirrorMarks x.line
    let x := { x with entry := e }
    if m.mirrored x.line then
      let (m, n) := if p = 5 then (m, x.want) else m.trackOr 2 x.line
      let x := { x with want := n }
      if m.orderHere x.line then m.setTag p g x
      else
        let m := m.setTag p g { x with fwd := true }
        let m := m.modTwin fun y => { y with fwd := y.fwd ++ [⟨p, g, x.line, e⟩] }
        m.sendWrite true x.line x.data x.be x.poison none
    else m.setTag p g (if p = 5 then x else { x with want := 0 })

/-- An accepted read or write of a line goes where the line lies (R180). -/
def Mach.routeData (m : Mach) (p g : Nat) (x : Tag) : Mach :=
  match m.place x.line with
  | .none => m.noneTract p g x
  | .remote _ _ => m.sendRemote p g x
  | _ =>
    let m := m.lookup x.line (x.op.reads && p < 4)
    if x.op.writes then m.reserve p g x else m

/-! ### Shared regions (R378, R380, R387, R389, R390, R428) -/

/-- The right a request seeks; a Data Mover read asks for the current data of an owner (R380, R390). -/
def rightSought (p : Nat) (x : Tag) : Nat :=
  match x.op with
  | .memRd | .memRdData | .memInv | .memInvNT => if p = 5 then 1 else x.want
  | .memWr | .memWrPtl => 3
  | .memClnEvct => 0

/-- Whether a request gives its member's right up (R380). -/
def givesUp (x : Tag) : Bool :=
  match x.op with
  | .memWr | .memWrPtl => x.want = 1
  | .memClnEvct => true
  | _ => false

/-- The port of its device that issued a fabric unit, by its XID; a unit of another device's own access has none (R358). -/
def xidPort (xid : Nat) : Option Nat := if xid / 2 ^ 14 % 4 = 0 then some (xid / 2 ^ 12 % 4) else none

/-- The member that a request to a HOME region comes from; 8 stands for a Data Mover or another device's own access (R390). -/
def Mach.memberFor (m : Mach) (r p : Nat) (x : Tag) : Option Nat :=
  if p < 4 then if x.bi then m.memberOf r (.local p) else none
  else if p = 5 then some 8
  else
    match xidPort x.xid with
    | some q => m.memberOf r (.remote x.src q)
    | none => some 8

/-- A request to a shared region that its sender may not make (R378). -/
def Mach.nonMember (m : Mach) (p g : Nat) (x : Tag) : Mach :=
  let m := (m.inc Reg.Shared.NONMEMBER).event .shared 0 0x3415 (if p < 4 then p else 4 + x.src) (x.line % 2 ^ 32)
  if x.op.reads then
    (m.setTag p g { x with row := if p = 4 then 0 else x.row }).answer p g unmappedData (if p < 4 then 0 else 2) 0
  else m.answer p g .cmp 0 0

/-- A request of a member crosses to the order side of a twin region's line, or goes to the home of a PROXY region: CRD, or EVICT
where it only gives a right up. `d` is the device, 64 for the peer. -/
def Mach.sendRight (m : Mach) (d hr line p g : Nat) (x : Tag) (c : Coh) : Mach :=
  let op := if x.op = .memClnEvct then 2 else 1
  let xid := if p = 5 then trackXid x.want else hostXid p g
  let port := if p < 4 then p else ((Tbl.find m.mover.jobs x.xid).map fun j => j.port).getD 0
  let m := m.setTag p g { x with coh := some c }
  if d = 64 then m.sendCoh 64 x.allot op c.right port hr line xid 0 0 none
  else m.sendOn d x.allot
    { utype := 12, line := line, xid := xid, guar := x.guar, be := cohBe op c.right port hr, lc := unitLc 0 line }

/-- A member's request at the home of an ACTIVE region (R380, R381, R386, R387). -/
def Mach.atHome (m : Mach) (p g r k : Nat) (x : Tag) : Mach :=
  let c : Coh := { region := r, member := k, right := rightSought p x, giveUp := givesUp x }
  if x.op.writes && x.be = BitVec.allOnes 64 && m.shared.snoops.any fun s => s.line = x.line && s.member = k then
    let m := (m.mirrorMarks x.line).writeBack x.line x.data
    if m.mirrored x.line then m.sendWrite false x.line x.data x.be x.poison (some (.write p g))
    else (m.setTag p g { x with point := true, want := 0 }).writePoint p g
  else if m.twinRegion r && m.mirrored x.line && !m.orderHere x.line then
    let m := if x.op.writes then m.routeData p g x else m
    match m.tag? p g with
    | some x => m.sendRight 64 r x.line p g x c
    | none => m
  else
    let m := m.setTag p g { x with coh := some c }
    let m := if x.op.reads || x.op.writes then m.routeData p g { x with coh := some c } else m
    m.seekRight p g

/-- A request of a port, or of the Data Mover, to a PROXY region (R389, R390). -/
def Mach.atProxy (m : Mach) (p g r : Nat) (x : Tag) : Mach :=
  let home := m.act Reg.Shared.HOME_ID 0 r
  let line := tPeerTract (m.entryOf x.line) * 2 ^ 24 + x.line % 2 ^ 24
  if x.op.writes then
    if m.shared.proxy.any fun q => q.line = x.line && q.port = p && q.sent then
      let m := m.modShared fun y => { y with
        proxy := y.proxy.map fun q => if q.line = x.line && q.port = p then { q with data := some x.data } else q }
      (m.setTag p g { x with point := true, want := 0 }).writePoint p g
    else m.sendRemote p g (if p = 5 then x else { x with want := 0 })
  else if !m.reachable home then m.noroute p g
  else
    m.sendRight home (m.act Reg.Shared.HOME_REGION 0 r) line p g x
      { region := r, member := p, right := rightSought p x, giveUp := givesUp x }

/-- An accepted request to a line of a shared tract (R378, R380, R389, R391). -/
def Mach.routeShared (m : Mach) (p g : Nat) (x : Tag) : Mach :=
  let r := tRegion (m.entryOf x.line)
  match m.regRole r, m.regState r with
  | 1, st =>
    match m.memberFor r p x with
    | none => m.nonMember p g x
    | some k =>
      if st = 2 then m.atHome p g r k x
      else if st = 3 && x.op.writes && m.shared.snoops.any fun s => s.line = x.line && s.member = k then m.atHome p g r k x
      else if st = 0 then m.nonMember p g x
      else m.fenceReq p g r
  | 2, st =>
    if p < 4 && !(x.bi && m.portIn r p) then m.nonMember p g x
    else if st = 2 then m.atProxy p g r x
    else if st = 0 then m.nonMember p g x
    else m.fenceReq p g r
  | _, _ => m.nonMember p g x

/-- Whether mirrored tracts are FENCED at this device: DETACHED or FENCED (R415). -/
def Mach.twinFenced (m : Mach) : Bool := m.rd Reg.Twin.ROLE != 0 && (m.fsm .twin = 6 || m.fsm .twin = 7)

/-- Where an accepted request goes. -/
def Mach.route (m : Mach) (p g : Nat) : Mach :=
  match m.tag? p g with
  | none => m
  | some x =>
    let e := m.entryOf x.line
    if tMode e = 0 then m.noneTract p g x
    else if tMirror e && m.twinFenced then m.fenceTwin p g x
    else if tShared e then m.routeShared p g x
    else if x.op.reads || x.op.writes then m.routeData p g x
    else m.answer p g .cmp 0 0

/-! ### Debits (R135, R162, R168) -/

/-- Lines of a write to a tract: 4 where it is striped and the allotment's reservation is not declared so (R135). -/
def Mach.debitOf (m : Mach) (x : Tag) : Nat :=
  if x.op.writes && tStripe (m.entryOf x.line) && m.act Reg.Allotment.STRIPE_WR x.allot = 0 then 4 else 1

/-- Lines that a best-effort or overflow release debits (R162). -/
def Mach.beLines (m : Mach) (x : Tag) : Nat := if x.op.writes && tStripe (m.entryOf x.line) then 4 else 1

/-- Cut lines that a write of the cut allotment consumes (R168). -/
def Mach.cutCost (m : Mach) (x : Tag) : Nat :=
  (if m.act Reg.Allotment.STRIPE_WR x.allot != 0 || tStripe (m.entryOf x.line) then 4 else 1) * m.mirrorFactor

/-- Whether a write of a guaranteed allotment is beyond the cut lines: `from_` is the port of a floor release, none for a pool release
(R168). -/
def Mach.beyondCut (m : Mach) (x : Tag) (from_ : Option Nat) : Bool :=
  x.op.writes && (m.cutSide x.allot = 1 || m.cutSide x.allot = 0 && m.cutLeft from_ < m.cutCost x)

/-- A release consumes cut lines; a read beyond them, or of an allotment above the cut, is at risk: the flag (R168). -/
def Mach.takeCut (m : Mach) (x : Tag) (from_ : Option Nat) : Mach × Bool :=
  if m.cutSide x.allot = 0 then
    if x.op.writes then (m.useCut from_ (m.cutCost x), false)
    else if m.cutLeft from_ = 0 then (m, true)
    else (m.useCut from_ 1, false)
  else (m, m.cutSide x.allot = 1 && x.op.reads)

/-- The guaranteed lines that a request puts on its Canals in the turn (R158, R159): a write to a plot counts where its drain will go; the
row of a COMPRESSED plot at its first sector, a ZERO plot at its drain. The Cistern serves the reads of CISTERN plots. -/
def Mach.countGuar (m : Mach) (x : Tag) : Mach :=
  match m.place x.line with
  | .dram pl => if x.op.writes || x.op.reads then m.guarAt pl x.op.writes else m
  | .cis _ pl => if x.op.writes then m.guarAt pl true else m
  | .comp =>
    let d := m.dir (x.line / 64)
    if x.op.writes then m.guarAt (m.realPl (if d.kind = 1 then d.loc else d.start (x.line % 64 / 16))) true else m
  | _ => m

/-! ### Acceptance (R18, R88, R130, R131, R537) -/

/-- Count an accepted request in its allotment (R537). -/
def Mach.countAccepted (m : Mach) (x : Tag) : Mach :=
  if x.op.reads then m.inc Reg.Allotment.ACCEPTED_RD x.allot
  else if x.op.writes then m.inc Reg.Allotment.ACCEPTED_WR x.allot
  else m

/-- The LIVE configuration that a request keeps from its acceptance on (R8, R127). -/
def Mach.stamp (m : Mach) (x : Tag) : Tag :=
  { x with hint := m.rd Reg.Allotment.PAGE_HINT x.allot, fill := m.flag Reg.Cistern.LINE_FILL_EN, diverse := m.rd Reg.Twin.DIVERSE_NS }

/-- A host request is accepted: its place in the order, its acceptance time and deadline, its counts; a guaranteed read of a target
that is not eligible is demoted (R18, R58, R88, R130, R131, R537). -/
def Mach.accept (m : Mach) (p g : Nat) (x : Tag) (guar atRisk bestEff : Bool) : Mach :=
  let m := m.nextOrder
  let acc := m.tide - m.rd Reg.HostPort.ING_NS p
  let dl :=
    if !x.op.reads then 0
    else if guar then acc + m.promiseNs x.line + m.rd Reg.HostPort.RATE_ADDER_NS p
    else acc + m.act Reg.Allotment.CEILING_US x.allot * 1000
  let x := { m.stamp x with st := .accepted, accept := acc, order := m.order, deadline := dl, guar := guar, atRisk := atRisk
                            bestEff := bestEff, row := if guar then m.rowOf x.line else 7 }
  let m := ((m.setTag p g x).inc Reg.HostPort.REQ_ACCEPTED p).countAccepted x
  let m := if guar && (x.op.writes || m.eligible x.line) then m.countGuar x else m
  let m := if guar && x.op.reads && !m.eligible x.line then m.demoteAt p g x else m
  (m.route p g).peakQueue x.line

/-! ### Release (R137 to R146) -/

/-- The ledger that releases a queue head. -/
inductive Ledger where
  | floor | pool | cut | overflow | be
deriving DecidableEq, Repr

/-- Whether a write record of the peer is next in the stream: it takes a merge entry ahead of local releases (R404). -/
def Mach.peerWriteNext (m : Mach) : Bool :=
  match Tbl.find m.twin.rx (m.rd Reg.Twin.RX_NEXT) with
  | some r => 1 ≤ r.op && r.op ≤ 5
  | none => false

/-- Whether a write to a line from a port cannot be accepted now (R95, R188, R247, R369, R404, R419, R426). A write of the fabric or of the Data
Mover to a destination that cannot be reached is not held: it ends with NOROUTE (R117, R369). -/
def Mach.writeBlocked (m : Mach) (p line : Nat) : Bool :=
  let e := m.entryOf line
  let mir := m.mirrorOn && tMirror e
  let remote := p < 4 && match m.place line with
    | .remote _ _ => match m.lineDev line with | some d => !m.reachable d | none => true
    | _ => false
  m.newMerge.isNone || (m.peerWriteNext && 4095 ≤ m.lev.merge.length) || (m.flag Reg.TractTable.WRITE_HOLD && tMode e = 2) || remote ||
  (mir && ((m.trackRoom 2).isNone || m.twin.detaching.isSome || m.twin.handover))

/-- Whether a queue head is answered FENCED without acceptance (R99, R144, R391, R419). -/
def Mach.fencedHead (m : Mach) (p : Nat) (x : Tag) : Bool :=
  let e := m.entryOf x.line
  let r := tRegion e
  if tMode e = 0 then false
  else if tMirror e && m.twinFenced then x.op.writes
  else if tShared e && x.bi && m.portIn r p && (m.regState r = 1 || m.regState r = 3 || m.regState r = 4) then
    !(m.regState r = 3 && m.regRole r = 1 && x.op.writes &&
      m.shared.snoops.any fun s => s.line = x.line && some s.member = m.memberOf r (.local p))
  else false

/-- The head of an allotment's queue, where it can be accepted. -/
def Mach.headOf (m : Mach) (p a : Nat) : Option (Nat × Tag) :=
  match m.queueOf p a with
  | [] => none
  | g :: _ =>
    match m.tag? p g with
    | some x => if m.fencedHead p x || m.tractHeld x.line || (x.op.writes && m.writeBlocked p x.line) then none else some (g, x)
    | none => none

/-- Whether some guaranteed queue of a port holds a request (R146). -/
def Mach.guarHeld (m : Mach) (p : Nat) : Bool := (List.range 16).any fun a => m.guar a && !(m.queueOf p a).isEmpty

/-- Whether the port cap lets a read go (R146). -/
def Mach.capOk (m : Mach) (p : Nat) (x : Tag) : Bool :=
  x.op.writes || !m.flag Reg.Headgate.CAPPED p || m.rd Reg.Headgate.PORT_LEFT_RD p != 0

/-- Whether the port cap lets a best-effort or overflow read go (R146). -/
def Mach.capBe (m : Mach) (p : Nat) (x : Tag) : Bool := x.op.writes || !m.flag Reg.Headgate.CAPPED p || !m.guarHeld p

/-- The ledger that releases the head of a guaranteed queue against its budget (R138, R168). -/
def Mach.budgetFor (m : Mach) (p : Nat) (x : Tag) : Option Ledger :=
  let w := x.op.writes
  let n := m.debitOf x
  if !m.capOk p x then none
  else if w && m.cutSide x.allot = 1 then if m.beOpen p then some .cut else none
  else if n ≤ (m.port p).floor w x.allot then
    if m.beyondCut x (some p) then if m.beOpen p then some .cut else none else some .floor
  else if n ≤ (m.port p).granted w x.allot then
    if m.beyondCut x none then if m.beOpen p then some .cut else none else some .pool
  else none

/-- Whether the head of a guaranteed queue is released as overflow (R138). -/
def Mach.overflows (m : Mach) (p : Nat) (x : Tag) : Bool :=
  m.act Reg.Allotment.OVERFLOW_BE x.allot != 0 && (m.budgetFor p x).isNone &&
  m.rd (poolField x.op.writes) x.allot < m.debitOf x && m.capOk p x && m.capBe p x && m.beOpen p

/-- The best-effort allotments in the order in which the weighted round robin asks them (R138). DESIGN CHOICE (log entry 125): each
gets `WEIGHT` consecutive releases, and the round starts at allotment 0. -/
def Mach.wrrOrder (m : Mach) (p : Nat) : List Nat :=
  let at_ := (m.port p).wrrAt
  let k := if (m.port p).wrrUsed < m.rd Reg.Allotment.WEIGHT at_ then 0 else 1
  (List.range 16).map fun i => (at_ + k + i) % 16

/-- The head that a Headgate releases, with its ledger (R138). -/
def Mach.pick (m : Mach) (p : Nat) : Option (Nat × Tag × Ledger) :=
  let guar := (List.range 16).filter m.guar
  let first := guar.findSome? fun a => (m.headOf p a).bind fun (g, x) => (m.budgetFor p x).map fun l => (g, x, l)
  let second := guar.findSome? fun a => (m.headOf p a).bind fun (g, x) => if m.overflows p x then some (g, x, Ledger.overflow) else none
  let third := (m.wrrOrder p).findSome? fun a =>
    if m.guar a then none
    else (m.headOf p a).bind fun (g, x) =>
      if m.capOk p x && m.capBe p x && m.beOpen p then some (g, x, Ledger.be) else none
  first.orElse fun _ => second.orElse fun _ => third

/-- The round robin moves on with a release. -/
def Mach.wrrStep (m : Mach) (p a : Nat) : Mach :=
  m.modPort p fun x =>
    if x.wrrAt = a && x.wrrUsed < m.rd Reg.Allotment.WEIGHT a then { x with wrrUsed := x.wrrUsed + 1 }
    else { x with wrrAt := a, wrrUsed := 1 }

/-- Debit a release from its ledger; the flag says that a read is at risk (R135, R146, R162, R168). -/
def Mach.debit (m : Mach) (p : Nat) (x : Tag) (l : Ledger) : Mach × Bool :=
  let w := x.op.writes
  let a := x.allot
  let n := m.debitOf x
  let m := if !w && m.flag Reg.Headgate.CAPPED p then m.wr Reg.Headgate.PORT_LEFT_RD (m.rd Reg.Headgate.PORT_LEFT_RD p - 1) p else m
  match l with
  | .floor => ((m.modPort p fun y => y.setFloor w a (y.floor w a - n)).countUsed w a n).takeCut x (some p)
  | .pool => ((m.modPort p fun y => y.setGranted w a (y.granted w a - n)).countUsed w a n).takeCut x none
  | .cut => (m.beDebit p (m.beLines x), false)
  | .overflow => (m.beDebit p (m.beLines x), false)
  | .be => ((m.beDebit p (m.beLines x)).wrrStep p a, false)

/-- The counts of a release (R150, R151). -/
def Mach.countRelease (m : Mach) (p : Nat) (x : Tag) (l : Ledger) : Mach :=
  let m := (m.inc Reg.Headgate.RELEASED p x.allot).peak Reg.Headgate.HOLD_PEAK_NS (m.tide - x.arrived) p x.allot
  if l = .overflow then
    let m := (m.inc Reg.Headgate.OVERFLOW_REL p x.allot).inc Reg.Allotment.OVERFLOWED x.allot
    if m.weir.overNow.contains x.allot then m
    else
      let m := { m with weir := { m.weir with overNow := m.weir.overNow ++ [x.allot] } }
      m.event .allotment x.allot 0x0C42 x.allot p
  else m

/-- A head that is FENCED is answered without acceptance (R144). -/
def Mach.fenceHead (m : Mach) (p a : Nat) : Mach :=
  match m.queueOf p a with
  | [] => m
  | g :: rest =>
    match m.tag? p g with
    | none => m.setQueue p a rest
    | some x =>
      if m.fencedHead p x then
        let m := m.setQueue p a rest
        if tMirror (m.entryOf x.line) && m.twinFenced then m.fenceTwin p g x
        else m.fenceReq p g (tRegion (m.entryOf x.line))
      else m

/-- The head of an allotment's queue is decoded as the decoders stand now: it moves to the tail of another allotment's queue, or is
answered as unmapped (R62, R64, R65; DESIGN CHOICE, log entry 128). -/
def Mach.reseat (m : Mach) (p a : Nat) : Mach :=
  match m.queueOf p a with
  | [] => m
  | g :: rest =>
    match m.tag? p g with
    | none => m.setQueue p a rest
    | some x =>
      match m.decode p x.hpa with
      | none => (m.setQueue p a rest).answerUnmapped p g x
      | some (b, d, line) =>
        let m := m.setTag p g { x with allot := b, line := line, bi := d.bi }
        if b = a then m else (m.setQueue p a rest).setQueue p b (m.queueOf p b ++ [g])

/-- Every head of a Headgate is decoded as the decoders stand now, and each that then comes to the head (R65). -/
def Mach.reseatAll (m : Mach) (p : Nat) : Mach :=
  m.each (List.range 16) fun m a => m.each (m.queueOf p a) fun m _ => m.reseat p a

/-- What holds the writes at the heads is told: a full merge buffer, a wait for a mirror entry (R95, R247, R414). -/
def Mach.tellHeld (m : Mach) (p : Nat) : Mach :=
  let ws := (List.range 16).filterMap fun a =>
    match (m.queueOf p a).head? with
    | some g => (m.tag? p g).bind fun x => if x.op.writes then some x.line else none
    | none => none
  let m := if !ws.isEmpty && m.newMerge.isNone && !m.lev.full then
      let m := (m.modLev fun y => { y with full := true }).setFsm .levee 1
      m.event .levee 0 0x1C17 (m.rd Reg.Levee.MB_USED) (m.rd Reg.Levee.MB_FETCH)
    else m
  if m.mirrorOn && (m.trackRoom 2).isNone && ws.any fun l => tMirror (m.entryOf l) then
    (m.inc Reg.DataMover.TRACK_WAITS).modTwin fun y => { y with waitTurn := true }
  else m

/-- HEADGATE_RELEASE: the heads are decoded anew, FENCED ones are answered; the first head that qualifies is released and thereby accepted (R138). -/
def headgateRelease (p : Nat) (m : Mach) : Mach :=
  if (m.port p).draining || !m.flag Reg.HostPort.DL_UP p then m
  else
    let m := ((m.reseatAll p).each (List.range 16) fun m a => m.fenceHead p a).tellHeld p
    match m.pick p with
    | none => m
    | some (g, x, l) =>
      let m := m.setQueue p x.allot ((m.queueOf p x.allot).drop 1)
      let (m, risk) := m.debit p x l
      (m.countRelease p x l).accept p g x (l = .floor || l = .pool || l = .cut) risk (l != .floor && l != .pool)

def execHeadgateRelease (t : Nat) (p : Port) (s : State) : Out := s.run t (headgateRelease p)

/-! ### Requests from the fabric at their owner (R128, R162, R367, R368) -/

/-- Whether the pool of an allotment, or the best-effort remainder, can release a request of the fabric or of the Data Mover
(R128, R162, R168). -/
def Mach.poolOpen (m : Mach) (x : Tag) : Bool :=
  if m.guar x.allot && !m.beyondCut x none then m.debitOf x ≤ m.rd (poolField x.op.writes) x.allot
  else m.rd Reg.Weir.BE_LEFT != 0

/-- Debit it; the flag says that a read is at risk. -/
def Mach.poolDebit (m : Mach) (x : Tag) : Mach × Bool :=
  let w := x.op.writes
  if m.guar x.allot && !m.beyondCut x none then
    let n := m.debitOf x
    ((m.wr (poolField w) (m.rd (poolField w) x.allot - n) x.allot).countUsed w x.allot n).takeCut x none
  else (m.wr Reg.Weir.BE_LEFT (m.rd Reg.Weir.BE_LEFT - m.beLines x), false)

/-- The deadline of a unit that arrived at a tide (R156, R367). -/
def Mach.ownerDeadline (m : Mach) (u : FUnit) (arrived : Nat) : Nat :=
  if u.guar then arrived + 700 + (if tStripe (m.entryOf u.line) then 1400 else 0)
  else arrived + m.act Reg.Allotment.CEILING_US u.allot * 1000

/-- The request that a unit makes. -/
def unitTag (u : FUnit) (arrived : Nat) : Tag :=
  let op : MemOp := if u.utype = 2 then .memWr else if u.utype = 3 then .memWrPtl else .memRd
  { st := .accepted, op := op, allot := u.allot, line := u.line % 2 ^ 40, hpa := u.line, arrived := arrived, accept := arrived
    data := u.data, be := if u.utype = 3 then BitVec.ofNat 64 u.be else BitVec.allOnes 64
    poison := (u.utype = 2 || u.utype = 3) && u.lc != unitLc u.data u.line, guar := u.guar, src := u.src, xid := u.xid
    hostTag := u.xid / 2 ^ 12 % 4 }

/-- Whether a write of the fabric or of the Data Mover goes to a shared region that does not take it: it is answered FENCED without
acceptance (R99, R391, R537). -/
def Mach.fencedWrite (m : Mach) (x : Tag) : Bool :=
  let e := m.entryOf x.line
  let st := m.regState (tRegion e)
  x.op.writes && tMode e != 0 && tShared e && (m.regRole (tRegion e) = 1 || m.regRole (tRegion e) = 2) && (st = 1 || st = 3 || st = 4)

/-- FABRIC_RELEASE: the oldest unit that waits of a source and an allotment is released, accepted, and its credit returned (R367). -/
def fabricRelease (d a : Nat) (m : Mach) : Mach :=
  match m.turn.buf.find? fun r => r.unit.src = d && r.unit.allot = a with
  | none => m
  | some r =>
    let x := unitTag r.unit r.arrived
    let leave := fun (m : Mach) => ((m.modTurn fun y => { y with buf := y.buf.erase r }).showRx).creditBack d a
    if m.fencedWrite x && !m.tractHeld x.line then
      match m.newTag 4 with
      | none => m
      | some g => ((leave m).setTag 4 g x).fenceReq 4 g (tRegion (m.entryOf x.line))
    else if !m.poolOpen x || (m.newTag 4).isNone || m.tractHeld x.line || (x.op.writes && m.writeBlocked 4 x.line) then m
    else
      let (m, risk) := m.poolDebit x
      let m := ((leave m).inc Reg.Allotment.FABRIC_ACCEPTED a).countAccepted x
      let dl := m.ownerDeadline r.unit r.arrived
      if r.unit.utype = 12 then m.cohCrdBy (unitCoh r.unit) dl
      else
        match m.newTag 4 with
        | none => m
        | some g =>
          let m := m.nextOrder
          let x := { m.stamp x with order := m.order, deadline := dl, row := m.rowOf x.line, atRisk := risk, bestEff := !m.guar a }
          let m := (m.setTag 4 g x)
          let m := if m.guar a && (x.op.writes || m.eligible x.line) then m.countGuar x else m
          let m := if x.guar && x.op.reads && !m.eligible x.line then m.demoteAt 4 g x else m
          (m.route 4 g).peakQueue x.line

def execFabricRelease (t : Nat) (d : Fin 64) (a : Fin 16) (s : State) : Out := s.run t (fabricRelease d a)

/-- OWNER_DEADLINE: a read served for the fabric has not finished by its deadline (R367). -/
def ownerDeadlineAt (g : Nat) (m : Mach) : Mach :=
  match m.tag? 4 g with
  | some x => if x.op.reads && x.st = .accepted && x.deadline ≤ m.tide then (m.dropWait 4 g).answer 4 g poisonData 1 x.stage else m
  | none => m

def execOwnerDeadline (t : Nat) (g : Fin 4096) (s : State) : Out := s.run t (ownerDeadlineAt g)

end Sys2Proof.Machine
end

