-- ==== Sys2Proof/Machine/Mover.lean ====
section
/-! DEFINITION. Internal operations (R94 to R96) and the Data Mover (R114 to R121): jobs, their line accesses, host-memory reads, the
status record. -/

namespace Sys2Proof.Machine

/-- The Data Mover's jobs that run. -/
def Mach.jobsRunning (m : Mach) : Nat := (m.mover.jobs.filter fun j => j.2.state = 2).length

/-- Show the slots and the state machine (R121, R124). DESIGN CHOICE (log entry 120): `FSM` is 2 (DISABLED) while `ENABLE` = 0, though jobs
still run. -/
def Mach.showMover (m : Mach) : Mach :=
  let n := m.jobsRunning
  let m := (m.wr Reg.DataMover.SLOTS_FREE (64 - m.mover.jobs.length)).wr Reg.DataMover.SLOTS_RUNNING n
  m.setFsm .dataMover (if !m.enabled .dataMover then 2 else if n = 0 then 0 else 1)

/-- Show a slot. -/
def Mach.showSlot (m : Mach) (j : Nat) : Mach :=
  let b := Tbl.getD m.mover.jobs j { dpa := 0, hpa := 0, len := 0, statusEn := false, statusHpa := 0, dir := 0, port := 0, allot := 0,
                                     intr := false, tag := 0, state := 0 }
  let m := (m.wr Reg.DataMover.SLOT_STATE b.state 0 j).wr Reg.DataMover.SLOT_CODE (if b.state = 3 then b.code else 0) 0 j
  let m := (m.wr Reg.DataMover.SLOT_PORT b.port 0 j).wr Reg.DataMover.SLOT_DIR b.dir 0 j
  let m := (m.wr Reg.DataMover.LINES_DONE b.done 0 j).wr Reg.DataMover.SLOT_TAG b.tag 0 j
  (m.wr Reg.DataMover.SLOT_ALLOT b.allot 0 j).showMover

/-- Replace a job. -/
def Mach.setJob (m : Mach) (j : Nat) (b : Job) : Mach :=
  { m with mover := { m.mover with jobs := Tbl.put m.mover.jobs j b } }.showSlot j

/-! ### Submission and release (R114, R115, R120) -/

/-- The lowest free slot; slot 63 serves the Gauge Book while host mirroring is on (R114). -/
def Mach.jobSlot (m : Mach) : Option Nat :=
  (List.range (if m.flag Reg.Gauge.MIRROR_EN then 63 else 64)).find? fun j => (Tbl.find m.mover.jobs j).isNone

/-- JOB_SUBMIT: the descriptor is copied into the lowest free slot, or the submission is ignored (R115). -/
def jobSubmit (src : Nat) (m : Mach) : Mach :=
  match if m.enabled .dataMover then m.jobSlot else none with
  | some j =>
    let b : Job :=
      { dpa := m.rd Reg.DataMover.JOB_DPA, hpa := m.rd Reg.DataMover.JOB_HPA * 64, len := m.rd Reg.DataMover.JOB_LEN + 1
        statusEn := m.flag Reg.DataMover.STATUS_EN, statusHpa := m.rd Reg.DataMover.JOB_STATUS_HPA * 16
        dir := m.rd Reg.DataMover.DIR, port := m.rd Reg.DataMover.PORT, allot := m.rd Reg.DataMover.ALLOT
        intr := m.flag Reg.DataMover.INTR, tag := m.rd Reg.DataMover.JOB_TAG, orderNo := m.mover.submitted }
    let m : Mach := { m with mover := { m.mover with submitted := m.mover.submitted + 1 } }
    (m.setJob j b).wr Reg.DataMover.LAST_SLOT j
  | none =>
    let m := (m.wr Reg.DataMover.LAST_SLOT 0xFF).inc Reg.DataMover.SUBMIT_REJECTS
    m.event .dataMover 0 0x4812 src (m.rd Reg.DataMover.SLOTS_FREE)

def execJobSubmit (t : Nat) (src : Source) (dir : Fin 2) (port : Port) (allot : Fin 16) (intr : Bool) (tag : Nat) (s : State) : Out :=
  s.run t fun m => m.stageWrite .dataMover 0 src fun m =>
    let m := (m.wr Reg.DataMover.DIR dir).wr Reg.DataMover.PORT port
    let m := (m.wr Reg.DataMover.ALLOT allot).wb Reg.DataMover.INTR intr
    jobSubmit src (m.wr Reg.DataMover.JOB_TAG tag)

/-- The queued job that was submitted first. -/
def firstQueued : List (Nat × Job) → Option (Nat × Job)
  | [] => none
  | e :: l =>
    match firstQueued l with
    | none => if e.2.state = 1 && e.2.code = 0 then some e else none
    | some f => if e.2.state = 1 && e.2.code = 0 && e.2.orderNo < f.2.orderNo then some e else some f

/-- JOB_START: the first queued job starts while fewer than `MAX_ACTIVE` run (R114, R121). -/
def jobStart (m : Mach) : Mach :=
  if m.enabled .dataMover && m.jobsRunning < m.act Reg.DataMover.MAX_ACTIVE then
    match firstQueued m.mover.jobs with
    | some (j, b) => m.setJob j { b with state := 2 }
    | none => m
  else m

def execJobStart (t : Nat) (s : State) : Out := s.run t jobStart

/-- A write of 1 to `ABORT_GO`: a QUEUED or RUNNING job ends with DOWN (R117, R120). -/
def Mach.jobAbort (m : Mach) (slot : Nat) : Mach :=
  match Tbl.find m.mover.jobs slot with
  | some b => if b.state = 1 || b.state = 2 then m.setJob slot { b with code := 6 } else m
  | none => m

/-- JOB_ABORT. -/
def execJobAbort (t : Nat) (src : Source) (slot : Fin 64) (s : State) : Out :=
  s.run t fun m => m.stageWrite .dataMover 0 src fun m => (m.wr Reg.DataMover.ABORT_SLOT slot).jobAbort slot

/-- A write of 1 to `RELEASE_GO`: a DONE slot is free again (R120). -/
def Mach.jobRelease (m : Mach) (slot : Nat) : Mach :=
  match Tbl.find m.mover.jobs slot with
  | some b =>
    if b.state = 3 then { m with mover := { m.mover with jobs := Tbl.del m.mover.jobs slot } }.showSlot slot else m
  | none => m

/-- JOB_RELEASE. -/
def execJobRelease (t : Nat) (src : Source) (slot : Fin 64) (s : State) : Out :=
  s.run t fun m => m.stageWrite .dataMover 0 src fun m => (m.wr Reg.DataMover.RELEASE_SLOT slot).jobRelease slot

/-! ### Line accesses (R116, R117) -/

/-- Whether a job's port can reach host memory: its link up, no reset at work, Bus Master Enable set (R117). -/
def Mach.hostMem (m : Mach) (p : Nat) : Bool :=
  m.flag Reg.HostPort.DL_UP p && (m.port p).bme && (m.port p).flrSince.isNone

/-- The outstanding line accesses of a job. -/
def Mach.jobTags (m : Mach) (j : Nat) : List (Nat × Tag) := (m.port 5).tags.filter fun e => e.2.xid = j

/-- A line access of a job is accepted against its allotment (R88, R111, R116). -/
def Mach.jobAccess (m : Mach) (j : Nat) (b : Job) (x : Tag) : Mach :=
  match m.newTag 5 with
  | none => m
  | some g =>
    if m.fencedWrite x && !m.tractHeld x.line then
      (m.setTag 5 g { x with st := .accepted, xid := j }).fenceReq 5 g (tRegion (m.entryOf x.line))
    else if !m.poolOpen x || m.tractHeld x.line || (x.op.writes && m.writeBlocked 5 x.line) then m
    else
      match m.track 4 x.line (m.tide + m.promiseNs x.line) with
      | none => m.inc Reg.DataMover.TRACK_WAITS
      | some m' =>
        let n := m'.mover.nextTrack - 1
        let (m, risk) := m'.poolDebit x
        let m := ((m.nextOrder).inc Reg.Allotment.FABRIC_ACCEPTED b.allot).countAccepted x
        let dl := m.tide + m.promiseNs x.line
        let x := { m.stamp x with
          st := .accepted, arrived := m.tide, accept := m.tide, order := m.order, deadline := dl, row := m.rowOf x.line
          guar := m.guar b.allot, atRisk := risk, bestEff := !m.guar b.allot, want := n, xid := j }
        let m := m.setTag 5 g x
        let m := if x.guar && (x.op.writes || m.eligible x.line) then m.countGuar x else m
        m.route 5 g

/-- The next line of a running job: a DPA read, a host-memory read, or the DPA write of data that has come from the host. -/
def Mach.jobNext (m : Mach) (j : Nat) : Mach :=
  match Tbl.find m.mover.jobs j with
  | none => m
  | some b =>
    if b.state != 2 || b.code != 0 || b.len ≤ b.done || !(m.jobTags j).isEmpty || b.readOut.isSome then m
    else if !m.hostMem b.port then m.jobCode j 6
    else
      let line := (b.dpa + b.done) % 2 ^ 40
      if b.dir = 1 then m.jobAccess j b { op := .memRd, allot := b.allot, line := line }
      else
        match Tbl.find m.mover.waiting j with
        | some d =>
          let was := m.mover.nextTrack
          let m := m.jobAccess j b { op := .memWr, allot := b.allot, line := line, data := BitVec.ofNat 512 d, be := BitVec.allOnes 64 }
          if m.mover.nextTrack = was then m
          else { m with mover := { m.mover with waiting := Tbl.del m.mover.waiting j } }
        | none =>
          (m.emit (.hostRead b.port (b.hpa + 64 * b.done) 1)).setJob j { b with readOut := some m.tide }

/-- The step deadline of an internal operation in ns from its start; none where the spec gives its kind no deadline (R262, R312). -/
def Mach.stepNs (m : Mach) (kind : Nat) : Option Nat :=
  match kind with
  | 1 => some (m.rd Reg.Furrow.STEP_US * 1000)
  | 3 => some (m.rd Reg.Rekey.RK_STEP_US * 1000)
  | _ => none

/-- INTERNAL_OP_START: an internal operation of a kind finds a tracker entry and starts, or waits; kind 4 is the next line of the Data
Mover job in a slot (R95, R116). -/
def internalOpStart (kind line slot : Nat) (m : Mach) : Mach :=
  if kind = 4 then m.jobNext slot
  else
    match m.track kind line (match m.stepNs kind with | some n => m.tide + n | none => 0) with
    | some m => m
    | none => m.inc Reg.DataMover.TRACK_WAITS

def execInternalOpStart (t : Nat) (kind : Fin 5) (line : Nat) (slot : Fin 64) (s : State) : Out :=
  s.run t (internalOpStart kind line slot)

/-- The step of a kind is no more under way. -/
def Mach.endStep (m : Mach) (k : Nat) : Mach := { m with mover := { m.mover with steps := Tbl.del m.mover.steps k } }

/-- INTERNAL_STEP_DEADLINE: a step has not finished by its deadline and ends LATE; where the spec gives a kind no deadline, the command says
that it is reached (R96, R116, R198, R262, R312). A mirror copy of a host's write is no such step. -/
def internalStepDeadline (n : Nat) (m : Mach) : Mach :=
  match Tbl.find m.mover.tracks n with
  | none => m
  | some k =>
    if m.tide < k.deadline || (k.deadline = 0 && k.kind = 2 && Tbl.find m.mover.steps 2 != some n) then m
    else if k.kind = 4 then
      match (m.port 5).tags.find? fun e => e.2.want = n && e.2.op.reads && e.2.st = .accepted with
      | some (g, x) => (m.dropWait 5 g).answer 5 g poisonData 1 x.stage
      | none => m
    else
      let m := (m.untrack n).inc Reg.DataMover.LATE_STEPS 0 k.kind
      match k.kind with
      | 0 => m.sipLate n k.line
      | 1 => (m.endStep 1).furrowLate
      | 3 =>
        let m := (m.endStep 3).modLev fun x => { x with
          chains := x.chains.map fun c => if c.2.who = .rekey then (c.1, { c.2 with who := .repair }) else c }
        { m with cry := { m.cry with rkPaid := none, rkOrder := m.order } }.inc Reg.Rekey.RK_LATE_STEPS
      | _ => m.endStep 2

def execInternalStepDeadline (t : Nat) (n : Nat) (s : State) : Out := s.run t (internalStepDeadline n)

/-- DM_HOST_READ_COMPLETION: the data of a host-memory read arrives; UR, CA or poison ends the job with POISON (R117). -/
def dmHostRead (slot : Nat) (ok : Bool) (data : Line) (m : Mach) : Mach :=
  match Tbl.find m.mover.jobs slot with
  | none => m
  | some b =>
    if b.readOut.isNone then m
    else
      let m := m.setJob slot { b with readOut := none }
      if !ok then m.jobCode slot 2
      else if b.code = 0 then { m with mover := { m.mover with waiting := Tbl.put m.mover.waiting slot data.toNat } }
      else m

def execDmHostReadCompletion (t : Nat) (slot : Fin 64) (ok : Bool) (data : Line) (s : State) : Out :=
  s.run t (dmHostRead slot ok data)

/-! ### The end of a job (R117 to R119) -/

/-- The status record of a job (R119): tag, code, slot, lines done, tide. -/
def statusRecord (slot : Nat) (b : Job) (tide : Nat) : Nat :=
  b.tag % 2 ^ 16 + b.code * 2 ^ 16 + slot * 2 ^ 24 + b.done % 2 ^ 32 * 2 ^ 32 + tide % 2 ^ 64 * 2 ^ 64

/-- JOB_END: a job whose lines are all copied, or that has met a code, ends once no DPA write of it is outstanding (R117 to R119). -/
def jobEnd (slot : Nat) (m : Mach) : Mach :=
  match Tbl.find m.mover.jobs slot with
  | none => m
  | some b =>
    let due := (b.state = 2 && (b.code != 0 || b.len ≤ b.done)) || (b.state = 1 && b.code != 0)
    if !due || (m.jobTags slot).any fun e => e.2.op.writes then m
    else
      let m := m.each (m.jobTags slot) fun m e => (((m.dropChain 5 e.1 false).dropWait 5 e.1).freeTag 5 e.1).untrack e.2.want
      let m : Mach := { m with mover := { m.mover with waiting := Tbl.del m.mover.waiting slot } }
      let m := m.setJob slot { b with state := 3, readOut := none }
      let m := m.inc (if b.code = 0 then Reg.DataMover.JOBS_OK else Reg.DataMover.JOBS_FAILED)
      let m := if b.code = 0 then m.event .dataMover 0 0x4810 slot b.tag
        else m.event .dataMover 0 0x4811 (slot + b.code * 256) b.done
      if !m.flag Reg.HostPort.DL_UP b.port then m
      else
        let m := if b.statusEn && m.hostMem b.port then
            m.emit (.hostWrite b.port b.statusHpa (statusRecord slot b m.tide) 16)
          else m
        if b.intr then m.sendVec b.port 132 else m

def execJobEnd (t : Nat) (slot : Fin 64) (s : State) : Out := s.run t (jobEnd slot)

/-- The port through which the running mailbox command reads host memory (R508): `MB_ARG2` for FW_STAGE; for the provisioning ops,
whose arguments name none, the port of the source, port A for another source. -/
def Mach.mbPort (m : Mach) : Option Nat :=
  match m.boot.mb with
  | some c => if c.op = 2 then some c.arg2 else if c.op = 5 || c.op = 6 then some (if c.src < 4 then c.src else 0) else none
  | none => none

/-- The jobs of a port end with DOWN, and a mailbox command that reads through it fails (R78, R80, R117, R508). -/
def Mach.jobsDown (m : Mach) (p : Nat) : Mach :=
  let m := if m.mbPort = some p then { m with boot := { m.boot with dmaFail := true } } else m
  m.each (m.mover.jobs.filter fun e => e.2.port = p && (e.2.state = 1 || e.2.state = 2)) fun m e => m.setJob e.1 { e.2 with code := 6 }

/-- BUS_MASTER_ENABLE_CLEARED: the function's jobs end with DOWN and Gauge Book mirroring through it stops (R117, R491). -/
def execBusMasterEnableCleared (t : Nat) (p : Port) (s : State) : Out :=
  s.run t fun m =>
    if m.flag Reg.HostPort.DL_UP p then ((m.awake.modPort p fun x => { x with bme := false }).jobsDown p).mirrorStop p 3 else m

end Sys2Proof.Machine
end

