-- ==== Sys2Proof/Machine/Ports.lean ====
section
/-! DEFINITION. A host port goes down: link drop (R78, R112), the IDE integrity failure (R61), the port's page disabled (R84), and the
resets of a function and of a port (R80 to R83). -/

namespace Sys2Proof.Machine

/-- What a port's configuration space, mailbox and DOE hold after a reset of the function (R79, R80). The MSI-X vectors are masked.
DESIGN CHOICE (log entry 116): the BI enable, which R80 names neither among what FLR resets nor among what it keeps, is reset; the
mailbox timestamp and the CXL event log are kept. An FLR at work goes on (R83). -/
def PortX.configReset (x : PortX) : PortX :=
  { x with biEnabled := false, bme := false, mps := 128, mrrs := 512, vecOpen := [], vecPend := [], vecMsg := [], doeBusy := none
           doeReady := false, mbDone := false, jobDone := false }

/-- An accepted write of a port that drops still commits (R78): a local one enters its merge-buffer entry at once, a forwarded one waits
there for ORDERED, a remote one is on its flow. -/
def Mach.commitDropped (m : Mach) (p g : Nat) (x : Tag) : Mach :=
  let m := m.inc Reg.HostPort.DRAIN_WRITES p
  match m.merge? x.entry with
  | none => m
  | some e =>
    if e.st != .reserved || e.order != x.order || x.point then m
    else
      let w : WrLog := { order := x.order, data := x.data, mask := x.be, poison := x.poison }
      if x.fwd then m.setMerge x.entry { e with logs := [w] }
      else
        let m := m.enterWrite x.entry x.line w
        if m.mirrored x.line then m.sendWrite false x.line x.data x.be x.poison (some (.write p g)) else m

/-- One tag of a port that drops (R78, R112). -/
def Mach.dropTag (m : Mach) (p g : Nat) (x : Tag) : Mach :=
  let m := (m.dropChain p g false).dropWait p g
  let m := match x.st with
    | .held => m.inc Reg.Headgate.HELD_DISCARD p
    | .responding => m.inc Reg.HostPort.DROPPED_RESP p
    | .accepted => if x.op.writes then m.commitDropped p g x else m
    | _ => m
  m.setTag p g { x with st := .draining, coh := none, resp := none }

/-- What hot reset and a link drop do to a port's decoders, IDE state and configuration space (R78, R81). -/
def Mach.portReset (m : Mach) (p : Nat) (keepInsecure : Bool) : Mach :=
  let m := (m.modPort p fun x => { x.configReset with decoders := [] }).eraseIde p keepInsecure
  let m := (m.wr Reg.HostPort.DEC_COMMITTED 0 p).wr Reg.HostPort.DEC_ERR 0 p
  (m.wr Reg.HostPort.LTSSM 0 p).wr Reg.HostPort.FLIT_LO 0 p

/-- The data link layer of a port goes down (R78). `why` is what `LAST_RESET` shows. DESIGN CHOICE (log entry 118): after an IDE failure
`FSM` stays 6 (IDE_INSECURE) through the drain, where R61 asks for 6 and R78 for 7. -/
def Mach.portDown (m : Mach) (p why : Nat) : Mach :=
  if !m.flag Reg.HostPort.DL_UP p then m
  else
    let ts := (m.port p).tags
    let m := (m.inc Reg.HostPort.LINK_DOWNS p).event .hostPort p 0x0411 ts.length (m.rd Reg.HostPort.LTSSM p)
    let m := (m.wr Reg.HostPort.DL_UP 0 p).wr Reg.HostPort.LAST_RESET why p
    let m := m.each ts fun m e => m.dropTag p e.1 e.2
    let resp := (ts.filter fun e => e.2.st = .responding).length
    let m := m.modPort p fun x => { x with queues := [], draining := true, drainTags := ts.length, drainResp := resp }
    let m := (m.jobsDown p).mirrorStop p 2
    let m := (m.portReset p true).setFsm .hostPort (if m.flag Reg.HostPort.IDE_INSECURE p then 6 else 7) p
    m.portLost p

/-- LINK_DROP (R78). -/
def execLinkDrop (t : Nat) (p : Port) (s : State) : Out := s.run t fun m => m.portDown p 4

/-- TAGS_FREED_AFTER_DROP: the tags of a dropped port are free, and the port is DOWN (R78). -/
def tagsFreed (p : Nat) (m : Mach) : Mach :=
  if !(m.port p).draining then m
  else
    let x := m.port p
    let m := m.each x.tags fun m e => (if e.2.op.writes then m.untrack e.2.want else m).freeTag p e.1
    let m := (m.modPort p fun y => { y with draining := false }).event .hostPort p 0x041B x.drainTags x.drainResp
    let m := if m.fsm .hostPort p = 7 then m.setFsm .hostPort 0 p else m
    if m.flag (Reg.Hdr.HALT .hostPort) p then m.reachHalted .hostPort p else m

def execTagsFreedAfterDrop (t : Nat) (p : Port) (s : State) : Out := s.run t (tagsFreed p)

/-- IDE_INTEGRITY_FAILURE: a flit of CXL.io, or of CXL.cachemem where `mem`, fails its MAC; `flits` are discarded (R61). -/
def ideFail (p : Nat) (mem : Bool) (flits : Nat) (m : Mach) : Mach :=
  let on := m.flag (ideOn mem) p
  if !m.flag Reg.HostPort.DL_UP p || !on then m
  else
    let m := (m.wr Reg.HostPort.IDE_INSECURE 1 p).wr (ideState mem) 3 0 p
    let m := ((m.setFsm .hostPort 6 p).inc Reg.Crypto.IDE_FAILS 0 p).raiseCause 1
    (m.event .hostPort p 0x0415 mem.toNat flits).portDown p 4

def execIdeIntegrityFailure (t : Nat) (p : Port) (mem : Bool) (flits : Nat) (s : State) : Out := s.run t (ideFail p mem flits)

/-- PORT_DISABLE: `ENABLE` written 0 takes the link down and holds Detect.Quiet (R84). -/
def portDisable (p : Nat) (m : Mach) : Mach :=
  let m := (m.wr (Reg.Hdr.ENABLE .hostPort) 0 p).portDown p 4
  let m := if m.fsm .hostPort p = 1 then m.setFsm .hostPort 0 p else m
  (m.wr Reg.HostPort.LTSSM 0 p).modPort p fun x => { x with holdQuiet := true, trainTries := 0 }

def execPortDisable (t : Nat) (src : Source) (p : Port) (s : State) : Out := s.run t fun m => m.written src (portDisable p)

/-- FLR: the function's writes and messages stop (R80, R83). -/
def flr (p : Nat) (m : Mach) : Mach :=
  if !m.flag Reg.HostPort.DL_UP p && !(m.port p).draining then m
  else
    let m := m.awake.modPort p fun x => { x with flrSince := some m.tide }
    let m := if m.fsm .hostPort p = 2 then m.setFsm .hostPort 5 p else m
    let m := (m.wr Reg.HostPort.LAST_RESET 1 p).event .hostPort p 0x0416 0 0
    (m.jobsDown p).mirrorStop p 1

def execFlr (t : Nat) (p : Port) (s : State) : Out := s.run t (flr p)

/-- FLR_COMPLETE: the configuration space, MSI-X, DOE and mailbox are at their reset values, and the host programs the function again
where the link is still up; a link drop in between does not end the FLR (R80, R83). -/
def flrComplete (p : Nat) (cfg : PortCfg) (m : Mach) : Mach :=
  match (m.port p).flrSince with
  | none => m
  | some start =>
    let m := m.modPort p fun x => { x.configReset with flrSince := none }
    let m := if m.flag Reg.HostPort.DL_UP p then
        m.modPort p fun x => { x with bme := cfg.bme, mps := cfg.mps, mrrs := cfg.mrrs, biEnabled := cfg.bi }
      else m
    let m := if m.fsm .hostPort p = 5 then m.setFsm .hostPort 2 p else m
    (m.inc Reg.HostPort.FLR_COUNT p).event .hostPort p 0x0416 1 ((m.tide - start) / 1000)

def execFlrComplete (t : Nat) (p : Port) (cfg : PortCfg) (s : State) : Out := s.run t (flrComplete p cfg)

/-- A hot reset, or the part of a port's `PERST_N` that is one: it absorbs an FLR, ends the insecure state, and lets the link train again
(R61, R81, R83). -/
def Mach.resetPort (m : Mach) (p why : Nat) : Mach :=
  let m := (m.modPort p fun x => { x with flrSince := none }).wr Reg.HostPort.IDE_INSECURE 0 p
  let m := ((m.portDown p why).portReset p false).wr Reg.HostPort.LAST_RESET why p
  let m := (m.jobsDown p).setFsm .hostPort (if (m.port p).draining then 7 else 0) p
  m.modPort p fun x => { x with holdQuiet := false, trainTries := 0 }

/-- HOT_RESET (R81). -/
def hotReset (p : Nat) (m : Mach) : Mach :=
  let n := (m.port p).tags.length
  (((m.inc Reg.HostPort.HOT_RESET_COUNT p).event .hostPort p 0x0417 n 0).mirrorStop p 1).resetPort p 2

def execHotReset (t : Nat) (p : Port) (s : State) : Out := s.run t (hotReset p)

/-- The voters of a device fundamental reset; all four where no voter bit is set (R82). -/
def Mach.voters (m : Mach) : List Nat :=
  let vs := (List.range 4).filter fun p => m.flag Reg.HostPort.DEV_RESET_VOTER p
  if vs.isEmpty then List.range 4 else vs

/-- Return the fields of a page to their Reset values, but for those whose address a test keeps. Its events are no longer set. -/
def Mach.pageReset (m : Mach) (k : PageKind) (i : Nat) (keep : Nat → Bool) : Mach :=
  let n := pageNo ⟨k, i⟩
  { m with regs := m.regs.filter fun (e : Nat × Nat) => e.1 / 32768 != n || keep e.1
           blkEvt := m.blkEvt.filter fun (e : Nat × Nat) => e.1 != n
           frozen := m.frozen.filter fun (e : Nat × Nat) => e.1 / 32768 != n }

/-- Whether a bit address of a host port page is kept through the port's `PERST_N`: the reset counters and `DEV_RESET_VOTER` (R82). -/
def perstKeeps (p a : Nat) : Bool :=
  [Reg.HostPort.FLR_COUNT, Reg.HostPort.HOT_RESET_COUNT, Reg.HostPort.PERST_COUNT, Reg.HostPort.LAST_RESET,
   Reg.HostPort.DEV_RESET_VOTER].any fun f => f.addr p 0 = a

/-- PORT_PERST: a port's `PERST_N` is asserted, or released (R82). DESIGN CHOICE (log entry 117): parameter 1 of event 0x0418, "a device
fundamental reset follows", is 1 where every voter is asserted at this assertion, before the 100 us have passed. -/
def portPerst (p : Nat) (asserted : Bool) (m : Mach) : Mach :=
  if !asserted then
    let m := m.modPort p fun x => { x with perst := false }
    { m with boot := { m.boot with voteDone := false } }
  else if (m.port p).perst then m
  else
    let m := (m.mirrorStop p 1).resetPort p 3
    let m := (m.pageReset .hostPort p (perstKeeps p)).showLocked
    let m := (m.wb Reg.HostPort.MEM_ACTIVE m.memActive p).setFsm .hostPort (if (m.port p).draining then 7 else 0) p
    let pend := m.commits.any fun c => c.pages.any fun q => q.2 = ⟨.hostPort, p⟩
    let m := if pend then (m.wr (Reg.Hdr.COMMIT_PENDING .hostPort) 1 p).wr (Reg.Hdr.CODE .hostPort) 1 p else m
    let m := (m.inc Reg.HostPort.PERST_COUNT p).modPort p fun x => { x with perst := true, perstSince := m.tide, eqHold := false, late := [], lateLost := false, lateEvt := false }
    let vs := m.voters.filter fun q => (m.port q).perst
    m.event .hostPort p 0x0418 ((vs.map fun q => 2 ^ q).sum) (if vs = m.voters then 1 else 0)

/-- While the rails are lost only the level of the pin counts, from the next power-on (R533). -/
def execPortPerst (t : Nat) (p : Port) (asserted : Bool) (s : State) : Out :=
  s.runAlways t fun m =>
    if m.boot.powered then portPerst p asserted m else m.modPort p fun x => { x with perst := asserted, perstSince := m.tide }

end Sys2Proof.Machine
end

