-- ==== Sys2Proof/Machine/Sluice.lean ====
section
/-! DEFINITION. The Sluice power-path channels (R433 to R457): samples, the fault timer and its curve, trips and
cool-downs, insertion and removal, the requests that software makes. -/

namespace Sys2Proof.Machine

/-- A channel's own state. -/
def Mach.slu (m : Mach) (c : Nat) : SluiceX := Tbl.getD m.sluices c {}

/-- Change a channel's own state. -/
def Mach.modSlu (m : Mach) (c : Nat) (f : SluiceX → SluiceX) : Mach :=
  { m with sluices := Tbl.put m.sluices c (f (m.slu c)) }

/-- Move a channel's state machine; `HALTED` stands while it is OFF, ABSENT or LATCHED (R446, R452). -/
def Mach.setSlu (m : Mach) (c v : Nat) : Mach :=
  let m := m.setFsm .sluice v c
  if v = 0 || v = 1 || v = 6 then
    if m.flag (Reg.Hdr.HALT .sluice) c then m.reachHalted .sluice c else m.wr (Reg.Hdr.HALTED .sluice) 1 c
  else m.wr (Reg.Hdr.HALTED .sluice) 0 c

/-- A write to a Sluice page; channels 8 and 9 take none from a host port (R435). -/
def Mach.sluiceWrite (m : Mach) (c src : Nat) (f : Mach → Mach) : Mach :=
  if 8 ≤ c && src < 4 then m.turnedAway src else m.stageWrite .sluice c src f

/-- Set PG, and with it `RISER_PG` of the riser's Canals (R444). -/
def Mach.setPg (m : Mach) (c : Nat) (pg : Bool) : Mach :=
  let was := m.flag Reg.Sluice.PG c
  let m := m.wb Reg.Sluice.PG pg c
  if c < 8 && was != pg then (m.riserPg (2 * c) pg).riserPg (2 * c + 1) pg else m

/-- Switch the gate off: PG falls, regulation and the fault timer stop (R438, R444). -/
def Mach.gateOff (m : Mach) (c : Nat) : Mach :=
  let m := (m.wr Reg.Sluice.GATE_ON 0 c).wr Reg.Sluice.REGULATING 0 c
  let m := (m.wr Reg.Sluice.FAULT_RUN 0 c).wr Reg.Sluice.FAULT_US 0 c
  (m.modSlu c fun x => { x with uvRun := 0, reg := false }).setPg c false

/-- The signed reading of a 16-bit code. -/
def codeTj (n : Nat) : Int := if n < 32768 then n else (n : Int) - 65536

/-- Whether the gate may be switched on: after a reason 6 trip not while the field `TJ` reads above `TJ_TRIP_C` − 20 °C (R442). -/
def Mach.coolEnough (m : Mach) (c : Nat) : Bool :=
  m.rd Reg.Sluice.TRIP_REASON c != 6 || codeTj (m.rd Reg.Sluice.TJ c) ≤ 8 * ((m.act Reg.Sluice.TJ_TRIP_C c : Int) - 20)

/-- Switch the gate on and begin an attempt (R443). -/
def Mach.gateOn (m : Mach) (c : Nat) : Mach :=
  let m := (m.wr Reg.Sluice.GATE_ON 1 c).wr Reg.Sluice.RETRY_PENDING 0 c
  (m.modSlu c fun x => { x with gateTide := m.tide, regUs := 0, uvRun := 0, debOn := false }).setSlu c 3

/-! ### Trips (R447, R448) -/

/-- The attempt time of a trip, in µs (R447). -/
def Mach.attemptUs (m : Mach) (c reason : Nat) : Nat :=
  if !m.flag Reg.Sluice.PG c then (m.tide - (m.slu c).gateTide) / 1000
  else if reason = 1 then m.rd Reg.Sluice.FAULT_US c
  else if reason = 5 then m.act Reg.Sluice.UV_US c
  else 1

/-- The cool-down of an attempt time, in ns: max(`RETRY_MS`, 100 × A) (R447). -/
def coolNs (retryMs a : Nat) : Nat := max (retryMs * 1000000) (100 * a * 1000)

/-- A trip: gate off, reason, counts, tide, cool-down, event; then RETRY_WAIT, or LATCHED past `RETRY_MAX` (R447,
R448). -/
def Mach.trip (m : Mach) (c reason a : Nat) : Mach :=
  let m := m.wr Reg.Sluice.ATTEMPT_US (min a (2 ^ 32 - 1)) c
  let m := m.gateOff c
  let m := (m.wr Reg.Sluice.TRIP_REASON reason c).inc Reg.Sluice.TRIP_COUNT c
  let m := (m.inc Reg.Sluice.TRIPS c).wr Reg.Sluice.LAST_TRIP_TIDE m.tide c
  let m := m.modSlu c fun x => { x with cdOn := true, cdEnd := m.tide + coolNs (m.act Reg.Sluice.RETRY_MS c) a }
  let n := m.rd Reg.Sluice.TRIP_COUNT c
  let m := m.event .sluice c 0x3C11 c (reason + 16 * m.rd Reg.Sluice.TRIP_POINT c + 256 * n)
  if n ≤ m.act Reg.Sluice.RETRY_MAX c then (m.wr Reg.Sluice.RETRY_PENDING 1 c).setSlu c 5
  else
    (((m.wr Reg.Sluice.RETRY_PENDING 0 c).wr Reg.Sluice.ON_WANTED 0 c).inc Reg.Sluice.LATCHES c).setSlu c 6
      |>.event .sluice c 0x3C12 c n

/-- The points of the curve in force that the last sample and F meet (R438). -/
def Mach.curveMet (m : Mach) (c : Nat) : List Nat :=
  if m.flag Reg.Sluice.GATE_ON c && m.flag Reg.Sluice.FAULT_RUN c then
    (List.range 8).filter fun k =>
      m.act Reg.Sluice.CURVE_MA c k < (m.slu c).i && m.act Reg.Sluice.CURVE_US c k ≤ m.rd Reg.Sluice.FAULT_US c
  else []

/-- The reason of the trip the last sample calls for, if any: 1 curve, 5 undervoltage (R438, R442). -/
def Mach.tripDue (m : Mach) (c : Nat) : Option Nat :=
  if !(m.curveMet c).isEmpty then some 1
  else if m.flag Reg.Sluice.PG c && m.act Reg.Sluice.UV_US c ≤ (m.slu c).uvRun then some 5
  else none

/-- Take the trip the last sample calls for. -/
def Mach.takeDue (m : Mach) (c : Nat) : Mach :=
  match m.tripDue c with
  | some 1 =>
    (m.wr Reg.Sluice.TRIP_POINT ((m.curveMet c).foldl max 0) c).trip c 1 (m.attemptUs c 1)
  | some r => m.trip c r (m.attemptUs c r)
  | none => m

/-- A decision of a channel is made in a decision cycle; none is made while island 38 is down (R436, R455). -/
def State.decide (s : State) (t : Nat) (f : Mach → Mach) : Out := s.run t fun m => if m.islandDown 38 then m else f m

/-- CURVE_TRIP: the fault timer meets a point of the curve (R438). -/
def execCurveTrip (t : Nat) (c : Fin 10) (s : State) : Out :=
  s.decide t fun m => if m.tripDue c = some 1 then m.takeDue c else m

/-- UV_TRIP: the output has read below `UV_MV` for `UV_US` samples after PG (R442). -/
def execUvTrip (t : Nat) (c : Fin 10) (s : State) : Out :=
  s.decide t fun m => if m.tripDue c = some 5 then m.takeDue c else m

/-- SC_COMPARATOR: the comparator sees more than `SC_MA`; the channel trips with reason 2, and while island 38 is down
only the gate goes off: PG and the rest stay as they were until the wake (R441, R455). -/
def scComparator (c : Nat) (m : Mach) : Mach :=
  if !m.flag Reg.Sluice.GATE_ON c then m
  else if m.islandDown 38 then (m.wr Reg.Sluice.GATE_ON 0 c).modSlu c fun x => { x with scPend := true }
  else m.trip c 2 (m.attemptUs c 2)

def execScComparator (t : Nat) (c : Fin 10) (s : State) : Out := s.run t (scComparator c)

/-- INRUSH_TIMEOUT: regulation has lasted longer than `INRUSH_MS` within the attempt (R443). -/
def execInrushTimeout (t : Nat) (c : Fin 10) (s : State) : Out :=
  s.decide t fun m =>
    if m.fsm .sluice c = 3 && m.act Reg.Sluice.INRUSH_MS c * 1000 < (m.slu c).regUs then
      m.trip c 3 (m.attemptUs c 3)
    else m

/-- PG_TIMEOUT: no PG `PG_TIMEOUT_MS` after the gate was switched on (R443). -/
def execPgTimeout (t : Nat) (c : Fin 10) (s : State) : Out :=
  s.decide t fun m =>
    if m.fsm .sluice c = 3 && (m.slu c).gateTide + m.act Reg.Sluice.PG_TIMEOUT_MS c * 1000000 ≤ m.tide then
      m.trip c 4 (m.attemptUs c 4)
    else m

/-! ### The sample (R436, R438, R444) -/

/-- The exchange of the shadow curve and the curve in force (R439). -/
def Mach.swapCurves (m : Mach) (c : Nat) : Mach :=
  let m := m.each (List.range 8) fun m k =>
    let a := m.rd Reg.Sluice.CURVE_MA c k
    let b := m.act Reg.Sluice.CURVE_MA c k
    let u := m.rd Reg.Sluice.CURVE_US c k
    let v := m.act Reg.Sluice.CURVE_US c k
    (((m.wr Reg.Sluice.CURVE_MA b c k).wr Reg.Sluice.CURVE_MA.act a c k).wr Reg.Sluice.CURVE_US v c k).wr
      Reg.Sluice.CURVE_US.act u c k
  (m.modSlu c fun x => { x with swapWant := false }).inc Reg.Sluice.SWAPS c

/-- The current of a sense code in mA (R436). -/
def senseMa (code rsense : Nat) : Nat := if rsense = 0 then 0 else code * 3125 / rsense

/-- Advance the fault timer by a sample of `i` mA (R438). -/
def Mach.faultTimer (m : Mach) (c i : Nat) : Mach :=
  if m.flag Reg.Sluice.GATE_ON c && m.act Reg.Sluice.CURVE_MA c 0 < i then
    if m.flag Reg.Sluice.FAULT_RUN c then m.inc Reg.Sluice.FAULT_US c
    else (m.wr Reg.Sluice.FAULT_RUN 1 c).wr Reg.Sluice.FAULT_US 0 c
  else (m.wr Reg.Sluice.FAULT_RUN 0 c).wr Reg.Sluice.FAULT_US 0 c

/-- Add the energy of one sample: power in mW times 1 µs, in nJ (R436, R437). -/
def Mach.addEnergy (m : Mach) (c i v : Nat) : Mach :=
  let nj := (m.slu c).nj + v * i / 1000
  let sum := m.rd Reg.Sluice.ENERGY_UJ c + nj / 1000
  let m := m.modSlu c fun x => { x with nj := nj % 1000 }
  if 2 ^ 64 - 1 ≤ sum then
    let m := m.wr Reg.Sluice.ENERGY_UJ (2 ^ 64 - 1) c
    if m.flag Reg.Sluice.ENERGY_OVF c then m
    else (m.wr Reg.Sluice.ENERGY_OVF 1 c).event .sluice c 0x3C19 c 0
  else m.wr Reg.Sluice.ENERGY_UJ sum c

/-- A 16-bit code of a signed reading. -/
def tjCode (v : Int) : Nat := (v % 65536).toNat

/-- Take in a sample: presence, codes, peaks, and the sums of the 1 ms mean. -/
def Mach.takeSample (m : Mach) (c : Nat) (prsnt : Bool) (code i v vin : Nat) (tj : Int) (reg : Bool) : Mach :=
  let m := (m.wb Reg.Sluice.PRSNT prsnt c).wr Reg.Sluice.V_CODE v c
  let m := if c < 8 then m.wr Reg.Sluice.I_CODE code c else m
  let m := m.peak Reg.Sluice.I_PEAK_MA i c
  let m := if 8 ≤ c && codeTj (m.rd Reg.Sluice.TJ_PEAK c) < tj then m.wr Reg.Sluice.TJ_PEAK (tjCode tj) c else m
  let reg := reg && m.fsm .sluice c = 3
  let m := m.wb Reg.Sluice.REGULATING reg c
  let uv := m.flag Reg.Sluice.PG c && v < m.act Reg.Sluice.UV_MV c
  m.modSlu c fun x =>
    { x with
      present := prsnt, i := i, v := v, vin := vin, tj := tj, reg := reg
      gone := if prsnt then 0 else x.gone + 1
      uvRun := if uv then x.uvRun + 1 else 0
      regUs := if reg then x.regUs + 1 else x.regUs
      n := x.n + 1, sumI := x.sumI + i, sumV := x.sumV + v, sumVin := x.sumVin + vin, sumTj := x.sumTj + tj
      sumP := x.sumP + v * i / 1000 }

/-- PG is asserted in the first decision cycle of an attempt that meets R444. -/
def Mach.pgAssert (m : Mach) (c : Nat) : Mach :=
  if m.fsm .sluice c = 3 && m.act Reg.Sluice.PG_MV c ≤ (m.slu c).v && !(m.slu c).reg &&
     !m.flag Reg.Sluice.FAULT_RUN c then
    let m := (m.setPg c true).setSlu c 4
    let m := m.modSlu c fun x => { x with goodTide := m.tide, goodSaid := false, uvRun := 0 }
    m.event .sluice c 0x3C10 c ((m.tide - (m.slu c).gateTide) / 1000)
  else m

/-- A temperature at or above `TJ_TRIP_C` trips channels 8 and 9 while the gate is on (R442). -/
def Mach.tjTrip (m : Mach) (c : Nat) : Mach :=
  if 8 ≤ c && m.flag Reg.Sluice.GATE_ON c && 8 * (m.act Reg.Sluice.TJ_TRIP_C c : Int) ≤ (m.slu c).tj then
    m.trip c 6 (m.attemptUs c 6)
  else m

/-- The gate goes off and the channel goes to OFF; a trip that the same cycle calls for is taken first (R451, R453). -/
def Mach.goOff (m : Mach) (c : Nat) : Mach :=
  let m := m.takeDue c
  let m := (m.modSlu c fun x => { x with offWant := false, debOn := false }).gateOff c
  let m := (m.wr Reg.Sluice.RETRY_PENDING 0 c).wr Reg.Sluice.ON_WANTED 0 c
  if m.fsm .sluice c = 6 then m else m.setSlu c 0

/-- The state moves that a presence reading alone makes: a high sample ends the debounce and leaves HOLD (R446). -/
def Mach.absence (m : Mach) (c : Nat) : Mach :=
  if !m.flag Reg.Sluice.PRSNT c && (m.fsm .sluice c = 2 || m.fsm .sluice c = 7) then
    (m.modSlu c fun x => { x with debOn := false }).setSlu c 1
  else m

/-- Count a second of on-time for each 1,000,000 samples with PG (R456). -/
def Mach.onTime (m : Mach) (c : Nat) : Mach :=
  if m.flag Reg.Sluice.PG c then
    let n := (m.slu c).onUs + 1
    if n = 1000000 then (m.modSlu c fun x => { x with onUs := 0 }).inc Reg.Sluice.ON_TIME_S c
    else m.modSlu c fun x => { x with onUs := n }
  else m

/-- A sample is taken in: a waiting exchange of curves comes first, so that the sample is judged against the new curve (R439); then the
codes, the fault timer and the energy (R436 to R438). -/
def Mach.sampleIn (m : Mach) (c : Nat) (prsnt : Bool) (code v vin : Nat) (tj : Int) (reg : Bool) : Mach :=
  let m := if (m.slu c).swapWant then m.swapCurves c else m
  let i := if c < 8 then senseMa (code % 2 ^ 14) (m.act Reg.Sluice.RSENSE_UOHM c) else code
  let v := min v 16383
  ((m.takeSample c prsnt (code % 2 ^ 14) i v vin tj reg).faultTimer c i).addEnergy c i v

/-- What a decision cycle does with the sample it has taken in: on-time, the temperature trip, PG, absence, a waiting OFF. -/
def Mach.sampleActs (m : Mach) (c : Nat) : Mach :=
  let m := (((m.onTime c).tjTrip c).pgAssert c).absence c
  if (m.slu c).offWant then m.goOff c else m

/-- SLUICE_SAMPLE: one decision cycle (R436); sampling stands still while island 38 is down (R455). -/
def sluiceSample (c : Nat) (prsnt : Bool) (code v vin : Nat) (tj : Int) (reg : Bool) (m : Mach) : Mach :=
  if m.islandDown 38 then m else (m.sampleIn c prsnt code v vin tj reg).sampleActs c

def execSluiceSample (t : Nat) (c : Fin 10) (prsnt : Bool) (code v vin : Nat) (tj : Int) (reg : Bool) (s : State) :
    Out := s.run t (sluiceSample c prsnt code v vin tj reg)

/-- SLUICE_MEAN_UPDATE: the means of the samples since the last update, every 1 ms (R436). -/
def sluiceMeanUpdate (c : Nat) (m : Mach) : Mach :=
  let x := m.slu c
  if x.n = 0 then m
  else
    let i := x.sumI / x.n
    let v := x.sumV / x.n
    let m := (m.wr Reg.Sluice.I_MA i c).wr Reg.Sluice.V_MV v c
    let m := (m.wr Reg.Sluice.VIN_MV (x.sumVin / x.n) c).wr Reg.Sluice.P_MW (x.sumP / x.n) c
    let m := if 8 ≤ c then m.wr Reg.Sluice.TJ (tjCode (x.sumTj / (x.n : Int))) c else m
    m.modSlu c fun x => { x with n := 0, sumI := 0, sumV := 0, sumVin := 0, sumTj := 0, sumP := 0 }

def execSluiceMeanUpdate (t : Nat) (c : Fin 10) (s : State) : Out := s.decide t (sluiceMeanUpdate c)

/-! ### Insertion, removal and cool-down (R443, R446 to R450) -/

/-- A channel that wants to be on and sees its load: DEBOUNCE, or HOLD while a cool-down runs (R445, R446). -/
def Mach.insert (m : Mach) (c : Nat) : Mach :=
  if (m.slu c).cdOn then m.setSlu c 7
  else (m.modSlu c fun x => { x with debOn := true, debStart := m.tide }).setSlu c 2

/-- PRESENCE_DETECTED: `PRSNT_N` reads low on an ABSENT channel (R446). -/
def execPresenceDetected (t : Nat) (c : Fin 10) (s : State) : Out :=
  s.decide t fun m => if m.fsm .sluice c = 1 && m.flag Reg.Sluice.PRSNT c then m.insert c else m

/-- DEBOUNCE_COMPLETE: `PRSNT_N` has read low for `DEBOUNCE_MS`; the gate goes on (R443). -/
def debounceComplete (c : Nat) (m : Mach) : Mach :=
  if m.fsm .sluice c = 2 && (m.slu c).debStart + m.act Reg.Sluice.DEBOUNCE_MS c * 1000000 ≤ m.tide &&
     m.coolEnough c then
    let m := (m.gateOn c).inc Reg.Sluice.INSERTIONS c
    m.event .sluice c 0x3C14 c (m.rd Reg.Sluice.TRIP_COUNT c)
  else m

def execDebounceComplete (t : Nat) (c : Fin 10) (s : State) : Out := s.decide t (debounceComplete c)

/-- COOLDOWN_END: the cool-down is over: a pending retry switches the gate on, HOLD goes to DEBOUNCE (R446, R448). -/
def cooldownEnd (c : Nat) (m : Mach) : Mach :=
  if (m.slu c).cdOn && (m.slu c).cdEnd ≤ m.tide && !(m.fsm .sluice c = 5 && !m.coolEnough c) then
    let m := m.modSlu c fun x => { x with cdOn := false }
    if m.fsm .sluice c = 5 then m.gateOn c
    else if m.fsm .sluice c = 7 then m.insert c
    else m
  else m

def execCooldownEnd (t : Nat) (c : Fin 10) (s : State) : Out := s.decide t (cooldownEnd c)

/-- The cool-down left in ms, rounded up (R456). -/
def Mach.cdLeftMs (m : Mach) (c : Nat) : Nat :=
  if (m.slu c).cdOn then ((m.slu c).cdEnd - m.tide + 999999) / 1000000 else 0

/-- REMOVAL_DECLARED: `PRSNT_N` has read high for `REMOVE_US` samples: the gate goes off, a pending retry is cancelled;
a trip of the same cycle is taken first (R446, R450, R453). -/
def removalDeclared (c : Nat) (m : Mach) : Mach :=
  if m.act Reg.Sluice.REMOVE_US c ≤ (m.slu c).gone && 3 ≤ m.fsm .sluice c && m.fsm .sluice c ≤ 5 then
    let m := m.takeDue c
    let was := m.fsm .sluice c
    let retry := m.flag Reg.Sluice.RETRY_PENDING c
    let m := (m.gateOff c).inc Reg.Sluice.REMOVALS c
    let m := m.event .sluice c 0x3C13 c was
    let m := if retry then
        (m.wr Reg.Sluice.RETRY_PENDING 0 c).event .sluice c 0x3C15 c (m.cdLeftMs c)
      else m
    if was = 6 then m else m.setSlu c 1
  else m

def execRemovalDeclared (t : Nat) (c : Fin 10) (s : State) : Out := s.decide t (removalDeclared c)

/-- GOOD_ON_TIME_10S: 10 s of uninterrupted PG clear `TRIP_COUNT`; a trip of the same cycle is counted first (R449,
R453). -/
def goodOnTime10s (c : Nat) (m : Mach) : Mach :=
  if m.flag Reg.Sluice.PG c && (m.slu c).goodTide + 10000000000 ≤ m.tide && (m.tripDue c).isNone &&
     m.rd Reg.Sluice.TRIP_COUNT c != 0 then
    let n := m.rd Reg.Sluice.TRIP_COUNT c
    (m.wr Reg.Sluice.TRIP_COUNT 0 c).event .sluice c 0x3C18 c n
  else m

def execGoodOnTime10s (t : Nat) (c : Fin 10) (s : State) : Out := s.decide t (goodOnTime10s c)

/-! ### Requests (R439, R445, R449, R451, R452) -/

/-- A write of 1 to `ON_REQ`: ignored while LATCHED or disabled (R445, R446, R452). -/
def Mach.onReq (m : Mach) (c : Nat) : Mach :=
  if m.fsm .sluice c = 6 || !m.enabled .sluice c then m
  else
    let m := (m.wr Reg.Sluice.ON_WANTED 1 c).modSlu c fun x => { x with offWant := false }
    if m.fsm .sluice c = 0 then
      if m.flag Reg.Sluice.PRSNT c then m.insert c else m.setSlu c 1
    else m

/-- SLUICE_ON_REQ. -/
def execSluiceOnReq (t : Nat) (src : Source) (c : Fin 10) (s : State) : Out :=
  s.run t fun m => m.sluiceWrite c src fun m => m.onReq c

/-- The first Canal of a riser that is TRAINING to LEAVING (R451). -/
def Mach.busyCanal (m : Mach) (c : Nat) : Option Nat :=
  if 8 ≤ c then none
  else [2 * c, 2 * c + 1].find? fun k => 1 ≤ m.fsm .canal k && m.fsm .canal k ≤ 5

/-- An accepted OFF request: the channel no longer wants to be on, and the gate goes off at the next decision cycle. -/
def Mach.offAccepted (m : Mach) (c : Nat) : Mach :=
  if m.fsm .sluice c = 6 then m
  else
    let m := (m.wr Reg.Sluice.ON_WANTED 0 c).modSlu c fun x => { x with offWant := true }
    if m.flag Reg.Sluice.GATE_ON c then m else m.goOff c

/-- An OFF request: refused while a Canal of the riser works, unless forced (R451). -/
def Mach.offReq (m : Mach) (c : Nat) (force : Bool) : Mach :=
  match (if force then none else m.busyCanal c) with
  | some k => (m.inc Reg.Sluice.OFF_REFUSALS c).event .sluice c 0x3C17 c k
  | none => m.offAccepted c

/-- SLUICE_OFF_REQ: a write of 1 to `OFF_REQ` with the `OFF_FORCE` of the same write. -/
def execSluiceOffReq (t : Nat) (src : Source) (c : Fin 10) (force : Bool) (s : State) : Out :=
  s.run t fun m => m.sluiceWrite c src fun m => (m.wb Reg.Sluice.OFF_FORCE force c).offReq c force

/-- A write of 1 to `UNLATCH` (R449). -/
def Mach.unlatch (m : Mach) (c : Nat) : Mach :=
  if m.fsm .sluice c = 6 then ((m.wr Reg.Sluice.TRIP_COUNT 0 c).wr Reg.Sluice.ON_WANTED 0 c).setSlu c 0 else m

/-- SLUICE_UNLATCH. -/
def execSluiceUnlatch (t : Nat) (src : Source) (c : Fin 10) (s : State) : Out :=
  s.run t fun m => m.sluiceWrite c src fun m => m.unlatch c

/-- The hardware limit of a channel in mA (R433). -/
def hwLimit (c : Nat) : Nat := if c < 8 then 24000 else if c = 8 then 4000 else 8000

/-- Whether currents rise strictly and times fall strictly along the eight points (R438). -/
def curveOrdered (ma us : List Nat) : Bool :=
  (List.range 7).all fun k => ma.getD k 0 < ma.getD (k + 1) 0 && us.getD (k + 1) 0 < us.getD k 0

/-- Whether a PENDING commit includes a page. -/
def Mach.pagePending (m : Mach) (p : PageId) : Bool := m.commits.any fun k => k.pages.any fun e => e.2 = p

/-- The first failing result of a swap (R439). -/
def Mach.swapResult (m : Mach) (c : Nat) : Nat :=
  let ma := (List.range 8).map fun k => m.rd Reg.Sluice.CURVE_MA c k
  let us := (List.range 8).map fun k => m.rd Reg.Sluice.CURVE_US c k
  let top := ma.getD 7 0
  if !curveOrdered ma us then 1
  else if hwLimit c < top || (c < 8 && 16383 * 3125 / m.act Reg.Sluice.RSENSE_UOHM c < top) then 2
  else if ma.getD 0 0 ≤ m.act Reg.Sluice.INRUSH_MA c then 3
  else if m.act Reg.Sluice.SC_MA c ≤ top then 4
  else if m.pagePending ⟨.sluice, c⟩ then 5
  else 0

/-- A write of 1 to `CURVE_SWAP` (R439). -/
def Mach.curveSwap (m : Mach) (c : Nat) : Mach :=
  let r := m.swapResult c
  let m := m.wr Reg.Sluice.SWAP_RESULT r c
  if r = 0 then m.modSlu c fun x => { x with swapWant := true }
  else (m.inc Reg.Sluice.SWAP_REFUSALS c).event .sluice c 0x3C16 c r

/-- CURVE_SWAP. -/
def execCurveSwap (t : Nat) (src : Source) (c : Fin 10) (s : State) : Out :=
  s.run t fun m => m.sluiceWrite c src fun m => m.curveSwap c

/-- A write of 1 to `ENERGY_CLR` (R437). -/
def Mach.energyClr (m : Mach) (c : Nat) : Mach :=
  ((m.wr Reg.Sluice.ENERGY_UJ 0 c).wr Reg.Sluice.ENERGY_OVF 0 c).modSlu c fun x => { x with nj := 0 }

/-- ENERGY_CLR. -/
def execEnergyClr (t : Nat) (src : Source) (c : Fin 10) (s : State) : Out :=
  s.run t fun m => m.sluiceWrite c src fun m => m.energyClr c

/-- SLUICE_DISABLE: `PAGE_CTL.ENABLE` = 0 has the effect of an accepted OFF request (R452). -/
def execSluiceDisable (t : Nat) (src : Source) (c : Fin 10) (s : State) : Out :=
  s.run t fun m => m.ctlWrite ⟨.sluice, c⟩ src fun m => (m.wr (Reg.Hdr.ENABLE .sluice) 0 c).offAccepted c

/-- On wake of island 38, a gate that the comparator switched off counts as a reason 2 trip with A = 1 µs (R455). -/
def Mach.sluiceWake (m : Mach) (c : Nat) : Mach :=
  if (m.slu c).scPend then
    ((m.modSlu c fun x => { x with scPend := false }).trip c 2 1).event .sluice c 0x3C1A c 0
  else m

end Sys2Proof.Machine
end

