-- ==== Sys2Proof/Machine/Power.lean ====
section
/-! DEFINITION. Power states, votes and wake (R458 to R475). -/

namespace Sys2Proof.Machine

/-! ### Clients and votes (R459, R460) -/

/-- Whether a Culvert link is in states 1 to 4 (R460). -/
def Mach.linkBusy (m : Mach) (l : Nat) : Bool := 1 ≤ m.fsm .culvert l && m.fsm .culvert l ≤ 4

/-- Work in flight: a tag not FREE, a tracker or merge entry in use, a commit or snapshot pending, an unacknowledged
Culvert flit (R460). -/
def Mach.workInFlight (m : Mach) : Bool :=
  m.ports.any (fun p => p.2.tags.any fun g => g.2.st != .free) || !m.mover.tracks.isEmpty || !m.lev.merge.isEmpty ||
  !m.commits.isEmpty || m.snapDev || allPages.any (fun p => m.flag (Reg.Hdr.SNAP_PENDING p.kind) p.inst) ||
  (List.range 8).any fun l => m.rd Reg.Culvert.UNACKED l != 0

/-- Whether a hardware client's condition holds (R460). -/
def Mach.client (m : Mach) (c : Nat) : Bool :=
  match c with
  | 6 => m.fsm .furrow = 1 || m.fsm .furrow = 2
  | 7 => !m.sip.queue.isEmpty || m.flag Reg.Siphon.TM_ACTIVE
  | 8 => m.fsm .rekey = 1
  | 9 => m.mover.jobs.any fun j => j.2.state = 1 || j.2.state = 2
  | 10 => m.fsm .twin != 0
  | 11 => (List.range 32).any fun r => m.rd Reg.Shared.REG_STATE 0 r != 0 && m.rd Reg.Shared.REG_STATE 0 r != 4
  | 24 => m.workInFlight
  | 25 => m.gb.eraseDue.isSome || m.flashPending || m.rd Reg.Gauge.MIRROR_STATE = 1
  | 26 => m.pw.holdEnd.isSome
  | 27 => (List.range 16).any fun k =>
      (1 ≤ m.fsm .canal k && m.fsm .canal k ≤ 3) || m.fsm .canal k = 5
  | c =>
    if 12 ≤ c && c ≤ 15 then m.fsm .hostPort (c - 12) != 0
    else if 16 ≤ c && c ≤ 23 then m.linkBusy (c - 16)
    else false

/-- Whether a hardware client holds a domain while its condition holds (R460). -/
def clientHolds (c d : Nat) : Bool :=
  if c = 26 then true
  else if c = 25 then d = 12
  else if c = 10 then d = 4 || d = 10 || d = 11
  else if 12 ≤ c && c ≤ 15 then d = 4 || d = c - 12
  else if 16 ≤ c && c ≤ 23 then d = 4 || d = 10 + (c - 16) / 4
  else 6 ≤ c && c ≤ 27 && d = 4

/-- The vote mask of a domain: the software bits held in `VOTE`, and the hardware clients (R460). -/
def Mach.votes (m : Mach) (d : Nat) : Nat :=
  m.rd Reg.Power.VOTE 0 d % 64 +
  ((List.range 22).map fun k => if clientHolds (k + 6) d && m.client (k + 6) then 2 ^ (k + 6) else 0).sum

/-- The effective mask of a domain. -/
def Mach.effective (m : Mach) (d : Nat) : Nat := m.votes d &&& m.rd Reg.Power.CLIENT_EN

/-- Whether CORE is voted, by its own mask or through a domain that depends on it. -/
def Mach.coreVoted (m : Mach) : Bool :=
  [4, 0, 1, 2, 3, 5, 6, 7, 8, 9, 10, 11].any fun d => m.effective d != 0

/-- Whether a domain is powered while CORE is on (R459). -/
def Mach.poweredWithCore (m : Mach) (d : Nat) : Bool :=
  if d < 4 then m.effective d != 0 || m.enabled .hostPort d
  else if d = 10 || d = 11 then
    m.effective d != 0 || (List.range 4).any fun l => m.enabled .culvert ((d - 10) * 4 + l)
  else true

/-- The domains powered in a state: in ACTIVE and SLACK those CORE brings with it, in FALLOW what is voted of MGMT and
SLUICE, in DORMANT none (R458, R459). -/
def Mach.powered (m : Mach) (d : Nat) : Bool :=
  if m.pw.st < 2 then m.poweredWithCore d
  else if m.pw.st = 2 then
    if d = 12 then m.effective 12 != 0 else d = 13 && (m.effective 12 != 0 || m.effective 13 != 0)
  else false

/-- Power or drop one domain, recording the change (R460). -/
def Mach.setDomain (m : Mach) (d : Nat) (on : Bool) : Mach :=
  if (m.rd Reg.Power.DOMAIN_ON).testBit d = on then m
  else
    let m := if d < 4 then m.markCall d else m
    let m := m.wr Reg.Power.DOMAIN_ON (setBit (m.rd Reg.Power.DOMAIN_ON) d on)
    (if d < 4 && on then m.modPort d fun x => { x with callSince := m.tide } else m).event .power 0 0x4013 d on.toNat

/-- Power every domain that is held and drop every other; while a wake sequence runs, its entries power them (R460). -/
def Mach.powerUpdate (m : Mach) : Mach :=
  if m.pw.exitAt.isSome then m
  else
    let m := m.each (List.range 14) fun m d => m.setDomain d (m.powered d)
    let dep := (List.range 14).map fun d =>
      if (m.rd Reg.Power.DOMAIN_ON).testBit d && m.effective d = 0 then 2 ^ d else 0
    m.wr Reg.Power.HELD_BY_DEP dep.sum

/-- Set or clear a source's bit in the domains of a mask (R460). -/
def Mach.vote (m : Mach) (src mask : Nat) (on : Bool) : Mach :=
  m.each ((List.range 14).filter fun d => mask.testBit d) fun m d =>
    m.wr Reg.Power.VOTE (setBit (m.rd Reg.Power.VOTE 0 d) src on) 0 d

/-- Abort a preparation before the vote commit (R467): parameter 1 tells the source, or 16 + the client. -/
def Mach.abortEntry (m : Mach) (why : Nat) : Mach :=
  match m.pw.prep, m.pw.commit with
  | some target, none =>
    let m := { m with pw := { m.pw with prep := none } }
    (m.inc Reg.Power.ENTRY_ABORTS).event .power 0 0x4012 target why
  | _, _ => m

/-- A write to `VOTE_SET` of the page: the bits, a preparation aborted by the vote, the domains (R460, R467). -/
def Mach.voteSet (m : Mach) (src mask : Nat) : Mach :=
  let m := m.vote src mask true
  (if mask = 0 then m else m.abortEntry (16 + src)).powerUpdate

/-- VOTE_SET. -/
def execVoteSet (t : Nat) (src : Source) (mask : Nat) (s : State) : Out :=
  s.run t fun m => m.stageWrite .power 0 src fun m => m.voteSet src (mask % 2 ^ 14)

/-- VOTE_CLR. -/
def execVoteClr (t : Nat) (src : Source) (mask : Nat) (s : State) : Out :=
  s.run t fun m => m.stageWrite .power 0 src fun m => (m.vote src (mask % 2 ^ 14) false).powerUpdate

/-! ### Choosing and entering a state (R461 to R467) -/

/-- The vote for a host link in SLACK: L0p or L1 where the port's last training allows it (R56, R59). -/
def Mach.slackLink (m : Mach) (p : Nat) : Mach :=
  if m.fsm .hostPort p != 2 then m
  else if m.rd Reg.Power.SLACK_LINK = 1 && (m.port p).l0pEn then m.setFsm .hostPort 3 p
  else if m.rd Reg.Power.SLACK_LINK = 2 && (m.port p).l1En then m.setFsm .hostPort 4 p
  else m

/-- The clients that keep a device out of SLACK (R461). -/
def slackClients : List Nat := (List.range 6).map (· + 6) ++ (List.range 10).map (· + 16) ++ [27]

/-- SLACK_ENTER: the hardware clients of R461 have been idle for `SLACK_IDLE_US`, which is the command's word (log entry 137); the islands are
gated. -/
def slackEnter (m : Mach) : Mach :=
  let busy := slackClients.any fun c => m.client c
  if m.pw.st = 0 && m.pw.prep.isNone && m.pw.exitAt.isNone && 1 ≤ m.rd Reg.Power.DEEPEST && !busy then
    let m := (m.enterPower 1).inc Reg.Power.SLACK_ENTRIES
    m.each [0, 1, 2, 3] fun m p => m.slackLink p
  else
    match slackClients.find? fun c => m.client c with
    | some c => if m.pw.st = 0 && 1 ≤ m.rd Reg.Power.DEEPEST then m.wr Reg.Power.ENTRY_CLIENT c else m
    | none => m

def execSlackEnter (t : Nat) (s : State) : Out := s.run t slackEnter

/-- The lowest client that holds a domain a state must be without; a running Twin, a live region and a Culvert link in states 1 to 4 block it
whatever `CLIENT_EN` says. None where the condition of R461 holds. -/
def Mach.blocker (m : Mach) (target : Nat) : Option Nat :=
  let ds := if target = 3 then List.range 14 else [4, 0, 1, 2, 3, 5, 6, 7, 8, 9, 10, 11]
  (List.range 32).find? fun c => (c = 10 || c = 11 || (16 ≤ c && c ≤ 23)) && m.client c || ds.any fun d => (m.effective d).testBit c

/-- Changed `HEAT` values are written back (R192, R463). -/
def Mach.heatBack (m : Mach) : Mach :=
  let ps := m.st.heatNew
  ((m.each ps fun m p => m.storeEntry p false).inc Reg.TransCache.WRITEBACKS 0 0 ps.length).modSt fun s => { s with heatNew := [] }

/-- STATE_ENTRY_PREP: the condition of FALLOW (2) or DORMANT (3) holds and that of no deeper state allowed, and preparation starts (R461,
R463, R465). -/
def stateEntryPrep (target : Nat) (m : Mach) : Mach :=
  if m.pw.st < 2 && m.pw.prep.isNone && m.pw.exitAt.isNone && 2 ≤ target && target ≤ m.rd Reg.Power.DEEPEST then
    match m.blocker target with
    | some c => m.wr Reg.Power.ENTRY_CLIENT c
    | none =>
      if target = 2 && m.rd Reg.Power.DEEPEST = 3 && (m.blocker 3).isNone then m
      else
        let m := m.awake.heatBack
        { m with pw := { m.pw with prep := some target } }
  else m

def execStateEntryPrep (t : Nat) (target : Fin 4) (s : State) : Out := s.run t (stateEntryPrep target)

/-- The pad groups held at entry, in the order of R472: DDR, Sluice, Alarm, QSPI, Host, Culvert; Sluice and QSPI only
where their domain goes down. -/
def Mach.padMask (m : Mach) (target : Nat) : Nat :=
  let mgmt := target = 2 && m.effective 12 != 0
  let slu := target = 2 && (mgmt || m.effective 13 != 0)
  1 + (if slu then 0 else 2) + 4 + (if mgmt then 0 else 8) + 16 + 32

/-- VOTE_COMMIT: every mask is read again; the sequencer commits to the state and engages pad hold, or aborts (R465,
R467). -/
def voteCommit (m : Mach) : Mach :=
  match m.pw.prep, m.pw.commit with
  | some target, none =>
    match m.blocker target with
    | some c => (m.wr Reg.Power.ENTRY_CLIENT c).abortEntry (16 + c)
    | none =>
      let m := (m.wr Reg.Power.ENTRY_CLIENT 0).wr Reg.Power.PADS_HELD (m.padMask target)
      { m with pw := { m.pw with commit := some m.tide } }
  | _, _ => m

def execVoteCommit (t : Nat) (s : State) : Out := s.run t voteCommit

/-- Begin the exit from FALLOW or DORMANT: what the page tells of it, the event, entry 0 of the table (R470, R471). -/
def Mach.startExit (m : Mach) (code : Nat) : Mach :=
  let m := (m.wr Reg.Power.LAST_STATE m.pw.st).wr Reg.Power.LAST_WAKE_SRC code
  let m := (m.wr Reg.Power.LAST_WAKE_TIDE m.tide).inc Reg.Power.WAKES
  let m := { m with pw := { m.pw with exitAt := some 1, latched := none } }
  m.event .power 0 0x4011 code (m.rd Reg.Power.LAST_STATE)

/-- DORMANT without self-refresh, where no Canal is in service, switches Sluice channels 0 to 7 off (R464). -/
def Mach.dormantSluices (m : Mach) (target : Nat) : Mach :=
  if target = 3 && !m.flag Reg.Power.DORM_SR && (List.range 16).all (fun c => m.fsm .canal c != 4) then
    m.each (List.range 8) fun m c => m.goOff c
  else m

/-- ISOLATION: 240 ns after the vote commit the clamps go on and the power gates off; a host link that is still up goes down; what is not
retained is lost; a level source latched in the window starts the exit at once (R458, R463, R465, R466, R473). -/
def isolation (m : Mach) : Mach :=
  match m.pw.prep, m.pw.commit with
  | some target, some c =>
    if c + 240 ≤ m.tide then
      let was := m.rd Reg.Power.DOMAIN_ON
      let latched := m.pw.latched
      let m := m.each (List.range 4) fun m p => m.portDown p 4
      let m := m.dormantSluices target
      let m := (m.enterPower target).wr Reg.Power.LAST_ENTRY_TIDE m.tide
      let m := { m with pw := { m.pw with prep := none, commit := none } }
      let m := { m with
        st := { m.st with tc := [], dc := [], cisLines := [] }
        clk := { m.clk with running := false } }
      let m := m.powerUpdate.event .power 0 0x4010 target was
      let m := ((m.wr Reg.TransCache.VALID 0).wr Reg.TransCache.LOCKED 0).wr Reg.Cistern.LINES_VALID 0
      match latched with
      | some k => ((m.inc Reg.Power.REWAKES).event .power 0 0x4014 k 0).startExit k
      | none => m
    else m
  | _, _ => m

def execIsolation (t : Nat) (s : State) : Out := s.run t isolation

/-! ### Waking (R466 to R471) -/

/-- Whether a wake source is a level or a latched level (R468). -/
def levelSource (code : Nat) : Bool := code ≤ 4 || 14 ≤ code

/-- Whether a source acts: its `WAKE_EN` bit, and for the timer the tide (R468). -/
def Mach.wakeActs (m : Mach) (code : Nat) : Bool :=
  1 ≤ code && (m.rd Reg.Power.WAKE_EN).testBit (code - 1) &&
  (code != 3 || (m.rd Reg.Power.WAKE_TIDE != 0 && m.rd Reg.Power.WAKE_TIDE ≤ m.tide)) &&
  (code != 5 || !(m.rd Reg.Power.DOMAIN_ON).testBit 13)

/-- WAKE: a wake source becomes active: it ends SLACK, aborts a preparation, is lost or latched between the vote commit
and isolation, or starts the exit (R466 to R468, R470). -/
def wake (code : Nat) (m : Mach) : Mach :=
  if m.pw.st = 1 then m.awake
  else if !m.wakeActs code || m.pw.exitAt.isSome then m
  else if m.pw.st = 0 then
    if m.pw.commit.isNone then m.abortEntry code
    else if levelSource code then
      { m.wr Reg.Power.PENDING_WAKE (setBit (m.rd Reg.Power.PENDING_WAKE) code true) with
        pw := { m.pw with latched := some (m.pw.latched.getD code) } }
    else m
  else m.startExit code

def execWake (t : Nat) (code : Fin 16) (s : State) : Out := s.run t (wake code)

/-- The domains an entry of the wake delay table powers (R471). -/
def entryDomains : Nat → List Nat
  | 1 => [13] | 4 => [12] | 6 => [4] | 8 => [5, 6, 7] | 9 => [8, 9] | 12 => [10, 11] | 13 => [0, 1, 2, 3] | _ => []

/-- The pad group an entry releases, as its bit in `PADS_HELD` (R472). -/
def entryPads : Nat → Option Nat
  | 2 => some 1 | 5 => some 3 | 7 => some 2 | 10 => some 0 | 13 => some 4 | 14 => some 5 | _ => none

/-- CISTERN plots are refilled from their plot frames, and the locked translation entries are reloaded (R192, R463, R471). -/
def Mach.cisRefill (m : Mach) : Mach :=
  let lines := m.cisPlots.flatMap fun e => (List.range 64).map fun k => (e.2.cis * 64 + k, e.1 * 64 + k)
  let m := m.each lines fun m e =>
    match Tbl.find m.st.cisTier e.1, m.linePl e.2 with
    | none, some pl =>
      let s := m.checkImage e.2 (dpaWord e.2) pl (m.image pl)
      if s.ok && !s.val.poison then m.modSt fun x => { x with cisTier := Tbl.put x.cisTier e.1 s.val } else m
    | _, _ => m
  let pins := (m.st.plots.filter fun e => e.2.pinned && !m.st.tc.contains e.1).map fun e => e.1
  (m.modSt fun x => { x with tc := x.tc ++ pins }).showTc

/-- What an entry does beside powering and releasing: Sluice sampling resumes at 2, the Cistern is refilled at 11, enabled links start TRAINING and
ports enter Detect at 14, the Weir island leaves reset at 15 and the device is ACTIVE with every domain held (R470,
R471). -/
def Mach.entryAction (m : Mach) (n : Nat) : Mach :=
  if n = 2 then m.each (List.range 10) fun m c => m.sluiceWake c
  else if n = 11 then m.cisRefill
  else if n = 14 then
    m.each (List.range 8) fun m l => if m.enabled .culvert l then m.setFsm .culvert 1 l else m
  else if n = 15 then
    let m := m.enterPower 0
    let m := m.wr Reg.Power.PENDING_WAKE 0
    { m with
      pw := { m.pw with exitAt := none, holdEnd := some (m.tide + m.rd Reg.Power.WAKE_HOLD_MS * 1000000) }
      clk := { m.clk with running := true, nextTurn := m.tide } }
  else m

/-- WAKE_SEQ_ENTRY: the next entry of the wake delay table completes (R471, R472). -/
def wakeSeqEntry (m : Mach) : Mach :=
  match m.pw.exitAt with
  | none => m
  | some n =>
    let m := { m with pw := { m.pw with exitAt := some (n + 1) } }
    let m := m.each (entryDomains n) fun m d => m.setDomain d true
    let m := match entryPads n with
      | some b => m.wr Reg.Power.PADS_HELD (setBit (m.rd Reg.Power.PADS_HELD) b false)
      | none => m
    m.entryAction n

def execWakeSeqEntry (t : Nat) (s : State) : Out := s.run t wakeSeqEntry

/-- WAKE_HOLD_EXPIRY: `WAKE_HOLD_MS` is over and the votes decide (R470). -/
def wakeHoldExpiry (m : Mach) : Mach :=
  match m.pw.holdEnd with
  | some e => if e ≤ m.tide then { m with pw := { m.pw with holdEnd := none } }.powerUpdate else m
  | none => m

def execWakeHoldExpiry (t : Nat) (s : State) : Out := s.run t wakeHoldExpiry

end Sys2Proof.Machine
end

