-- ==== Sys2Proof/Machine/View.lean ====
section
/-! DEFINITION. What a read of BAR0 returns (R26, R27, R29, R46 to R48): the fields that show a block's state, the frozen
copies, and a register of 64 bits. -/

namespace Sys2Proof.Machine

/-! ### Every field of a page -/

/-- The fields of a page's own registers. -/
def ownFields : PageKind → List Field
  | .device => Reg.Device.fields
  | .clock => Reg.Clock.fields
  | .hostPort => Reg.HostPort.fields
  | .headgate => Reg.Headgate.fields
  | .weir => Reg.Weir.fields
  | .allotment => Reg.Allotment.fields
  | .tractTable => Reg.TractTable.fields
  | .transCache => Reg.TransCache.fields
  | .siphon => Reg.Siphon.fields
  | .cistern => Reg.Cistern.fields
  | .flume => Reg.Flume.fields
  | .levee => Reg.Levee.fields
  | .furrow => Reg.Furrow.fields
  | .canal => Reg.Canal.fields
  | .crypto => Reg.Crypto.fields
  | .rekey => Reg.Rekey.fields
  | .culvert => Reg.Culvert.fields
  | .turnout => Reg.Turnout.fields
  | .shared => Reg.Shared.fields
  | .twin => Reg.Twin.fields
  | .sluice => Reg.Sluice.fields
  | .power => Reg.Power.fields
  | .gauge => Reg.Gauge.fields
  | .dataMover => Reg.DataMover.fields
  | .mailbox => Reg.Mailbox.fields

/-- Every field of a page. -/
def pageFields (k : PageKind) : List Field := Reg.Hdr.fields k ++ ownFields k

/-- The indexes of a field: the two member registers of a region hold eight of the sixteen steps of their stride (R396). -/
def Field.idx (f : Field) : List Nat :=
  if f = Reg.Shared.MEMBER then (List.range 512).filter fun n => n % 16 < 8 else List.range f.count

/-! ### Fields that show a block's state -/

/-- A field with what it shows of an instance and index. -/
abbrev Shows := Field × (Mach → Nat → Nat → Nat)

/-- The tag that `TAG_SEL` selects (R122). -/
def Mach.tagSel (m : Mach) (p : Nat) : Option Tag := m.tag? p (m.rd Reg.Headgate.TAG_SEL p)

/-- The code of a tag state (R91). -/
def TagState.code : TagState → Nat
  | .free => 0
  | .held => 1
  | .accepted => 2
  | .responding => 3
  | .draining => 4

/-- A value of a tag whose request has been accepted, else 0 (R122). -/
def acceptedVal (x : Option Tag) (f : Tag → Nat) : Nat :=
  match x with
  | some g => if g.st = .held || g.st = .free then 0 else f g
  | none => 0

/-- What a Headgate page shows. -/
def headgateShows : List Shows :=
  [(Reg.Headgate.LATE_DEPTH, fun m p _ => (m.port p).late.length),
   (Reg.Headgate.TV_STATE, fun m p _ => match m.tagSel p with | some g => g.st.code | none => 0),
   (Reg.Headgate.TV_WRITE, fun m p _ => match m.tagSel p with | some g => g.op.writes.toNat | none => 0),
   (Reg.Headgate.TV_ALLOT, fun m p _ => match m.tagSel p with | some g => g.allot | none => 0),
   (Reg.Headgate.TV_HOST_TAG, fun m p _ => match m.tagSel p with | some g => g.hostTag | none => 0),
   (Reg.Headgate.TV_LINE, fun m p _ => match m.tagSel p with | some g => g.line | none => 0),
   (Reg.Headgate.TV_DEADLINE, fun m p _ => acceptedVal (m.tagSel p) fun g => if g.op.writes then 0 else g.deadline % 2 ^ 32),
   (Reg.Headgate.TV_ACCEPT, fun m p _ => acceptedVal (m.tagSel p) fun g => g.accept % 2 ^ 32),
   (Reg.Headgate.FLOOR_LEFT_RD, fun m p a => (m.port p).floor false a + (m.port p).granted false a),
   (Reg.Headgate.FLOOR_LEFT_WR, fun m p a => (m.port p).floor true a + (m.port p).granted true a),
   (Reg.Headgate.HELD, fun m p a => (m.queueOf p a).length),
   (Reg.Headgate.TIME_AT_CALL, fun m p k => min (m.callNs p k / 1000) (2 ^ 64 - 1))]

/-- The home of a tract whose entry has one, else none. -/
def Mach.homeShown (m : Mach) (n : Nat) : Option Home :=
  if tMode (m.tract n) = 1 || tMode (m.tract n) = 2 then Tbl.find m.st.home n else none

/-- What the tract table page shows of `TRACT_SEL` and `FRAME_SEL` (R203). -/
def tractShows : List Shows :=
  let tr := fun (m : Mach) => m.rd Reg.TractTable.TRACT_SEL
  let fr := fun (m : Mach) => m.frame (m.rd Reg.TractTable.FRAME_SEL)
  [(Reg.TractTable.TV_ENTRY, fun m _ _ => m.tract (tr m)),
   (Reg.TractTable.TV_FRAME, fun m _ _ => match m.homeShown (tr m) with | some h => h.frame | none => 0),
   (Reg.TractTable.TV_SLOT, fun m _ _ =>
     match m.homeShown (tr m) with | some h => if tMode (m.tract (tr m)) = 1 then h.slot else 15 | none => 15),
   (Reg.TractTable.TV_TABLE, fun m _ _ =>
     match m.homeShown (tr m) with | some h => if tMode (m.tract (tr m)) = 2 then h.block else 0 | none => 0),
   (Reg.TractTable.TV_MOVING, fun m _ _ =>
     (m.flag Reg.Siphon.TM_ACTIVE && m.rd Reg.Siphon.TM_TRACT = tr m).toNat),
   (Reg.TractTable.FV_ROLE, fun m _ _ => (fr m).role),
   (Reg.TractTable.FV_POOL, fun m _ _ => if (fr m).role = 4 then (fr m).pool else 0),
   (Reg.TractTable.FV_OWNER, fun m _ _ => if (fr m).role = 1 then (fr m).owner else 0),
   (Reg.TractTable.FV_USED, fun m _ _ =>
     if (fr m).role = 3 then (m.usedPlotFrames.filter fun v => v / 2 ^ 24 = m.rd Reg.TractTable.FRAME_SEL).length else 0)]

/-- The Siphon's compression is in an engine: the plot's lines have been read (R222). -/
def Mach.compressing (m : Mach) : Bool := m.sip.move.any fun mv => mv.op = 3 && mv.atLine = 64

/-- The LZ rows whose decode reads wait for (R219). -/
def Mach.lzRowsWanted (m : Mach) : List Nat :=
  let ws := m.tagsWhere fun _ x => x.st = .accepted && x.op.reads && m.inLzRow x.line && m.translated x.line
  ((ws.filter fun e => m.readWaits e.1 e.2.1 e.2.2).map fun e => e.2.2.line / 16).eraseDups

/-- What the Flume page shows (R230). -/
def flumeShows : List Shows :=
  [(Reg.Hdr.FSM .flume, fun m _ _ => (!m.enabled .flume || m.halted .flume).toNat),
   (Reg.Flume.CE_BUSY, fun m _ _ => min 16 (m.sip.rewrites.length + m.compressing.toNat)),
   (Reg.Flume.DE_BUSY, fun m _ _ => min 32 m.lzRowsWanted.length),
   (Reg.Flume.DV_W0, fun m _ _ => (m.dir (m.rd Reg.Flume.DIR_SEL)).word0),
   (Reg.Flume.DV_W1, fun m _ _ => (m.dir (m.rd Reg.Flume.DIR_SEL)).word1)]

/-- The code of a merge-buffer state (R248). -/
def MergeState.code : MergeState → Nat
  | .reserved => 1
  | .held => 2
  | .fetch => 3
  | .drain => 4
  | .flume => 5

/-- The byte enables that a merge entry has gathered. -/
def Merge.mask (x : Merge) : Nat := (x.logs.foldl (fun (a : BitVec 64) w => a ||| w.mask) 0).toNat

/-- What the Levee page shows of `MB_SEL` and `PREC_SEL` (R264). -/
def leveeShows : List Shows :=
  let mb := fun (f : Merge → Nat) (m : Mach) (_ _ : Nat) =>
    match m.merge? (m.rd Reg.Levee.MB_SEL) with | some x => f x | none => 0
  let pr := fun (f : Prec → Nat) (m : Mach) (_ _ : Nat) =>
    match m.lev.prec[m.rd Reg.Levee.PREC_SEL]? with | some x => f x | none => 0
  [(Reg.Levee.PV_LINE, pr fun x => x.line), (Reg.Levee.PV_CAUSE, pr fun x => x.cause), (Reg.Levee.PV_TIDE, pr fun x => x.tide),
   (Reg.Levee.MV_STATE, mb fun x => x.st.code),
   (Reg.Levee.MV_PARTIAL, mb fun x => (x.mask != 2 ^ 64 - 1).toNat),
   (Reg.Levee.MV_STRIPE, mb fun x => x.stripe.toNat),
   (Reg.Levee.MV_RESERVED_CLASS, mb fun x => x.cls2.toNat),
   (Reg.Levee.MV_ALLOT, mb fun x => x.allot),
   (Reg.Levee.MV_WRITES, mb fun x => min x.logs.length 65535),
   (Reg.Levee.MV_ACCEPT, mb fun x => x.accept % 2 ^ 32),
   (Reg.Levee.MV_LINE, mb fun x => x.line),
   (Reg.Levee.MV_MASK, mb fun x => x.mask)]

/-- What a Canal page shows (R291). -/
def canalShows : List Shows :=
  [(Reg.Canal.QUEUE_DEPTH, fun m c _ => m.queueDepth c),
   (Reg.Canal.ROW_HITS, fun m c _ => (m.rowCount c).hits), (Reg.Canal.ROW_EMPTY, fun m c _ => (m.rowCount c).empty),
   (Reg.Canal.ROW_CONFLICTS, fun m c _ => (m.rowCount c).conflicts),
   (Reg.Canal.SPD_DATA, fun m c _ =>
     let l := Tbl.getD (m.canal c).spdBytes (m.rd Reg.Canal.SPD_SLOT c) []
     fromLe ((l.drop (m.rd Reg.Canal.SPD_OFFSET c / 8 * 8)).take 8))]

/-- What the crypto page shows of `SLOT_SEL` (R293, R318). Key words read 0. -/
def cryptoShows : List Shows :=
  let sl := fun (f : KeySlot → Nat) (m : Mach) (_ _ : Nat) => f (m.slot (m.rd Reg.Crypto.SLOT_SEL))
  [(Reg.Crypto.KEY_DATA, fun _ _ _ => 0),
   (Reg.Crypto.SV_STATE, sl fun x => x.state), (Reg.Crypto.SV_LOCKED, sl fun x => x.lock.toNat),
   (Reg.Crypto.SV_GENERATED, sl fun x => x.gen.toNat),
   (Reg.Crypto.SV_REKEY, fun m _ _ => (m.rekeyNames (m.rd Reg.Crypto.SLOT_SEL)).toNat),
   (Reg.Crypto.SV_EPOCH, sl fun x => x.epoch), (Reg.Crypto.SV_KCV, sl fun x => if x.state = 1 then x.kcv else 0),
   (Reg.Crypto.SV_WRITES, sl fun x => x.writes), (Reg.Crypto.SV_ADVISED, sl fun x => x.advised.toNat),
   (Reg.Crypto.SV_SAT, sl fun x => x.sat.toNat), (Reg.Crypto.SV_MAC_FAILS, sl fun x => x.macFails),
   (Reg.Crypto.SV_USERS, fun m _ _ => m.slotUsers (m.rd Reg.Crypto.SLOT_SEL)),
   (Reg.Crypto.SV_LOAD_TIDE, sl fun x => x.loadTide)]

/-- What the Turnout page shows of the flow that `FLOW_PEER` and `FLOW_ALLOT` select (R374). -/
def turnoutShows : List Shows :=
  let tx := fun (f : TxFlow → Nat) (m : Mach) (_ _ : Nat) =>
    f (m.txFlow (m.rd Reg.Turnout.FLOW_PEER) (m.rd Reg.Turnout.FLOW_ALLOT))
  let rx := fun (f : RxFlow → Nat) (m : Mach) (_ _ : Nat) =>
    f (m.rxFlow (m.rd Reg.Turnout.FLOW_PEER) (m.rd Reg.Turnout.FLOW_ALLOT))
  [(Reg.Turnout.TX_NEXT, tx fun f => f.next), (Reg.Turnout.TX_ACKED, tx fun f => f.acked),
   (Reg.Turnout.TX_CRED, tx fun f => f.cred), (Reg.Turnout.TX_OUT, tx fun f => f.out),
   (Reg.Turnout.TX_STATE, tx fun f => f.st), (Reg.Turnout.TX_EPOCH, tx fun f => f.epoch),
   (Reg.Turnout.RX_NEXT, rx fun f => f.next), (Reg.Turnout.RX_GRANTED, rx fun f => f.granted),
   (Reg.Turnout.RX_HELD, rx fun f => f.held),
   (Reg.Turnout.FV_RESYNCS, tx fun f => f.resyncs), (Reg.Turnout.FV_TIMEOUTS, tx fun f => f.timeouts),
   (Reg.Turnout.FV_LAST_TIDE, tx fun f => f.seenAt), (Reg.Turnout.FLOW_SEL_TIDE, tx fun f => f.lastTide)]

/-- What the shared page shows of `REGION_SEL` and `DIR_LINE` (R396). -/
def sharedShows : List Shows :=
  let rg := fun (f : RegX → Nat) (m : Mach) (_ _ : Nat) => f (Tbl.getD m.shared.regs (m.rd Reg.Shared.REGION_SEL) {})
  let ln := fun (m : Mach) => m.rd Reg.Shared.DIR_LINE
  [(Reg.Shared.RV_STATE, fun m _ _ => m.rd Reg.Shared.REG_STATE 0 (m.rd Reg.Shared.REGION_SEL)),
   (Reg.Shared.RV_CAUSE, rg fun x => x.cause), (Reg.Shared.RV_AGENT, rg fun x => x.agent),
   (Reg.Shared.RV_LINES, fun m _ _ => (m.shared.dir.filter fun e => e.2.region = m.rd Reg.Shared.REGION_SEL).length),
   (Reg.Shared.RV_FENCED, rg fun x => x.fenced), (Reg.Shared.RV_POISONED, rg fun x => x.poisoned),
   (Reg.Shared.RV_TEAR_TIDE, rg fun x => x.tearTide), (Reg.Shared.RV_ACTIVE_TIDE, rg fun x => x.activeTide),
   (Reg.Shared.DV_ENTRY, fun m _ _ => match m.dirEnt (ln m) with | some e => dirWord (ln m) e | none => 0),
   (Reg.Shared.DV_WAITING, fun m _ _ => min 65535 (m.cohWaits (ln m)).length),
   (Reg.Shared.DV_IN_HOLD, fun m _ _ => match m.dirEnt (ln m) with | some e => (m.inHold e).toNat | none => 0)]

/-- What the Twin page shows (R431). -/
def twinShows : List Shows :=
  [(Reg.Twin.LINKS_UP, fun m _ _ =>
     ((List.range 8).map fun l => if (m.act Reg.Twin.TWIN_LINKS).testBit l && m.fsm .culvert l = 3 then 2 ^ l else 0).sum),
   (Reg.Twin.REORDER_USED, fun m _ _ => m.twin.rx.length),
   (Reg.Twin.TX_HELD, fun m _ _ => m.twin.held.length)]

/-- What a Sluice page shows (R456). -/
def sluiceShows : List Shows :=
  [(Reg.Sluice.CD_LEFT_MS, fun m c _ => m.cdLeftMs c),
   (Reg.Sluice.GOOD_MS, fun m c _ =>
     if m.flag Reg.Sluice.PG c then min ((m.tide - (m.slu c).goodTide) / 1000000) (2 ^ 32 - 1) else 0)]

/-- The seconds left of the validity of a challenge or of a lockout, rounded up (R489, R494). -/
def Mach.challengeLeft (m : Mach) : Nat :=
  match m.rd Reg.Gauge.CLEAR_STATE with
  | 1 => (m.gb.chalEnd - m.tide + 999999999) / 1000000000
  | 2 => (m.gb.lockEnd - m.tide + 999999999) / 1000000000
  | _ => 0

/-- The sequence of the oldest record held in the ring or in flash, 0 where there is none (R494). -/
def Mach.seqOldest (m : Mach) : Nat :=
  let seqs := (m.gb.ring.map fun (e : Nat × Rec) => e.2.seq) ++ m.gb.flash.flatMap fun (e : Nat × FlashBlk) => e.2.recs.map fun r => r.seq
  match seqs.filter fun q => m.rd Reg.Gauge.SEQ_FLOOR ≤ q with
  | [] => 0
  | q :: l => l.foldl min q

/-- What the Gauge Book page shows (R479, R494). -/
def gaugeShows : List Shows :=
  [(Reg.Gauge.OP_SECONDS, fun m _ _ => m.opSeconds), (Reg.Gauge.SEQ_OLDEST, fun m _ _ => m.seqOldest),
   (Reg.Gauge.CHALLENGE_LEFT_S, fun m _ _ => m.challengeLeft),
   (Reg.Hdr.BLOCK_CAP .gauge, fun m _ _ => 4096 + m.gb.nBlk * 2 ^ 16)]

/-- The bits of `BLOCK_EVT` that are set. -/
def Mach.blockEvts (m : Mach) (p : PageId) : Nat :=
  (m.blkEvt.filter fun e => e.1 = pageNo p).foldl (fun a e => setBit a (blockBit e.2) true) 0

/-- What every page shows: whether its island is down, its block events (R26, R51). -/
def headerShows (k : PageKind) : List Shows :=
  [(Reg.Hdr.ISLAND_DOWN k, fun m i _ => (m.islandDown (islandOf k i)).toNat),
   (Reg.Hdr.BLOCK_EVT k, fun m i _ => m.blockEvts ⟨k, i⟩)]

/-- What a page shows beside its stored fields. -/
def ownShows : PageKind → List Shows
  | .clock =>
    [(Reg.Clock.TIDE, fun m _ _ => m.tide),
     (Reg.Clock.ISLAND_RUN, fun m _ _ => ((List.range 40).map fun i => if m.islandRuns i then 2 ^ i else 0).sum)]
  | .hostPort => [(Reg.HostPort.TAGS_USED, fun m p _ => (m.port p).tags.length)]
  | .headgate => headgateShows
  | .allotment => [(Reg.Hdr.FSM .allotment, fun m a _ => m.act Reg.Allotment.GUARANTEED a)]
  | .tractTable => tractShows
  | .cistern => [(Reg.Cistern.SLICE_OK, fun m _ _ => if m.islandRuns 12 then 2 ^ 32 - 1 else 0)]
  | .flume => flumeShows
  | .levee => leveeShows
  | .canal => canalShows
  | .crypto => cryptoShows
  | .turnout => turnoutShows
  | .shared => sharedShows
  | .twin => twinShows
  | .sluice => sluiceShows
  | .power =>
    [(Reg.Power.EFFECTIVE, fun m _ d => m.rd Reg.Power.VOTE 0 d &&& m.rd Reg.Power.CLIENT_EN),
     (Reg.Power.TIME_IN, fun m _ k => min (m.powerNs k / 1000) (2 ^ 64 - 1))]
  | .gauge => gaugeShows
  | .mailbox => [(Reg.Hdr.FSM .mailbox, fun m _ _ => m.rd Reg.Mailbox.BOOT_STAGE)]
  | .device | .weir | .transCache | .siphon | .furrow | .rekey | .culvert | .dataMover => []

/-- The live value of a field: what its block shows, else what is stored. -/
def Mach.live (m : Mach) (f : Field) (i n : Nat) : Nat :=
  match (headerShows f.page ++ ownShows f.page).find? fun e => e.1 = f with
  | some (_, g) => g m i n % f.lim
  | none => m.rd f i n

/-! ### Snapshots and register reads (R29, R46 to R48) -/

/-- The fields that a snapshot freezes: those of the STATE area (R46). -/
def Field.frozen (f : Field) : Bool := 0xB00 ≤ f.off

/-- Fields that read live whatever `VIEW` says: the Late FIFO's head, the record read and the challenge, the selected views (R101, R488,
R510). -/
def viewLive : List Field :=
  [Reg.Headgate.LATE_W0, Reg.Headgate.LATE_W1, Reg.Gauge.REC_W0, Reg.Gauge.REC_W1, Reg.Gauge.REC_W2, Reg.Gauge.REC_W3,
   Reg.Gauge.READ_STATUS, Reg.Gauge.CHALLENGE] ++
  ((headgateShows.filter fun e => e.1.off = 0xF20 || e.1.off = 0xF28).map fun e => e.1) ++
  (tractShows ++ leveeShows ++ cryptoShows ++ turnoutShows ++ sharedShows).map (fun e => e.1) ++
  [Reg.Flume.DV_W0, Reg.Flume.DV_W1, Reg.Canal.SPD_DATA]

/-- What a read of a field returns: 0 for WO fields, the frozen copy of a STATE field while `VIEW` = 1 (R48), else the live
value. -/
def Mach.shown (m : Mach) (f : Field) (i n : Nat) : Nat :=
  if f.access = .wo then 0
  else if f.frozen && m.flag (Reg.Hdr.VIEW f.page) i && !viewLive.contains f then Tbl.getD m.frozen (f.addr i n) 0
  else m.live f i n

/-- Fields whose ACTIVE copy follows a swap in place of a commit: the Sluice's curve (R439). -/
def Field.swaps (f : Field) : Bool := f = Reg.Sluice.CURVE_MA || f = Reg.Sluice.CURVE_US

/-- The value of the 64-bit register at a byte offset of a page; ACTIVE offsets read back STAGE fields 0x500 lower: the
ACTIVE copy of TURN and HALT fields and of the curve, the value in force of other LIVE fields (R27, R439). -/
def Mach.read64 (m : Mach) (p : PageId) (off : Nat) : Nat :=
  let act := 0x600 ≤ off && off < 0xB00
  let at_ := if act then off - 0x500 else off
  ((pageFields p.kind).map fun f =>
    (f.idx.map fun n =>
      let b := f.off * 8 + f.lsb + n * f.stride
      if b / 64 = at_ / 8 then
        (if act && (f.commits || f.swaps) then m.act f p.inst n else m.shown f p.inst n) * 2 ^ (b % 64)
      else 0).sum).sum

/-- The page of a BAR0 offset (R52). -/
def pageAt (off : Nat) : Option PageId := allPages.find? fun p => pageNo p = off / 4096

/-- A read of `size` bytes at a BAR0 offset: its value, and the device after it. A malformed read returns 0 and is counted; an offset
outside every page reads 0; the read of `LATE_W0` is the command LATE_W0_READ. Nothing answers while CORE is off (R29, R52, R101). -/
def Mach.barRead (m : Mach) (off size : Nat) : Nat × Mach :=
  if 2 ≤ m.pw.st then (0, m)
  else if !((size = 8 || size = 4) && off % size = 0) then (0, m.awake.inc Reg.Device.BAD_ACCESS)
  else
    match pageAt off with
    | none => (0, m.awake)
    | some p =>
      let v := m.awake.read64 p (off % 4096 / 8 * 8)
      (if size = 8 then v else v / 2 ^ (off % 8 * 8) % 2 ^ 32, m.awake)

/-- Copy the STATE area of a page into its frozen copy: `SEQ`, `SNAP_TURN`, `SNAP_TIDE` and event bit 3 follow (R46). -/
def Mach.freeze (m : Mach) (p : PageId) : Mach :=
  let fs := (pageFields p.kind).filter fun f => f.frozen
  let vals := fs.flatMap fun f => f.idx.map fun n => (f.addr p.inst n, m.live f p.inst n)
  let m : Mach := { m with frozen := vals.foldl (fun t e => Tbl.putD t e.1 e.2 0) m.frozen }
  let m := (m.inc (Reg.Hdr.SEQ p.kind) p.inst).wr (Reg.Hdr.SNAP_TURN p.kind) (m.rd Reg.Clock.TURN_INDEX % 2 ^ 32) p.inst
  let m := (m.wr (Reg.Hdr.SNAP_TIDE p.kind) (m.rd Reg.Clock.TURN_START) p.inst).wr (Reg.Hdr.SNAP_PENDING p.kind) 0 p.inst
  m.setCommon p 3

end Sys2Proof.Machine
end

