-- ==== Sys2Proof/Machine/Check.lean ====
section
/-! DEFINITION. Validation of a latched commit (R36): the configuration it leads to, the offences of checks 1 to 5, and the
admission sum of check 6 (R159, R160, R169). -/

namespace Sys2Proof.Machine

/-! ### Latched sets and configurations (R33, R40) -/

/-- The TURN and HALT fields of a page. -/
def commitFields (k : PageKind) : List Field := (ownFields k).filter Field.commits

/-- The STAGE register index of a field's register, (offset - 0x100) / 8 (R26). -/
def Field.word (f : Field) (n : Nat) : Nat := (f.off * 8 + f.lsb + n * f.stride) / 64 - 32

/-- Whether a commit includes a page. -/
def Commit.has (c : Commit) (p : PageId) : Bool := c.pages.any fun e => e.2 = p

/-- Whether a commit includes a page of a kind. -/
def Commit.hasKind (c : Commit) (k : PageKind) : Bool := c.pages.any fun e => e.2.kind = k

/-- The latched value of a field. -/
def Commit.val (c : Commit) (f : Field) (i n : Nat) : Nat := Tbl.getD c.latch (f.addr i n) (f.resetAt i n)

/-- A configuration with a commit's latched set in place. -/
def Commit.onto (c : Commit) (g : Cfg) : Cfg := fun f i n => if f.commits && c.has ⟨f.page, i⟩ then c.val f i n else g f i n

/-- An edit of the tract table: its place in the list, the tract, the new entry (R183). -/
abbrev Edit := Nat × Nat × Nat

/-- The edits of a commit, none where it does not include the tract table. -/
def Commit.edits (c : Commit) : List Edit :=
  if c.hasKind .tractTable then
    (List.range (min 64 (c.val Reg.TractTable.EDIT_COUNT 0 0))).map fun e =>
      (e, c.val Reg.TractTable.E_TRACT 0 e, c.val Reg.TractTable.E_ENTRY 0 e)
  else []

/-- The tract table after a commit's edits. -/
def Commit.tractsOver (c : Commit) (l : List (Nat × Nat)) : List (Nat × Nat) :=
  c.edits.foldl (fun t e => Tbl.putD t e.2.1 e.2.2 0) l

/-- ACTIVE with every commit that has passed validation and not yet applied, in arrival order (R40). -/
def Mach.base (m : Mach) : Cfg := (m.commits.filter fun c => c.passed).foldl (fun g c => c.onto g) m.cfg

/-- The tract table with every passed commit's edits (R40). -/
def Mach.baseTracts (m : Mach) : List (Nat × Nat) :=
  (m.commits.filter fun c => c.passed).foldl (fun t c => c.tractsOver t) m.st.tracts

/-- What a check looks at: the machine, the commit, the configuration before and after it, the tract table before and after
it. -/
structure Judge where
  m : Mach
  c : Commit
  old : Cfg
  new : Cfg
  was : List (Nat × Nat)
  now : List (Nat × Nat)

/-- The view of a commit against ACTIVE and the passed commits. -/
def Mach.judge (m : Mach) (c : Commit) : Judge :=
  { m := m, c := c, old := m.base, new := c.onto m.base, was := m.baseTracts, now := c.tractsOver m.baseTracts }

/-- The entry of a tract before the commit, 0 for every entry of mode NONE, whose other fields are ignored (R179). -/
def liveEntry (l : List (Nat × Nat)) (n : Nat) : Nat :=
  let e := Tbl.getD l n 0
  if tMode e = 0 then 0 else e

/-! ### Offences -/

/-- An offence: a member number, and 0 for the page's own state or 1 + the STAGE register index of the field at fault. The
first one of a check is reported (R36). -/
abbrev Offence := Nat × Nat

/-- Whether one offence is reported before another: lowest member, then the page before its fields, then the lowest
register (R36). -/
def Offence.before (a b : Offence) : Bool := a.1 < b.1 || (a.1 = b.1 && a.2 < b.2)

/-- The offence to report. -/
def firstOffence : List Offence → Option Offence
  | [] => none
  | a :: l =>
    match firstOffence l with
    | none => some a
    | some b => some (if Offence.before b a then b else a)

/-- A field of a page at fault, under the member number the commit gives the page; a page that is not included gives no
offence of its own. -/
def Judge.at (j : Judge) (f : Field) (i n : Nat) : List Offence :=
  (j.c.pages.filter fun e => e.2 = ⟨f.page, i⟩).map fun e => (e.1, 1 + f.word n)

/-- The entry register of an edit at fault. -/
def Judge.edit (j : Judge) (e : Nat) : List Offence := j.at Reg.TractTable.E_ENTRY 0 e

/-- The edit that names a tract. -/
def Judge.editOf (j : Judge) (n : Nat) : Option Edit := j.c.edits.find? fun e => e.2.1 = n

/-- The edit of a tract at fault, or another field where no edit names the tract. -/
def Judge.tractAt (j : Judge) (n : Nat) (other : List Offence) : List Offence :=
  match j.editOf n with
  | some e => j.edit e.1
  | none => other

/-- Whether a field changes against the configuration before the commit. -/
def Judge.changed (j : Judge) (f : Field) (i n : Nat) : Bool := j.old f i n != j.new f i n

/-- Offences of the included fields that a test finds bad. -/
def Judge.scan (j : Judge) (bad : Field → Nat → Nat → Bool) : List Offence :=
  j.c.pages.flatMap fun e => (commitFields e.2.kind).flatMap fun f =>
    (f.idx.filter fun n => bad f e.2.inst n).map fun n => (e.1, 1 + f.word n)

/-! ### Check 1: BUSY -/

/-- Pages that exclude commits by their own state (R36). -/
def Judge.busyPages (j : Judge) : List Offence :=
  (j.c.pages.filter fun e => j.m.flag (Reg.Hdr.BUSY e.2.kind) e.2.inst || j.m.islandDown (islandOf e.2.kind e.2.inst)).map
    (fun e => (e.1, 0)) ++
  match j.c.clash with
  | some k => [(k, 0)]
  | none => []

/-- The islands that may be parked (R25). -/
def parkable (i : Nat) : Bool := i = 5 || (13 ≤ i && i ≤ 28) || (29 ≤ i && i ≤ 36)

/-- Whether every page of every block of an island is HALTED with `ENABLE` clear (R25). -/
def Mach.mayPark (m : Mach) (i : Nat) : Bool :=
  allPages.all fun p => islandOf p.kind p.inst != i || (m.halted p.kind p.inst && !m.enabled p.kind p.inst)

/-- Parking an island that is not at rest (R25). -/
def Judge.busyPark (j : Judge) : List Offence :=
  let new := j.new Reg.Clock.PARK 0 0
  if (List.range 40).any fun i => parkable i && new.testBit i && !(j.old Reg.Clock.PARK 0 0).testBit i && !j.m.mayPark i then
    j.at Reg.Clock.PARK 0 0
  else []

/-- Moving an alias window under a committed decoder (R65). -/
def Judge.busyAlias (j : Judge) : List Offence :=
  (List.range 4).flatMap fun p => (List.range 16).flatMap fun n =>
    if (j.m.rd Reg.HostPort.DEC_COMMITTED p).testBit n && j.changed Reg.HostPort.DPA_BASE p n then j.at Reg.HostPort.DPA_BASE p n
    else []

/-- Whether a region is at rest: OFF or DOWN (R379). -/
def Mach.regionAtRest (m : Mach) (r : Nat) : Bool := m.rd Reg.Shared.REG_STATE 0 r = 0 || m.rd Reg.Shared.REG_STATE 0 r = 4

/-- Whether an edit may not be made now: its tract is being moved or rekeyed, its region is at work, or mirroring is
(R183, R309, R379, R430). -/
def Judge.editBusy (j : Judge) (e : Edit) : Bool :=
  let a := liveEntry j.was e.2.1
  let b := if tMode e.2.2 = 0 then 0 else e.2.2
  let m := j.m
  (m.flag Reg.Siphon.TM_ACTIVE && m.rd Reg.Siphon.TM_TRACT = e.2.1) ||
  ((m.fsm .rekey = 1 || m.fsm .rekey = 2) && m.rd Reg.Rekey.RK_ACT_TRACT = e.2.1) ||
  ((tShared a != tShared b || (tShared a && tRegion a != tRegion b)) &&
    ((tShared a && !m.regionAtRest (tRegion a)) || (tShared b && !m.regionAtRest (tRegion b)))) ||
  (tMirror a != tMirror b && 2 ≤ m.fsm .twin && m.fsm .twin ≤ 4)

/-- Changing the striping of a pool that holds frames (R230). -/
def Judge.busyPools (j : Judge) : List Offence :=
  let was := j.old Reg.Flume.POOL_STRIPE 0 0
  let new := j.new Reg.Flume.POOL_STRIPE 0 0
  if (List.range 16).any fun k => was.testBit k != new.testBit k && j.m.rd Reg.Flume.FRAMES 0 k != 0 then
    j.at Reg.Flume.POOL_STRIPE 0 0
  else []

/-- The fields of a region that change only while it is at rest (R379). -/
def Judge.busyRegions (j : Judge) : List Offence :=
  (List.range 32).flatMap fun r =>
    if j.m.regionAtRest r then []
    else
      ([Reg.Shared.ROLE, Reg.Shared.HOME_ID, Reg.Shared.HOME_REGION, Reg.Shared.PORTS].flatMap fun f =>
        if j.changed f 0 r then j.at f 0 r else []) ++
      ((List.range 8).flatMap fun k =>
        if j.changed Reg.Shared.MEMBER 0 (r * 16 + k) then j.at Reg.Shared.MEMBER 0 (r * 16 + k) else [])

/-- Check 1 of R36. -/
def Judge.check1 (j : Judge) : List Offence :=
  j.busyPages ++ j.busyPark ++ j.busyAlias ++ (j.c.edits.filter j.editBusy).flatMap (fun e => j.edit e.1) ++
    j.busyPools ++ (if j.c.hasKind .shared then j.busyRegions else [])

/-! ### Checks 2 and 3: locks and HALT fields -/

/-- Check 2 of R36: a changed RWL field of a page that was LOCKED at the latch (R45). -/
def Judge.check2 (j : Judge) : List Offence :=
  j.scan fun f i n => f.access = .rwl && j.c.locks.contains ⟨f.page, i⟩ && j.changed f i n

/-- Check 3 of R36: a changed HALT field of a page that is not HALTED. -/
def Judge.check3 (j : Judge) : List Offence :=
  j.scan fun f i n => f.attr = .halt && !j.m.halted f.page i && j.changed f i n

/-! ### Check 4: ranges -/

/-- A value within bounds. -/
def within (lo hi v : Nat) : Bool := lo ≤ v && v ≤ hi

/-- How many bits are set. -/
def bitCount (n v : Nat) : Nat := ((List.range n).filter fun k => v.testBit k).length

/-- The fields that hold reserved encodings, with the test that a listed one passes (instance, index, value), as each
chapter gives it. -/
def ranges : List (Field × (Nat → Nat → Nat → Bool)) :=
  let r := fun (lo hi : Nat) (_ _ v : Nat) => within lo hi v
  [(Reg.Clock.PARK, fun _ _ v => (List.range 40).all fun i => !v.testBit i || parkable i),
   (Reg.DataMover.MAX_ACTIVE, r 1 16), (Reg.Allotment.CEILING_US, r 1 1000),
   (Reg.Headgate.FLOOR_HOLD, r 1 16), (Reg.Headgate.CALL_KEEP, r 0 4),
   (Reg.Weir.TURN_LEN, r 2 256), (Reg.Weir.FREEBOARD, r 20 500), (Reg.Weir.BE_PCT, r 50 100),
   (Reg.TractTable.EDIT_COUNT, r 0 64), (Reg.TractTable.FRAME_RESERVE, r 32768 1048576),
   (Reg.Cistern.TIER_FRAMES, r 0 32768), (Reg.Cistern.PIN_MAX, r 0 16384),
   (Reg.Siphon.HOT_THRESH, r 1 255), (Reg.Siphon.DECAY_TURNS, r 1 65535),
   (Reg.Flume.KEEP_MAX, r 1 56), (Reg.Flume.POOL_FIRST, fun _ k v => k != 0 || v = 0),
   (Reg.Flume.POOL_LAST, fun _ k v => k != 0 || v = 0)] ++
  [(Reg.Canal.REF_POSTPONE, r 0 8), (Reg.Culvert.TX_PRESET, r 0 9), (Reg.Turnout.CRED_TIMEOUT_US, r 1 10000),
   (Reg.Turnout.SRC_MAX, r 1 63), (Reg.Turnout.LINK_REKEY_S, r 60 65535), (Reg.Turnout.CRED, r 0 1024),
   (Reg.Shared.ROLE, r 0 2), (Reg.Shared.MIN_HOLD_NS, fun _ _ v => within 64 4000 v && v % 16 = 0),
   (Reg.Shared.BI_TIMEOUT_US, r 1 10000),
   (Reg.Twin.TWIN_LINKS, fun _ _ v => within 2 4 (bitCount 8 v)), (Reg.Twin.LOSS_US, r 2 1000), (Reg.Twin.CREDITS, r 64 2048),
   (Reg.Sluice.INRUSH_MS, r 1 255), (Reg.Sluice.PG_TIMEOUT_MS, r 1 255), (Reg.Sluice.DEBOUNCE_MS, r 1 1000),
   (Reg.Sluice.REMOVE_US, r 1 63), (Reg.Sluice.RETRY_MS, r 1 1000000),
   (Reg.Sluice.TJ_TRIP_C, fun c _ v => if c < 8 then v = 0 else within 105 140 v),
   (Reg.Sluice.UV_US, r 1 1000), (Reg.Sluice.RSENSE_UOHM, fun c _ v => if c < 8 then within 500 10000 v else v = 0)]

/-- Whether a value is a listed encoding of its field. -/
def inRange (f : Field) (i n v : Nat) : Bool :=
  match ranges.find? fun e => e.1 = f with
  | some (_, ok) => ok i n v
  | none => true

/-- Whether a tract entry is free of reserved encodings (R179). -/
def entryOk (e : Nat) : Bool :=
  match tMode e with
  | 0 => true
  | 1 => e / 2 ^ 37 = 0 && !tCompress e && tPeerSlot e = 0 && tPeerTract e = 0
  | 2 => e / 2 ^ 37 = 0 && tPeerSlot e = 0 && tPeerTract e = 0
  | _ => e / 2 ^ 37 = 0 && !tCompress e && tPeerSlot e != 0

/-- Check 4 of R36. -/
def Judge.check4 (j : Judge) : List Offence :=
  j.scan (fun f i n => !inRange f i n (j.new f i n)) ++
  (j.c.edits.filter fun e => !entryOk e.2.2).flatMap fun e => j.edit e.1

/-! ### Check 5: agreements -/

/-- The agreements of R133; its member numbers are those of the Admission group. -/
def Judge.admission (j : Judge) : List Offence :=
  let g := j.new
  let floors := fun (f : Field) (a : Nat) => ((List.range 4).map fun p => g f p a).sum
  if !j.c.hasKind .allotment && !j.c.hasKind .headgate then []
  else
    ((List.range 16).flatMap fun a =>
      (if g Reg.Allotment.GUARANTEED a 0 = 0 then
        (if g Reg.Allotment.RES_RD a 0 != 0 || g Reg.Allotment.RES_WR a 0 != 0 then [(1 + a, 2)] else []) ++
        (List.range 4).flatMap fun p =>
          if g Reg.Headgate.FLOOR_RD p a != 0 || g Reg.Headgate.FLOOR_WR p a != 0 then [(17 + p, 1 + a)] else []
      else []) ++
      (if g Reg.Allotment.RES_RD a 0 < floors Reg.Headgate.FLOOR_RD a ||
          g Reg.Allotment.RES_WR a 0 < floors Reg.Headgate.FLOOR_WR a then [(1 + a, 2)] else [])) ++
    (List.range 4).flatMap fun p =>
      let sum := fun (f : Field) => ((List.range 16).map fun a => g f p a).sum
      if g Reg.Headgate.PORT_MBPS p 0 < sum Reg.Headgate.FLOOR_RD || g Reg.Headgate.PORT_MBPS p 0 < sum Reg.Headgate.FLOOR_WR
      then [(17 + p, 17)] else []

/-- The freeboard shares sum to 16 or less (R163). -/
def Judge.shares (j : Judge) : List Offence :=
  if 16 < ((List.range 5).map fun k => j.new (fbShare k) 0 0).sum then j.at Reg.Weir.FB_SHARE_MIG 0 0 else []

/-- The agreements of the Cistern and of the Siphon's thresholds (R195, R200). -/
def Judge.tiers (j : Judge) : List Offence :=
  let n := j.new Reg.Cistern.TIER_FRAMES 0 0
  (if n < j.new Reg.Cistern.PIN_MAX 0 0 || n < j.m.rd Reg.Cistern.PINNED_USED then j.at Reg.Cistern.TIER_FRAMES 0 0 else []) ++
  (if j.new Reg.Siphon.HOT_THRESH 0 0 ≤ j.new Reg.Siphon.WARM_THRESH 0 0 then j.at Reg.Siphon.HOT_THRESH 0 0 else [])

/-- The pool of a tract in a configuration (R212). -/
def poolIn (g : Cfg) (tract : Nat) : Nat :=
  (((List.range 16).drop 1).find? fun k => g Reg.Flume.POOL_FIRST 0 k ≤ tract && tract ≤ g Reg.Flume.POOL_LAST 0 k).getD 0

/-- Pool ranges do not overlap, and a compressed tract is striped as its pool is (R212). -/
def Judge.pools (j : Judge) : List Offence :=
  let g := j.new
  let lo := fun k => g Reg.Flume.POOL_FIRST 0 k
  let hi := fun k => g Reg.Flume.POOL_LAST 0 k
  let ks := (List.range 16).drop 1
  if !j.c.hasKind .flume && !j.c.hasKind .tractTable then []
  else
    (ks.flatMap fun a =>
      if ks.any fun b => a != b && lo a ≤ hi a && lo b ≤ hi b && lo a ≤ hi b && lo b ≤ hi a then j.at Reg.Flume.POOL_FIRST 0 a
      else []) ++
    (j.now.filter fun e => tMode e.2 = 2 && tCompress e.2).flatMap fun e =>
      let k := poolIn g e.1
      if (g Reg.Flume.POOL_STRIPE 0 0).testBit k = tStripe e.2 then []
      else j.tractAt e.1 (if k = 0 then j.at Reg.Flume.POOL_STRIPE 0 0 else j.at Reg.Flume.POOL_FIRST 0 k)

/-- The edits agree with one another and with the table before them (R183). -/
def Judge.editPairs (j : Judge) : List Offence :=
  j.c.edits.flatMap fun e =>
    let a := Tbl.getD j.was e.2.1 0
    let b := e.2.2
    let twice := j.c.edits.any fun d => d.1 < e.1 && d.2.1 = e.2.1
    let moved := tMode a != 0 && tMode b != 0 &&
      (tMode a != tMode b || tStripe a != tStripe b || tKey a != tKey b)
    if twice || moved then j.edit e.1 else []

/-- The REMOTE entries of the table after the commit and its peer slots agree (R183). -/
def Judge.remotes (j : Judge) : List Offence :=
  let g := j.new
  let rem := j.now.filter fun e => tMode e.2 = 3
  let slot := fun (e : Nat × Nat) => tPeerSlot e.2 - 1
  (rem.flatMap fun e =>
    if g Reg.TractTable.PEER_VALID 0 (slot e) = 0 then j.tractAt e.1 (j.at Reg.TractTable.PEER_VALID 0 (slot e))
    else if rem.any fun d => d.1 != e.1 && tPeerTract d.2 = tPeerTract e.2 &&
        g Reg.TractTable.PEER_ID 0 (slot d) = g Reg.TractTable.PEER_ID 0 (slot e) then
      j.tractAt e.1 (j.at Reg.TractTable.PEER_ID 0 (slot e))
    else []) ++
  (List.range 7).flatMap fun s =>
    if !j.changed Reg.TractTable.PEER_ID 0 s then []
    else
      match j.was.find? fun e => tMode e.2 = 3 && tPeerSlot e.2 = s + 1 with
      | some e => j.tractAt e.1 (j.at Reg.TractTable.PEER_ID 0 s)
      | none => []

/-- Every DIRECT or MANAGED tract names a VALID key slot (R296). -/
def Judge.keys (j : Judge) : List Offence :=
  let storage := j.c.pages.any fun e => (groupOf .tractTable).any fun q => q.kind = e.2.kind
  if !storage then []
  else
    (j.now.filter fun e => (tMode e.2 = 1 || tMode e.2 = 2) && (j.m.slot (tKey e.2)).state != 1).flatMap fun e =>
      j.tractAt e.1 [(0, 0)]

/-- The routing entries (R354). The device's own is ignored. -/
def Judge.routes (j : Judge) : List Offence :=
  if !j.c.hasKind .turnout && !j.c.hasKind .twin then []
  else
    let twin := j.new Reg.Twin.TWIN_LINKS 0 0
    (List.range 64).flatMap fun d =>
      let r := j.new Reg.Turnout.ROUTE 0 d
      let pv := r.testBit 3
      let av := r.testBit 7
      let bad := (pv && bits r 11 8 = 0) || (av && bits r 15 12 = 0) || (av && !pv) || (pv && av && bits r 2 0 = bits r 6 4) ||
        (pv && twin.testBit (bits r 2 0)) || (av && twin.testBit (bits r 6 4))
      if bad && !(j.m.flag Reg.Turnout.ID_VALID && j.m.rd Reg.Turnout.MY_ID = d) then
        if j.c.hasKind .turnout then j.at Reg.Turnout.ROUTE 0 d else j.at Reg.Twin.TWIN_LINKS 0 0
      else []

/-- The receive buffer covers the credits of every source slot (R363). -/
def Judge.credits (j : Judge) : List Offence :=
  if j.c.hasKind .turnout &&
      16384 < 2 * j.new Reg.Turnout.SRC_MAX 0 0 * ((List.range 16).map fun a => j.new Reg.Turnout.CRED 0 a).sum then
    j.at Reg.Turnout.SRC_MAX 0 0
  else []

/-- The records of shared regions agree with themselves, with the peer slots and with the tracts (R379). -/
def Judge.regions (j : Judge) : List Offence :=
  let g := j.new
  let role := fun r => g Reg.Shared.ROLE 0 r
  let here := fun r => if j.c.hasKind .shared then j.at Reg.Shared.ROLE 0 r else [(0, 0)]
  if !j.c.hasKind .shared && !j.c.hasKind .tractTable then []
  else
    ((List.range 32).flatMap fun r =>
      let mem := ((List.range 8).map fun k => g Reg.Shared.MEMBER 0 (r * 16 + k)).filter fun v => v.testBit 0
      let agents := mem.map fun v => if v.testBit 1 then 64 + bits v 7 2 * 4 + bits v 9 8 else bits v 9 8
      let home := role r = 1 && (mem.isEmpty || agents.eraseDups.length != agents.length)
      let proxy := role r = 2 && (g Reg.Shared.PORTS 0 r = 0 ||
        !((List.range 7).any fun s => g Reg.TractTable.PEER_VALID 0 s != 0 &&
          g Reg.TractTable.PEER_ID 0 s = g Reg.Shared.HOME_ID 0 r))
      if home || proxy then here r else []) ++
    (j.now.filter fun e => tMode e.2 != 0 && tShared e.2 && role (tRegion e.2) != (if tMode e.2 = 3 then 2 else 1)).flatMap
      fun e => j.tractAt e.1 (here (tRegion e.2))

/-- The agreements of a Sluice page with the curve in force (R441, R456). -/
def Judge.sluices (j : Judge) : List Offence :=
  (List.range 10).flatMap fun c =>
    if !j.c.has ⟨.sluice, c⟩ then []
    else
      let v := fun f => j.new f c 0
      let ma := fun k => j.m.act Reg.Sluice.CURVE_MA c k
      let sc := v Reg.Sluice.SC_MA
      let uv := sc * v Reg.Sluice.RSENSE_UOHM
      (if v Reg.Sluice.RETRY_MS < 100 * v Reg.Sluice.PG_TIMEOUT_MS || v Reg.Sluice.PG_TIMEOUT_MS ≤ v Reg.Sluice.INRUSH_MS ||
          ma 0 ≤ v Reg.Sluice.INRUSH_MA then j.at Reg.Sluice.INRUSH_MA c 0 else []) ++
      (if v Reg.Sluice.PG_MV ≤ v Reg.Sluice.UV_MV || sc ≤ ma 7 || (if c < 8 then 30000 else if c = 8 then 5000 else 10000) < sc ||
          (c < 8 && (uv < 10 * 10 ^ 6 || 100 * 10 ^ 6 < uv)) then j.at Reg.Sluice.SC_MA c 0 else [])

/-- Check 5 of R36, the storage of R183 apart. -/
def Judge.check5 (j : Judge) : List Offence :=
  j.admission ++ j.shares ++ j.tiers ++ j.pools ++ j.editPairs ++ j.remotes ++ j.keys ++ j.routes ++ j.credits ++ j.regions ++
    j.sluices

/-! ### The storage that a commit takes (R183, R536) -/

/-- Frames that the commit's own releases make DRAINING, ascending; a group counts by its first frame. -/
def drainFrames (z was : Mach) : List Nat :=
  (z.framesOf 7).filter fun f => (was.frame f).role != 7 && (z.frame f).next.isNone

/-- The first frames at which a whole group of 16 is in a list. -/
def groupsIn (l : List Nat) : List Nat := l.filter fun f => f % 16 = 0 && (List.range 16).all fun k => l.contains (f + k)

/-- The frame, or first frame of a group, that an entry takes: FREE ones first, then the commit's own releases; the flag says
that it is still DRAINING. `aside` lists the FREE frames set aside; before there are any, the plot reserve bounds how many
FREE frames are taken (R183, R536). -/
def pickFrame (z was : Mach) (need reserve : Nat) (aside : Option (List Nat)) : Option (Nat × Bool) :=
  let free := match aside with
    | some l => l.filter fun f => (Tbl.find z.st.frames f).isNone
    | none => if reserve + need * 262144 < z.plotFree then z.freeFrames else []
  let own := drainFrames z was
  match (if need = 16 then groupsIn free else free) with
  | f :: _ => some (f, false)
  | [] => (if need = 16 then groupsIn own else own).head?.map fun f => (f, true)

/-- Whether an edit takes the tract from NONE to a mode with storage. -/
def newTract (tracts : List (Nat × Nat)) (e : Edit) : Bool := tMode (Tbl.getD tracts e.2.1 0) = 0 && tMode e.2.2 != 0

/-- Give each new tract of the edits its storage, on a machine where the commit's releases are made: that machine, and the
frames taken from FREE or the edit that finds none. -/
def takeAll (was : Mach) (tracts : List (Nat × Nat)) (reserve : Nat) (aside : Option (List Nat)) :
    List Edit → Mach → List Nat → Mach × Sum Nat (List Nat)
  | [], z, acc => (z, .inr acc)
  | e :: l, z, acc =>
    if !newTract tracts e then takeAll was tracts reserve aside l z acc
    else
      let need := z.framesNeeded e.2.2
      let go := fun (f : Nat) (drain : Bool) => (z.giveStorage e.2.1 e.2.2 f drain).setTract e.2.1 e.2.2
      if need = 0 then takeAll was tracts reserve aside l (go 0 false) acc
      else
        match pickFrame z was need reserve aside with
        | none => (z, .inl e.1)
        | some (f, drain) =>
          takeAll was tracts reserve aside l (go f drain) (if drain then acc else acc ++ (List.range need).map fun k => f + k)

/-- The releases of a list of edits (R178, R183). -/
def releaseAll (tracts : List (Nat × Nat)) (es : List Edit) (z : Mach) : Mach :=
  z.each es fun z e =>
    let a := Tbl.getD tracts e.2.1 0
    if tMode a != 0 && tMode e.2.2 = 0 then (z.releaseTract e.2.1 a).setTract e.2.1 e.2.2 else z

/-- The commit's edits made on a copy of the machine: the frames to set aside, or the edit that finds no storage. -/
def Judge.storage (j : Judge) : Sum Nat (List Nat) :=
  (takeAll j.m j.was (j.new Reg.TractTable.FRAME_RESERVE 0 0) none j.c.edits (releaseAll j.was j.c.edits j.m) []).2

/-! ### Check 6: the admission sum (R159, R160, R169) -/

/-- What the sum depends on, in a configuration (R38). -/
def sumInputs (g : Cfg) (tracts : List (Nat × Nat)) : List Nat :=
  ([Reg.Allotment.GUARANTEED, Reg.Allotment.STRIPE_WR, Reg.Allotment.RES_RD, Reg.Allotment.RES_WR].flatMap fun f =>
    (List.range 16).map fun a => g f a 0) ++
  [g Reg.Weir.TURN_LEN 0 0, g Reg.Weir.FREEBOARD 0 0, g Reg.Twin.TWIN_LINKS 0 0] ++
  ([Reg.Flume.POOL_FIRST, Reg.Flume.POOL_LAST, Reg.Flume.POOL_MAX_FRAMES, Reg.Flume.RESERVE_CH].flatMap fun f =>
    (List.range 16).map fun k => g f 0 k) ++
  tracts.flatMap fun e => if tMode e.2 = 0 then [] else [e.1, e.2 % 16]

/-- The deliverable bandwidth in a configuration (R157, R158). -/
def Mach.dIn (m : Mach) (g : Cfg) : Nat := m.nIn * dcMbps m.oneDpc (g Reg.Weir.TURN_LEN 0 0)

/-- The pools that C3 judges: open, with a write reserve (R226). -/
def reservePools (g : Cfg) : List Nat :=
  (List.range 16).filter fun k => g Reg.Flume.POOL_MAX_FRAMES 0 k != 0 && g Reg.Flume.RESERVE_CH 0 k != 0

/-- The sector shortfall of a pool in a configuration (R160). -/
def Mach.poolShort (m : Mach) (g : Cfg) (k : Nat) : Nat :=
  shortSect g (g Reg.Flume.RESERVE_CH 0 k) (m.rd Reg.Flume.FREE_SECT 0 k)

/-- The largest sector shortfall and its pool; 0 and 0xFF where there is none (R160). DESIGN CHOICE (log entry 126): the lowest pool among
equals. -/
def Mach.worstPool (m : Mach) (g : Cfg) : Nat × Nat :=
  (reservePools g).foldl (fun b k => if b.1 < m.poolShort g k then (m.poolShort g k, k) else b) (0, 0xFF)

/-- Whether a commit makes no failing condition worse, while the Weir is degraded; while C3 fails for the result, no pool's `RESERVE_CH` may
rise and no pool's range may change (R169, R227). -/
def Judge.notWorse (j : Judge) : Bool :=
  let m := j.m
  let mir := m.mirrorFactor
  sumW j.new mir ≤ sumW j.old mir && sumWr j.new ≤ sumWr j.old &&
  afterFb j.old (m.dIn j.old) ≤ afterFb j.new (m.dIn j.new) &&
  (!m.mirrorOn || afterFb j.old (m.lTwin j.old) ≤ afterFb j.new (m.lTwin j.new)) &&
  ((m.worstPool j.new).1 = 0 ||
    (List.range 16).all fun k => j.new Reg.Flume.RESERVE_CH 0 k ≤ j.old Reg.Flume.RESERVE_CH 0 k && m.poolShort j.new k ≤ m.poolShort j.old k &&
      !j.changed Reg.Flume.POOL_FIRST 0 k && !j.changed Reg.Flume.POOL_LAST 0 k)

/-- What check 6 judges a configuration by: the Canals in D, L_twin, the data frames of each sector pool (R42, R166). -/
def Mach.capacity (m : Mach) (g : Cfg) : Nat × Nat × List Nat :=
  (m.nIn, m.lTwin g, (List.range 16).map fun k => m.rd Reg.Flume.FRAMES 0 k)

/-- Whether the commit changes a quantity of the sum (R38). -/
def Judge.sums (j : Judge) : Bool := sumInputs j.old j.was != sumInputs j.new j.now

/-- Check 6: the values of R160 are shown, whatever the outcome; false on a failure. -/
def Judge.check6 (j : Judge) : Mach × Bool :=
  let m := j.m
  let g := j.new
  let c1 := shortMbps g (sumW g m.mirrorFactor) (m.dIn g)
  let c2 := if m.mirrorOn then shortMbps g (sumWr g) (m.lTwin g) else 0
  let c3 := m.worstPool g
  let ok := (c1 = 0 && c2 = 0 && c3.1 = 0) || (m.flag Reg.Weir.DEGRADED && j.notWorse)
  let cond := if ok then 0 else if c1 != 0 then 1 else if c2 != 0 then 2 else 3
  let m := (m.wr Reg.Weir.SHORT_MBPS c1).wr Reg.Weir.SHORT_CANAL_MBPS ((c1 + max m.nIn 1 - 1) / max m.nIn 1)
  let m := (m.wr Reg.Weir.SHORT_TWIN_MBPS c2).wr Reg.Weir.SHORT_SECTORS c3.1
  let m := ((m.wr Reg.Weir.SHORT_POOL c3.2).wr Reg.Weir.SHORT_COND cond).wr Reg.Weir.SHORT_TURN_LO (m.rd Reg.Clock.TURN_INDEX % 2 ^ 32)
  if ok then (m, true)
  else
    let m := m.inc Reg.Weir.OVERBOOK_REJECTS
    (m.event .weir 0 0x0C13 cond (if cond = 1 then c1 else if cond = 2 then c2 else c3.1), false)

end Sys2Proof.Machine
end

