-- ==== Sys2Proof/Machine/Commit.lean ====
section
/-! DEFINITION. Commits (R33 to R42): the latch, validation, rejection, and the second validation of R42. -/

namespace Sys2Proof.Machine

/-! ### The latch (R33, R34, R41) -/

/-- The member number of a page in its group, 0 where it is in none. -/
def memberNo (p : PageId) : Nat :=
  (([PageKind.weir, .tractTable, .turnout, .power].map fun k => groupOf k).findSome? fun l => l.findIdx? fun q => q = p).getD 0

/-- The pages a write to a page's `COMMIT` would include: the page, and for an owner every member with `STAGE_DIRTY` (R34). -/
def Mach.commitPages (m : Mach) (p : PageId) : List (Nat × PageId) :=
  match groupOf p.kind with
  | [] => [(memberNo p, p)]
  | own :: mem =>
    (0, own) :: ((mem.filter fun q => m.flag (Reg.Hdr.STAGE_DIRTY q.kind) q.inst).map fun q => (memberNo q, q))

/-- A copy of the TURN and HALT fields in the STAGE area of some pages (R33). -/
def Mach.latchOf (m : Mach) (ps : List PageId) : List (Nat × Nat) :=
  ps.foldl (fun t p => (commitFields p.kind).foldl (fun t f => f.idx.foldl (fun t n =>
    Tbl.putD t (f.addr p.inst n) (m.rd f p.inst n) (f.resetAt p.inst n)) t) t) []

/-- Show how many commits are PENDING (R534). -/
def Mach.showCommits (m : Mach) : Mach := m.wr Reg.Device.COMMITS_PENDING m.commits.length

/-- Post a result in a page. -/
def Mach.post (m : Mach) (code word member : Nat) (p : PageId) : Mach :=
  let m := (m.wr (Reg.Hdr.CODE p.kind) code p.inst).wr (Reg.Hdr.WORD p.kind) word p.inst
  (m.wr (Reg.Hdr.MEMBER p.kind) member p.inst).wr (Reg.Hdr.TURN_LO p.kind) (m.rd Reg.Clock.TURN_INDEX % 2 ^ 32) p.inst

/-- A write of 1 to `GO`: a page that is already in a PENDING commit ignores it; else the staged sets are latched (R33, R34,
R41). -/
def Mach.commitGo (m : Mach) (p : PageId) : Mach :=
  if m.pagePending p then m
  else
    let all := m.commitPages p
    let ps := all.filter fun e => !m.pagePending e.2
    let clash := (all.find? fun e => m.pagePending e.2).map fun e => e.1
    let c : Commit := { page := p, pages := ps, clash := clash, latch := m.latchOf (ps.map fun e => e.2)
                        locks := (ps.map fun e => e.2).filter fun q => m.flag (Reg.Hdr.LOCKED q.kind) q.inst
                        halts := (ps.map fun e => e.2).filter fun q => (commitFields q.kind).any fun f =>
                          f.attr = .halt && f.idx.any fun n => m.rd f q.inst n != m.act f q.inst n }
    let m := m.each (ps.map fun e => e.2) fun m q =>
      let m := (m.wr (Reg.Hdr.STAGE_DIRTY q.kind) 0 q.inst).wr (Reg.Hdr.COMMIT_PENDING q.kind) 1 q.inst
      m.post 1 0xFF 0xFF q
    { m with commits := m.commits ++ [c] }.showCommits

/-- COMMIT_GO. -/
def execCommitGo (t : Nat) (src : Source) (p : PageId) (s : State) : Out := s.run t fun m => m.ctlWrite p src fun m => m.commitGo p

/-! ### Validation (R36, R37, R40) -/

/-- The codes of `COMMIT_RESULT`. -/
def rejDisagree : Nat := 2
def rejHaltOnly : Nat := 3
def rejOverbook : Nat := 4
def rejRange : Nat := 5
def rejLocked : Nat := 6
def rejBusy : Nat := 7

/-- A commit leaves the PENDING set. -/
def Mach.dropCommit (m : Mach) (c : Commit) : Mach :=
  let m : Mach := { m with commits := m.commits.filter fun d => d.page != c.page }
  (m.each (c.pages.map fun e => e.2) fun m q => m.wr (Reg.Hdr.COMMIT_PENDING q.kind) 0 q.inst).showCommits

/-- A rejection is posted at once in every included page; their STAGE is dirty again (R33, R37). -/
def Mach.reject (m : Mach) (c : Commit) (code word member : Nat) : Mach :=
  let m := m.dropCommit c
  let m := m.each (c.pages.map fun e => e.2) fun m q => (m.post code word member q).wr (Reg.Hdr.STAGE_DIRTY q.kind) 1 q.inst
  m.pageEvent c.page 2 (code + word * 2 ^ 8 + member * 2 ^ 16)

/-- A rejection for the first offence of a check. -/
def Mach.rejectAt (m : Mach) (c : Commit) (code : Nat) (o : Offence) : Mach :=
  m.reject c code (if o.2 = 0 then 0xFF else o.2 - 1) o.1

/-- The edit that finds no storage, an offence of check 5 as every other disagreement is (R36, R183). -/
def Judge.noStorage (j : Judge) : List Offence :=
  match j.storage with
  | .inl e => j.edit e
  | .inr _ => []

/-- The first failing check of 1 to 5 with its first offence (R36). -/
def Judge.fails (j : Judge) : Option (Nat × Offence) :=
  [(rejBusy, j.check1), (rejLocked, j.check2), (rejHaltOnly, j.check3), (rejRange, j.check4),
   (rejDisagree, j.check5 ++ j.noStorage)].findSome?
    fun e => (firstOffence e.2).map fun o => (e.1, o)

/-- Validation passes: the commit waits for the applying boundary with its frames set aside (R38, R536). -/
def Mach.passCommit (m : Mach) (c : Commit) (judged : Option (Nat × Nat × List Nat)) (frames : List Nat) : Mach :=
  { m with commits := m.commits.map fun d =>
      if d.page = c.page then { d with passed := true, judged := judged, frames := frames } else d }

/-- Check 6, where the commit changes a quantity of the sum; then the commit passes (R36, R38). -/
def Judge.last (j : Judge) (frames : List Nat) : Mach :=
  if j.sums then
    match j.check6 with
    | (m, true) => m.passCommit j.c (some (m.capacity j.new)) frames
    | (m, false) => m.reject j.c rejOverbook 0xFF 0xFF
  else j.m.passCommit j.c none frames

/-- Validation of a commit. -/
def Mach.validate (m : Mach) (c : Commit) : Mach :=
  let j := m.judge c
  match j.fails with
  | some (code, o) => m.rejectAt c code o
  | none =>
    match j.storage with
    | .inl e => m.rejectAt c rejDisagree ((firstOffence (j.edit e)).getD (0, 0))
    | .inr frames => j.last frames

/-- COMMIT_VALIDATE: the arbiter validates the oldest commit that has not been validated (R36, R40). -/
def commitValidate (m : Mach) : Mach :=
  match m.commits.find? fun c => !c.passed with
  | some c => m.validate c
  | none => m

def execCommitValidate (t : Nat) (s : State) : Out := s.run t commitValidate

/-! ### Capacity that changes (R42, R166) -/

/-- A machine whose passed commits are those that stand before a commit. -/
def Mach.upTo (m : Mach) (c : Commit) : Mach :=
  { m with commits := m.commits.takeWhile fun d => d.page != c.page }

/-- A passed commit that ran check 6 is validated again where the capacity is no longer the one it was judged by; one that does
not fit any more is rejected (R42). -/
def Mach.recheck (m : Mach) : Mach :=
  m.each (m.commits.filter fun c => c.judged.isSome && !c.applying) fun m c =>
    let j := (m.upTo c).judge c
    if c.judged = some (m.capacity j.new) then m
    else
      match j.check6 with
      | (_, true) => m
      | (z, false) => ({ z with commits := m.commits }).reject c rejOverbook 0xFF 0xFF

/-- WEIR_RECOMPUTE: D, L_twin and the free sectors of every pool are computed again (R166); commits that have passed check 6
are validated again (R42), and links judge their replay caps again (R335). -/
def weirRecompute (m : Mach) : Mach :=
  let m := (m.recompute).each (List.range 16) fun m k => m.showPool k
  (m.each (List.range 8) fun m l => m.judgeCap l).recheck

def execWeirRecompute (t : Nat) (s : State) : Out := s.run t weirRecompute

end Sys2Proof.Machine
end

