-- ==== Sys2Proof/Machine/Turn.lean ====
section
/-! DEFINITION. Turn boundaries and the turn beacon (R15, R16), the application of commits (R38), HALT resumption (R44), and the
loss and return of island clocks (R13, R505). -/

namespace Sys2Proof.Machine

/-! ### Applying a commit (R9, R38) -/

/-- The ACTIVE copies of a page take a commit's latched values. -/
def Mach.activate (m : Mach) (c : Commit) (p : PageId) : Mach :=
  m.each (commitFields p.kind) fun m f => m.each f.idx fun m n => m.wr f.act (c.val f p.inst n) p.inst n

/-- The machine with the ACTIVE copies of every passed commit in place: the configuration of the turn that begins. -/
def Mach.nextConfig (m : Mach) : Mach :=
  m.each (m.commits.filter fun c => c.passed) fun m c => m.each c.pages fun m e => m.activate c e.2

/-- A tract whose `MIRROR` changes marks every region of 256 KB in the away map (R430). -/
def Mach.markTract (m : Mach) (n : Nat) : Mach :=
  if m.keepsAway then
    let m := m.modTwin fun x => { x with away := (List.range 4096).foldl (fun l k => insertNat (n * 4096 + k) l) x.away }
    m.wr Reg.Twin.AWAY_REGIONS m.twin.away.length
  else m

/-- The edits of a commit apply together: requests accepted before complete under the old entries, releases are made, new
tracts take the storage set aside (R183, R184, R536). -/
def Mach.applyEdits (m : Mach) (c : Commit) : Mach :=
  let es := c.edits.filter fun e => m.tract e.2.1 != e.2.2
  let was := m.st.tracts
  let m := m.each es fun m e => if tMode (m.tract e.2.1) = 0 then m else m.settleTract e.2.1
  let old := m
  let m : Mach := { m with commits := m.commits.map fun d => if d.page = c.page then { d with frames := [] } else d }
  let m := (takeAll old was 0 (some c.frames) es (releaseAll was es m) []).1
  let m := m.each es fun m e => m.setTract e.2.1 e.2.2
  let m := m.each es fun m e =>
    if tMirror (liveEntry was e.2.1) != tMirror (liveEntry m.st.tracts e.2.1) then m.markTract e.2.1 else m
  m.showFrames.rekeyRelease

/-- A region whose `ROLE` a commit has set begins to form, or is OFF (R391). -/
def Mach.applyRole (m : Mach) (was r : Nat) : Mach :=
  let now := m.act Reg.Shared.ROLE 0 r
  if now = 0 then (if was = 0 then m else m.setReg r 0)
  else if m.rd Reg.Shared.REG_STATE 0 r = 0 then m.form r
  else m

/-- The islands' clocks follow `PARK`: an island that does not run and lock when it is unparked is lost; one whose domain is off is not
(R13, R25). `fails` lists islands whose clock does not come up. -/
def Mach.applyPark (m : Mach) (lose : Mach → Nat → Mach) (fails : List Nat) : Mach :=
  let was := m.rd Reg.Clock.ISLAND_PARKED
  let now := m.act Reg.Clock.PARK
  (m.wr Reg.Clock.ISLAND_PARKED now).each (List.range 40) fun m i =>
    if was.testBit i && !now.testBit i && m.islandPowered i && (fails.contains i || !m.flag (pllOf i)) then lose m i else m

/-- What a page's block does when its new configuration applies. `m` is the machine before. -/
def Mach.applyPage (m : Mach) (lose : Mach → Nat → Mach) (fails : List Nat) (c : Commit) (p : PageId) : Mach :=
  let n := m.activate c p
  match p.kind with
  | .clock => n.applyPark lose fails
  | .weir | .allotment | .headgate | .twin => n.showSum
  | .tractTable => n.applyEdits c
  | .cistern => if m.act Reg.Cistern.TIER_FRAMES = n.act Reg.Cistern.TIER_FRAMES then n else n.tierChanged
  | .flume => n.each (List.range 16) fun m k => m.showPool k
  | .turnout => n.routesApplied fun d => (m.pathUse d, m.pathLink d)
  | .shared => n.each (List.range 32) fun n r => n.applyRole (m.act Reg.Shared.ROLE 0 r) r
  | .device | .hostPort | .transCache | .siphon | .levee | .furrow | .canal | .crypto | .rekey | .culvert | .sluice | .power
  | .gauge | .dataMover | .mailbox => n

/-! ### Resuming after HALT (R44) -/

/-- Whether a block stands HALTED by its own state: a Canal that is OFF, OUT_OF_SERVICE or FAILED, a Sluice channel that is
OFF, ABSENT or LATCHED, a Twin that has detached (R291, R419, R452). -/
def Mach.standsHalted (m : Mach) (p : PageId) : Bool :=
  let s := m.fsm p.kind p.inst
  match p.kind with
  | .canal => s = 0 || s = 6 || s = 7
  | .sluice => s = 0 || s = 1 || s = 6
  | .twin => s = 6 || (s = 0 && !m.enabled .twin && m.rd Reg.Twin.ROLE != 0)
  | _ => false

/-- What a block does when it resumes. -/
def Mach.goOn (m : Mach) (p : PageId) : Mach :=
  match p.kind with
  | .siphon => m.showSip
  | .furrow => m.setFsm .furrow m.lev.furrowWas
  | .rekey => m.rekeyPause
  | .turnout => (m.turn.tx.map fun (e : Nat × TxFlow) => (e.1, e.2.wait.length)).foldl (fun m e => m.pump (e.1 / 16) (e.1 % 16) e.2) m
  | .twin => m.twinBack
  | _ => m

/-- At a turn boundary a page whose `HALT` is clear leaves HALTED, unless a commit with a changed HALT field of it is PENDING or
applies at this boundary (R44). -/
def Mach.resumePage (m : Mach) (p : PageId) : Mach :=
  if hasHalt p.kind && m.halted p.kind p.inst && !m.flag (Reg.Hdr.HALT p.kind) p.inst && !m.standsHalted p &&
      !(m.commits.any fun c => c.halts.contains p) then
    ((m.wr (Reg.Hdr.HALTED p.kind) 0 p.inst).pageEvent p 4 0).goOn p
  else m

/-! ### Loss of an island's clock (R13) -/

/-- The device-fatal islands. -/
def fatalIsland (i : Nat) : Bool := [4, 6, 7, 37, 38, 39].contains i

/-- The consequence of a lost island (R13); the loss of a device-fatal one is told the peer with LEAVE, for reason 2 (R416; the number is a
DESIGN CHOICE, log entry 137). -/
def Mach.islandGone (m : Mach) (i : Nat) : Mach :=
  if i < 4 then m.portDown i 4
  else if 8 ≤ i && i ≤ 11 then m.each (List.range 4) fun m k => m.leaveNow (4 * (i - 8) + k) 6
  else if i = 12 then (m.modSt fun s => { s with cisTier := [], cisLines := [] }).showCis
  else if 13 ≤ i && i ≤ 28 then m.leaveNow (i - 13) 6
  else if 29 ≤ i && i ≤ 36 then m.linkBroken (i - 29) 5
  else if fatalIsland i then
    let m : Mach := { m with clk := { m.clk with holdDown := true, resetWait := true } }
    let m := m.each m.twinUp fun m l => m.sendData l (.recs (m.rd Reg.Twin.TX_NEXT) [{ op := 0x10, data := 2 }])
    m.each (List.range 4) fun m p => (m.portDown p 4).modPort p fun x => { x with holdQuiet := true }
  else m

/-- The PLL status word: bits [31:0] of the register at 0xB38 (R13, R25). -/
def Mach.pllWord (m : Mach) : Nat :=
  m.rd Reg.Clock.CORE_LOCK + 2 * m.rd Reg.Clock.CISTERN_LOCK + 4 * m.rd Reg.Clock.MGMT_LOCK + 8 * m.rd Reg.Clock.DDR_LOCK +
    16 * m.rd Reg.Clock.CULVERT_LOCK + 32 * m.rd Reg.Clock.XTAL_OK + m.rd Reg.Clock.CANAL_MHZ * 2 ^ 16

/-- An island loses its clock: its bit, its event and the consequence (R13). -/
def Mach.islandLost (m : Mach) (i : Nat) : Mach :=
  let m := if i < 4 then m.markCall i else m
  let m := m.wr Reg.Clock.ISLAND_LOST (setBit (m.rd Reg.Clock.ISLAND_LOST) i true)
  let m : Mach := { m with clk := { m.clk with lost := setBit m.clk.lost i true } }
  let m := m.raise .clock 0 0x4C10 i m.tide32 m.pllWord
  m.islandGone i

/-- ISLAND_CLOCK_LOSS: an island's clock stops, or, where `pll`, the PLL that clocks it loses lock, and with it every island that runs
from that PLL. A parked, gated or powered-down island is not lost (R13). -/
def islandClockLoss (i : Nat) (pll : Bool) (m : Mach) : Mach :=
  if pll then
    let gone := (List.range 40).filter fun k => pllOf k = pllOf i && m.islandRuns k
    (m.wr (pllOf i) 0).each gone fun m k => m.islandLost k
  else if m.islandRuns i then m.islandLost i
  else m

def execIslandClockLoss (t : Nat) (i : Fin 40) (pll : Bool) (s : State) : Out := s.run t (islandClockLoss i pll)

/-! ### The beacon (R16) -/

/-- The pages whose block an island holds. -/
def pagesOf (i : Nat) : List PageId := allPages.filter fun p => islandOf p.kind p.inst = i

/-- A page of an island takes its part of a commit, once. -/
def Mach.applyOnce (m : Mach) (fails : List Nat) (page p : PageId) : Mach :=
  match m.commits.find? fun c => c.page = page with
  | some c =>
    if c.took.contains p then m
    else
      let m : Mach := { m with commits := m.commits.map fun d => if d.page = page then { d with applying := true, took := d.took ++ [p] } else d }
      m.applyPage Mach.islandLost fails c p
  | none => m

/-- An island applies its part of every commit that has passed validation (R16, R38). -/
def Mach.applyAt (m : Mach) (fails : List Nat) (i : Nat) : Mach :=
  m.each (m.commits.filter fun c => c.passed) fun m c =>
    m.each ((c.pages.map fun e => e.2).filter fun p => islandOf p.kind p.inst = i) fun m p => m.applyOnce fails c.page p

/-- An island takes the snapshots that wait, which reflect the commits applied there (R46). -/
def Mach.freezeAt (m : Mach) (i : Nat) : Mach :=
  m.each ((pagesOf i).filter fun p => m.flag (Reg.Hdr.SNAP_PENDING p.kind) p.inst) fun m p => m.freeze p

/-- Blocks of an island that halted resume (R44). -/
def Mach.resumeAt (m : Mach) (i : Nat) : Mach := m.each (pagesOf i) fun m p => m.resumePage p

/-- What an island's per-turn ledgers do on its beacon arrival (R16, R163, R242, R312, R413, R414). -/
def Mach.ledgersAt (m : Mach) (i : Nat) : Mach :=
  if i = 6 then m.modLev fun x => { x with passLeft := 0, repairs := x.repairs.map fun q => { q with turns := q.turns + 1 } }
  else if i = 7 then
    let m := if m.twin.waitTurn then m.inc Reg.Twin.MIRROR_WAIT_TURNS else m
    m.modTwin fun x => { x with rsUsed := 0, divTold := false, waitTurn := false }
  else if i = 8 then m.modCry fun x => { x with rkUsed := 0 }
  else if 13 ≤ i && i ≤ 28 then m.modCanal (i - 13) fun x => { x with fbUsed := 0 }
  else if 29 ≤ i && i ≤ 36 then m.modLink (i - 29) fun x => { x with dropTold := false }
  else m

/-- The boundary reaches island 4: passed commits are validated again where capacity fell (R42); what has passed applies, on the islands
that the beacon has reached as well; the next boundary is one turn length away; the Weir ends the turn and begins the next (R15, R16, R134,
R149, R158, R162, R163, R167). -/
def Mach.weirIsland (m : Mach) (fails : List Nat) : Mach :=
  let was := m.fits
  let m := m.weirEnds.recheck
  let z := m.nextConfig
  let m : Mach := { m with commits := m.commits.map fun c => if c.passed then { c with applying := true } else c }
  let m := m.each ((List.range 40).filter fun i => !m.clk.beaconLeft.contains i) fun m i => m.applyAt fails i
  let m : Mach := { m with clk := { m.clk with nextTurn := m.rd Reg.Clock.TURN_START + m.act Reg.Weir.TURN_LEN * 250 } }
  (((m.resumeAt 4).weirBegins z was).reloadPools z).freezeAt 4

/-- What a host port's island does: its Headgate reloads the floors, judges its port cap, and ages what it holds (R134, R146,
R151). -/
def Mach.portIsland (m : Mach) (p : Nat) : Mach :=
  let z := m.nextConfig
  ((m.reloadFloors z p).portCap z p).heldBoundary p

/-- While PAIRED the digests go out again where a commit has changed them (R413). -/
def Mach.tellDigests (m : Mach) : Mach :=
  let n := m.showDigests
  if n.fsm .twin = 4 && (n.rd Reg.Twin.ADM_DIGEST != m.rd Reg.Twin.ADM_DIGEST || n.rd Reg.Twin.MIRROR_DIGEST != m.rd Reg.Twin.MIRROR_DIGEST)
  then n.sendHello else n

/-- When every island has the beacon the results are posted (R38). -/
def Mach.postApplied (m : Mach) : Mach :=
  let m := if m.rd Reg.Twin.ROLE != 0 && m.commits.any fun c => c.applying then m.tellDigests else m
  m.each (m.commits.filter fun c => c.applying) fun m c =>
    let m := m.dropCommit c
    let m := m.each (c.pages.map fun e => e.2) fun m q => m.post 0 0xFF 0xFF q
    m.pageEvent c.page 1 (0xFF * 2 ^ 8 + 0xFF * 2 ^ 16)

/-- Show the largest spread of beacon arrivals, never above 30 (R25). -/
def Mach.showSkew (m : Mach) : Mach :=
  let d := min 30 (m.clk.lastAt - m.clk.firstAt)
  if m.rd Reg.Clock.BEACON_SKEW < d then (m.wr Reg.Clock.BEACON_SKEW d).wr Reg.Clock.SKEW_ISLAND m.clk.lastIsland else m

/-- A device-wide snapshot is counted once every page has frozen (R47). -/
def Mach.snapPosted (m : Mach) : Mach :=
  if m.snapDev then
    let m : Mach := { m with snapDev := false }
    (m.inc Reg.Device.DEV_SNAP_SEQ).wr Reg.Device.DEV_SNAP_TURN (m.rd Reg.Clock.TURN_INDEX % 2 ^ 32)
  else m

/-- The beacon reaches an island (R16). -/
def Mach.reach (m : Mach) (fails : List Nat) (i : Nat) : Mach :=
  if !m.clk.beaconLeft.contains i then m
  else
    let m : Mach := { m with clk := { m.clk with beaconLeft := m.clk.beaconLeft.filter fun k => k != i } }
    let m := m.ledgersAt i
    let m := if i < 4 then m.portIsland i else m
    let m := if i = 4 then m.weirIsland fails else ((m.applyAt fails i).resumeAt i).freezeAt i
    if m.clk.beaconLeft.isEmpty then m.postApplied.showSkew.snapPosted else m

/-- The tide of an arrival, in units of 100 ps after the boundary, is noted for the skew. -/
def Mach.arrivalAt (m : Mach) (i offset : Nat) : Mach :=
  let first := m.clk.beaconLeft.length = 40
  let c := m.clk
  let late := first || c.lastAt ≤ offset
  { m with clk := { c with
    firstAt := if first then offset else min c.firstAt offset
    lastAt := if late then offset else c.lastAt
    lastIsland := if late then i else c.lastIsland } }

/-- BEACON_ARRIVAL: the beacon of the latest boundary reaches an island, `offset` units of 100 ps after the boundary and at most
3 ns after the first arrival; `fails` lists islands whose clock does not come up when it is unparked (R13, R16). -/
def beaconArrival (i offset : Nat) (fails : List Nat) (m : Mach) : Mach :=
  if m.clk.beaconLeft.contains i then (m.arrivalAt i offset).reach fails i else m

def execBeaconArrival (t : Nat) (i : Fin 40) (offset : Nat) (fails : List (Fin 40)) (s : State) : Out :=
  s.run t (beaconArrival i offset (fails.map fun k => k.val))

/-- Islands that have not had the last beacon have it by now (R16). -/
def Mach.finishBeacon (m : Mach) : Mach := m.each m.clk.beaconLeft fun m i => m.reach [] i

/-! ### The boundary (R15) -/

/-- What ends with a turn in the blocks that wait for a boundary (R200, R201, R213, R282, R313). -/
def Mach.turnEnds (m : Mach) : Mach :=
  let m := m.each (List.range 16) fun m c => m.canalBoundary c
  let m := m.rekeyBoundary.tmBoundary.poolBoundary.releaseUnused
  let m := m.modSip fun x => { x with decayTurns := x.decayTurns + 1 }
  if m.flag Reg.TractTable.WRITE_HOLD then m.inc Reg.TractTable.HOLD_TURNS else m

/-- TURN_BOUNDARY: the turn timer expires. The boundary's beacon goes out to all 40 islands (R15, R16). -/
def turnBoundary (m : Mach) : Mach :=
  if !m.clk.running || m.tide < m.clk.nextTurn then m
  else
    let m := m.finishBeacon.turnEnds.recheck
    let b := m.clk.nextTurn
    let m := (m.inc Reg.Clock.TURN_INDEX).wr Reg.Clock.TURN_START b
    let m : Mach := { m with clk := { m.clk with nextTurn := b + m.act Reg.Weir.TURN_LEN * 250, beaconLeft := List.range 40 } }
    m.powerUpdate

def execTurnBoundary (t : Nat) (s : State) : Out := s.run t turnBoundary

end Sys2Proof.Machine
end

