-- ==== Sys2Proof/Machine/PageCtl.lean ====
section
/-! DEFINITION. The controls that every page has: HALT, SOFT_CLEAR, LOCK, snapshots, event status, MSI-X vectors (R43 to R48, R76);
and the routing table that the management core computes (R355). -/

namespace Sys2Proof.Machine

/-! ### HALT (R44) -/

/-- What a block does at once when it is asked to halt. -/
def Mach.haltNow (m : Mach) (p : PageId) : Mach :=
  let i := p.inst
  match p.kind with
  | .canal =>
    if m.standsHalted p then m.reachHalted .canal i
    else m.requestLeave (pairOf i (m.flag Reg.Canal.PAIR i)) i 1 (m.flag Reg.Canal.OOS_FORCE i)
  | .sluice => m.offReq i (m.flag Reg.Sluice.OFF_FORCE i)
  | .twin => m.twinDetach 2
  | .culvert => m.linkHalt i
  | .rekey => m.rekeyPause
  | _ => m

/-- PAGE_HALT_REQUEST: `HALT` is written. A page without `HAS_HALT` only stores the bit (R44). 0 returns a detached Twin to WAITING
(R419). -/
def Mach.haltWrite (m : Mach) (p : PageId) (halt : Bool) : Mach :=
  let m := m.wb (Reg.Hdr.HALT p.kind) halt p.inst
  if halt && hasHalt p.kind then m.haltNow p else if p.kind = .twin then m.twinBack else m

def execPageHaltRequest (t : Nat) (src : Source) (p : PageId) (halt : Bool) (s : State) : Out :=
  s.run t fun m => m.ctlWrite p src fun m => m.haltWrite p halt

/-- Whether a block that is asked to halt holds no work any more, as its chapter says. -/
def Mach.idle (m : Mach) (p : PageId) : Bool :=
  match p.kind with
  | .hostPort => (m.port p.inst).tags.isEmpty
  | .siphon => m.sip.tmRead.isNone && m.sip.tmOut.isEmpty && !m.stepOn 0 &&
      (match m.sip.move with | some mv => mv.op != 3 || mv.atLine != 64 | none => true)
  | .flume => match m.sip.move with | some mv => mv.op != 3 || mv.atLine != 64 | none => true
  | .furrow => !m.furrowBusy
  | .rekey => m.cry.rkRead.isNone
  | .turnout => true
  | .twin => !m.mirrorOn && m.twin.detaching.isNone
  | .canal | .sluice => m.standsHalted p
  | _ => false

/-- PAGE_HALTED: the block has finished what it held (R44). -/
def pageHalted (p : PageId) (m : Mach) : Mach :=
  if !hasHalt p.kind || !m.flag (Reg.Hdr.HALT p.kind) p.inst || m.halted p.kind p.inst then m
  else if p.kind = .culvert then m.linkHalt p.inst
  else if !m.idle p then m
  else
    let m := m.reachHalted p.kind p.inst
    match p.kind with
    | .siphon => m.showSip
    | .furrow => (m.modLev fun x => { x with furrowWas := m.fsm .furrow }).setFsm .furrow 3
    | _ => m

def execPageHalted (t : Nat) (p : PageId) (s : State) : Out := s.run t (pageHalted p)

/-! ### SOFT_CLEAR and locks (R43, R45) -/

/-- A `SOFT_CLEAR` that is not ignored: STAGE takes the ACTIVE values, counters that clear do so (R43, R535). -/
def Mach.softClear (m : Mach) (p : PageId) : Mach :=
  if m.flag (Reg.Hdr.COMMIT_PENDING p.kind) p.inst then m
  else
    let m := m.each (commitFields p.kind) fun m f => m.each f.idx fun m n => m.wr f (m.act f p.inst n) p.inst n
    let m := if p.kind = .sluice then
        m.each [Reg.Sluice.CURVE_MA, Reg.Sluice.CURVE_US] fun m f => m.each f.idx fun m n => m.wr f (m.act f p.inst n) p.inst n
      else m
    let m := m.each ((ownFields p.kind).filter fun f => f.clears) fun m f =>
      m.each f.idx fun m n => m.wr f (f.resetAt p.inst n) p.inst n
    let m := if p.kind = .canal then { m with rows := Tbl.del m.rows p.inst } else m
    let m := if p.kind = .power then { m with pw := { m.pw with inNs := [], since := m.tide } } else m
    m.wr (Reg.Hdr.STAGE_DIRTY p.kind) 0 p.inst

/-- SOFT_CLEAR. -/
def execSoftClear (t : Nat) (src : Source) (p : PageId) (s : State) : Out :=
  s.run t fun m => m.ctlWrite p src fun m => m.softClear p

/-- Lock a page; its event is recorded once (R45). -/
def Mach.lockPage (m : Mach) (src : Nat) (p : PageId) : Mach :=
  if m.flag (Reg.Hdr.LOCKED p.kind) p.inst then m
  else ((m.wr (Reg.Hdr.LOCKED p.kind) 1 p.inst).showLocked).pageEvent p 5 src

/-- PAGE_LOCK. -/
def execPageLock (t : Nat) (src : Source) (p : PageId) (s : State) : Out :=
  s.run t fun m => m.ctlWrite p src fun m => m.lockPage src p

/-- LOCK_ALL: every page is locked (R45). -/
def execLockAll (t : Nat) (src : Source) (s : State) : Out :=
  s.run t fun m => m.stageWrite .device 0 src fun m => m.each allPages fun m p => m.lockPage src p

/-! ### Snapshots (R46, R47) -/

/-- A snapshot of every page at one common boundary: a beacon on its way arrives first (R47). -/
def Mach.snapAll (m : Mach) : Mach :=
  let m := m.finishBeacon
  let m : Mach := { m with snapDev := true }
  m.each allPages fun m p => m.wr (Reg.Hdr.SNAP_PENDING p.kind) 1 p.inst

/-- A write of 1 to `TAKE` of a page; in the DEVICE page it asks for a snapshot of every page (R46, R47). -/
def Mach.snapTake (m : Mach) (p : PageId) : Mach :=
  if p.kind = .device then m.snapAll else m.wr (Reg.Hdr.SNAP_PENDING p.kind) 1 p.inst

/-- SNAP_TAKE. -/
def execSnapTake (t : Nat) (src : Source) (p : PageId) (s : State) : Out :=
  s.run t fun m => m.ctlWrite p src fun m => m.snapTake p

/-- DEVICE_SNAP_TAKE. -/
def execDeviceSnapTake (t : Nat) (src : Source) (s : State) : Out := s.run t fun m => m.written src Mach.snapAll

/-! ### Event status and vectors (R51, R76) -/

/-- A W1C write to `EVT_STATUS`; the vector goes out again where an enabled event remains (R76). -/
def Mach.evtClear (m : Mach) (p : PageId) (mask : Nat) : Mach :=
  let st := m.rd (Reg.Hdr.EVT_STATUS p.kind) p.inst
  let m := m.wr (Reg.Hdr.EVT_STATUS p.kind) (st - (st &&& mask)) p.inst
  let m : Mach := { m with blkEvt := m.blkEvt.filter fun e => e.1 != pageNo p || !mask.testBit (4 + blockBit e.2) }
  if m.evtActive p then m.sendPage p else m

/-- EVT_STATUS_CLEAR. -/
def execEvtStatusClear (t : Nat) (src : Source) (p : PageId) (mask : BitVec 64) (s : State) : Out :=
  s.run t fun m => m.ctlWrite p src fun m => m.evtClear p mask.toNat

/-- The mask bit of a vector of a port's function is written: 1 masks it; with 0 it is unmasked, and sent where its PBA bit is set
(R76). -/
def Mach.vecMask (m : Mach) (p vec : Nat) (masked : Bool) : Mach :=
  let x := m.port p
  if masked then m.setPort p { x with vecOpen := x.vecOpen.filter fun v => v != vec }
  else
    let m := m.setPort p { x with vecOpen := if x.vecOpen.contains vec then x.vecOpen else x.vecOpen ++ [vec]
                                  vecPend := x.vecPend.filter fun v => v != vec }
    if x.vecPend.contains vec then m.sendVec p vec else m

/-- MSIX_UNMASK: a vector of a port's function is unmasked (R76). -/
def msixUnmask (p vec : Nat) (m : Mach) : Mach := m.vecMask p vec false

def execMsixUnmask (t : Nat) (p : Port) (vec : Fin 133) (s : State) : Out := s.run t (msixUnmask p vec)

/-! ### Routes (R355) -/

/-- The weight of a link: its cost (1 at width 4, 2 at width 2) times 64, and one link crossed. -/
def linkWeight (w : Nat) : Nat := (if w = 4 then 64 else 128) + 1

/-- No path. -/
def farAway : Nat := 2 ^ 20

/-- One round of relaxation over the link-state database, paths through device `me` left out. -/
def relax (db : List (Nat × List (Nat × Nat × Nat))) (me : Nat) (d : List Nat) : List Nat :=
  db.foldl (fun d e =>
    if e.1 = me then d
    else e.2.foldl (fun d l => setAt d l.2.1 (min (d.getD l.2.1 farAway) (d.getD e.1 farAway + linkWeight l.2.2))) d) d

/-- The least weights from a device to every device. -/
def weightsFrom (db : List (Nat × List (Nat × Nat × Nat))) (me from_ : Nat) : List Nat :=
  (List.range 63).foldl (fun d _ => relax db me d) (setAt (List.replicate 64 farAway) from_ 0)

/-- The paths to a device: the first link and the weight of each, where the path is at most 15 links long. -/
def pathsTo (firsts : List (Nat × List Nat)) (d : Nat) : List (Nat × Nat) :=
  (firsts.map fun e => (e.1, e.2.getD d farAway)).filter fun e => e.2 < farAway && e.2 % 64 ≤ 15

/-- The path of least cost, ties to the lower link number. -/
def leastCost : List (Nat × Nat) → Option (Nat × Nat)
  | [] => none
  | a :: l =>
    match leastCost l with
    | none => some a
    | some b => some (if b.2 / 64 < a.2 / 64 || (b.2 / 64 = a.2 / 64 && b.1 < a.1) then b else a)

/-- The routing entry for a device (R354, R355). -/
def routeEntry (firsts : List (Nat × List Nat)) (d : Nat) : Nat :=
  let ps := pathsTo firsts d
  match leastCost ps with
  | none => 0
  | some a =>
    a.1 + 8 + a.2 % 64 * 2 ^ 8 +
    match leastCost (ps.filter fun e => e.1 != a.1) with
    | none => 0
    | some b => b.1 * 16 + 128 + b.2 % 64 * 2 ^ 12

/-- The routing table that the link-state database gives (R355). -/
def Mach.routesNow (m : Mach) : List Nat :=
  let me := m.rd Reg.Turnout.MY_ID
  let firsts := m.ownLinks.map fun l => (l.1, (weightsFrom m.turn.lsdb me l.2.1).map fun w => min farAway (w + linkWeight l.2.2))
  (List.range 64).map fun d => if d = me then 0 else routeEntry firsts d

/-- ROUTE_RECOMPUTE: while `AUTO_ROUTE` = 1 the management core writes the routing table to STAGE and commits it through the
Fabric group (R355). -/
def routeRecompute (m : Mach) : Mach :=
  if m.coreAway || !m.flag Reg.Turnout.AUTO_ROUTE || !m.flag Reg.Turnout.ID_VALID || m.pagePending ⟨.turnout, 0⟩ then m
  else
    let m := m.stageWrite .turnout 0 5 fun m =>
      (m.each m.routesNow.zipIdx fun m e => m.wr Reg.Turnout.ROUTE e.1 0 e.2).wr (Reg.Hdr.STAGE_DIRTY .turnout) 1
    let m := m.commitGo ⟨.turnout, 0⟩
    m.event .turnout 0 0x301B (m.rd Reg.Turnout.MEMBERS) (m.rd Reg.Turnout.FAB_EPOCH)

def execRouteRecompute (t : Nat) (s : State) : Out := s.run t routeRecompute

end Sys2Proof.Machine
end

