-- ==== Sys2Proof/Machine/Manage.lean ====
section
/-! DEFINITION. What a host function reads beside the pages: the primary mailbox (R68), the Dekurik Descriptor Table (R69 to R72), the
DOE mailbox and the CDAT (R73, R74), and SPDM over MCTP (R73). -/

namespace Sys2Proof.Machine

/-- Whether a function of a port answers: its link up, no FLR at work, CORE powered (R80, R459). -/
def Mach.functionUp (m : Mach) (p : Nat) : Bool :=
  m.flag Reg.HostPort.DL_UP p && (m.port p).flrSince.isNone && m.pw.st < 2

/-- Whether the management core runs: no restart at work, its domain powered (R459, R507). -/
def Mach.mgmtUp (m : Mach) : Bool := !m.coreAway && !m.islandDown 37

/-! ### The primary mailbox (R68) -/

/-- A command of a function's primary mailbox completes: its answer, and vector 129 (R68, R75). The opcodes and the return codes are
those of CXL 3.x (PRESUMED). -/
def Mach.mailboxDone (m : Mach) (p op ret : Nat) (vals : List Nat) : Mach :=
  ((m.emit (.mailbox p op ret vals)).modPort p fun x => { x with mbDone := true }).sendVec p 129

/-- A mailbox command reaches a function. -/
def Mach.mailboxCmd (m : Mach) (p : Nat) (f : Mach → Mach) : Mach := if m.functionUp p then f m.awake else m

/-- Success, Unsupported and Invalid Log. -/
def retOk : Nat := 0
def retUnsupported : Nat := 3
def retInvalidLog : Nat := 0x17

/-- The configured DPA span in units of 256 MB. -/
def Mach.spanUnits (m : Mach) : Nat := 4 * m.rd Reg.TractTable.SPAN_GB

/-- IDENTIFY_MEMORY_DEVICE: total and volatile capacity, persistent capacity 0, no label storage, 256 poison records. -/
def identifyMemory (p : Nat) (m : Mach) : Mach := m.mailboxDone p 0x4000 retOk [m.spanUnits, m.spanUnits, 0, 0, 256]

def execIdentifyMemoryDevice (t : Nat) (p : Port) (s : State) : Out := s.run t fun m => m.mailboxCmd p (identifyMemory p)

/-- The commands that the Command Effects Log lists (R68). -/
def mailboxOps : List Nat := [0x0100, 0x0101, 0x0200, 0x0300, 0x0301, 0x0400, 0x0401, 0x4000, 0x4200, 0x4300]

/-- GET_SUPPORTED_LOGS: the Command Effects Log alone. -/
def execGetSupportedLogs (t : Nat) (p : Port) (s : State) : Out :=
  s.run t fun m => m.mailboxCmd p fun m => m.mailboxDone p 0x0400 retOk [1]

/-- GET_LOG: the Command Effects Log, or the refusal of another log. -/
def getLog (p : Nat) (effects : Bool) (m : Mach) : Mach :=
  if effects then m.mailboxDone p 0x0401 retOk mailboxOps else m.mailboxDone p 0x0401 retInvalidLog []

def execGetLog (t : Nat) (p : Port) (effects : Bool) (s : State) : Out := s.run t fun m => m.mailboxCmd p (getLog p effects)

/-- GET_HEALTH_INFO: health information whose content the spec does not state. -/
def getHealth (p : Nat) (m : Mach) : Mach := (m.mailboxDone p 0x4200 retOk [m.fresh.toNat]).nextFree

def execGetHealthInfo (t : Nat) (p : Port) (s : State) : Out := s.run t fun m => m.mailboxCmd p (getHealth p)

/-- What an event record says of a Levee or Canal event. -/
def eventVals (e : Event) : List Nat := [e.code, e.inst, e.p0, e.p1, e.p2, e.tide]

/-- GET_EVENT_RECORDS: the records of the function's event log, oldest first. -/
def getEvents (p : Nat) (m : Mach) : Mach := m.mailboxDone p 0x0100 retOk ((m.port p).evtLog.flatMap eventVals)

def execGetEventRecords (t : Nat) (p : Port) (s : State) : Out := s.run t fun m => m.mailboxCmd p (getEvents p)

/-- CLEAR_EVENT_RECORDS: the oldest `n` records leave the log; where records are left, vector 130 is sent again, as after a W1C write
(R76). -/
def clearEvents (p n : Nat) (m : Mach) : Mach :=
  let m := (m.modPort p fun x => { x with evtLog := x.evtLog.drop n }).mailboxDone p 0x0101 retOk []
  if (m.port p).evtLog.isEmpty then m else m.sendVec p 130

def execClearEventRecords (t : Nat) (p : Port) (n : Nat) (s : State) : Out := s.run t fun m => m.mailboxCmd p (clearEvents p n)

/-- The mark in a poison list that an entry was lost to overflow (R246). -/
def Mach.poisonOvf (m : Mach) : List Nat := if m.flag Reg.Levee.PREC_OVF then [1] else []

/-- GET_POISON_LIST: the DPA and the cause of every entry of the Levee poison record, and last the overflow where an entry was lost (R246). -/
def getPoison (p : Nat) (m : Mach) : Mach :=
  m.mailboxDone p 0x4300 retOk ((m.lev.prec.flatMap fun e => [e.line * 64, e.cause]) ++ m.poisonOvf)

def execGetPoisonList (t : Nat) (p : Port) (s : State) : Out := s.run t fun m => m.mailboxCmd p (getPoison p)

/-- GET_FW_INFO: two slots, the one that runs, the versions. -/
def getFw (p : Nat) (m : Mach) : Mach :=
  m.mailboxDone p 0x0200 retOk [2, m.rd Reg.Mailbox.BOOT_SLOT, m.rd Reg.Mailbox.FW_RUNNING, m.rd Reg.Mailbox.FW_OTHER]

def execGetFwInfo (t : Nat) (p : Port) (s : State) : Out := s.run t fun m => m.mailboxCmd p (getFw p)

/-- The timestamp of a function: the value that was set and the time since; 0 before it is set. -/
def Mach.timestamp (m : Mach) (p : Nat) : Nat :=
  match (m.port p).timestamp with
  | some (v, since) => (v + (m.tide - since)) % 2 ^ 64
  | none => 0

/-- GET_TIMESTAMP. -/
def execGetTimestamp (t : Nat) (p : Port) (s : State) : Out :=
  s.run t fun m => m.mailboxCmd p fun m => m.mailboxDone p 0x0300 retOk [m.timestamp p]

/-- SET_TIMESTAMP. -/
def setTimestamp (p v : Nat) (m : Mach) : Mach :=
  (m.modPort p fun x => { x with timestamp := some (v, m.tide) }).mailboxDone p 0x0301 retOk []

def execSetTimestamp (t : Nat) (p : Port) (v : BitVec 64) (s : State) : Out :=
  s.run t fun m => m.mailboxCmd p (setTimestamp p v.toNat)

/-- MAILBOX_UNSUPPORTED: any other command. -/
def execMailboxUnsupported (t : Nat) (p : Port) (op : BitVec 16) (s : State) : Out :=
  s.run t fun m => m.mailboxCmd p fun m => if mailboxOps.contains op.toNat then m else m.mailboxDone p op.toNat retUnsupported []

/-! ### The Dekurik Descriptor Table (R70 to R72) -/

/-- The opening of a record: its type and its length (R71). -/
def recOpen (ty len : Nat) : List Nat := leBytes 2 ty ++ leBytes 2 len

/-- The PAGE record of a kind of page. -/
def pageRecord (k : PageKind) : List Nat :=
  recOpen 1 12 ++ leBytes 4 (pageBase k * 0x1000) ++ leBytes 2 (blockType k) ++ [pageCount k, evtClass k]

/-- The CAPACITY record. -/
def Mach.capacityRecord (m : Mach) : List Nat :=
  recOpen 2 48 ++ leBytes 4 0 ++ leBytes 8 (m.st.rawGb * 2 ^ 30) ++ leBytes 8 (2 ^ 46) ++
  leBytes 8 (m.rd Reg.TractTable.SPAN_GB * 2 ^ 30) ++ leBytes 8 (m.rd Reg.TractTable.MANAGED_GB * 2 ^ 30) ++ leBytes 8 (2 ^ 27)

/-- DIMMs per channel: 2 in mode 2, else 1 (R268). -/
def Mach.dimmsPerCanal (m : Mach) : Nat := match m.st.refPop with | some (_, d) => d.dimms | none => 1

/-- The DRAM record. -/
def Mach.dramRecord (m : Mach) : List Nat :=
  recOpen 3 16 ++ leBytes 2 (m.rd Reg.Weir.CANALS_IN) ++ [m.dimmsPerCanal, 0] ++
  leBytes 2 (if m.dimmsPerCanal = 2 then 6400 else 8000) ++ leBytes 2 0 ++ leBytes 2 (m.rd Reg.Weir.DC_MBPS) ++
  leBytes 2 (m.act Reg.Weir.FREEBOARD)

/-- A PROMISE row. -/
def promiseRow (r : Nat × Nat × Nat) : List Nat := [r.1, 0, 0, 0] ++ leBytes 4 r.2.1 ++ leBytes 4 r.2.2

/-- The PROMISE record. -/
def promiseRecord : List Nat :=
  recOpen 4 92 ++ [7, 0, 0, 0] ++
  ([(1, 160, 160), (2, 600, 900), (3, 780, 1080), (4, 1400, 1400), (5, 1200, 1200), (6, 250, 250), (7, 64000, 64000)].flatMap
    promiseRow)

/-- A LINK row: the figures of a rate at x16. -/
def linkRow (r : Nat) : List Nat :=
  let (flit, _, _, _, _) := rateRow r
  let (ing, dat, ndr, add, pay) := linkFigures r 16
  [r, 0] ++ leBytes 2 ing ++ leBytes 2 dat ++ leBytes 2 ndr ++ leBytes 2 add ++ leBytes 2 flit ++ leBytes 2 (pay / 10) ++ leBytes 2 0

/-- The LINK record. -/
def linkRecord : List Nat := recOpen 5 120 ++ [7, 0, 0, 0] ++ (List.range 7).flatMap linkRow

/-- The TURN record. -/
def Mach.turnRecord (m : Mach) : List Nat :=
  let mask := ((List.range 16).map fun a => if m.guar a then 2 ^ a else 0).sum
  recOpen 6 16 ++ leBytes 2 (m.act Reg.Weir.TURN_LEN) ++ leBytes 2 2 ++ leBytes 2 256 ++ [16, 0] ++ leBytes 2 mask ++ leBytes 2 0

/-- The UEFI record. -/
def Mach.uefiRecord (m : Mach) : List Nat :=
  recOpen 7 16 ++ [if m.boot.uefi = 0 then 0 else 1, 0, 0, 0] ++ leBytes 4 0x10000 ++ leBytes 4 m.boot.uefi

/-- Every record, in order (R71). -/
def Mach.ddtRecords (m : Mach) : List Nat :=
  allKinds.flatMap pageRecord ++ m.capacityRecord ++ m.dramRecord ++ promiseRecord ++ linkRecord ++ m.turnRecord ++ m.uefiRecord ++
  recOpen 0xFFFF 4

/-- The DDT as a function of a port reads it, from 0x080 to the end of END, with given `GEN` and checksum fields (R70). -/
def Mach.ddtWith (m : Mach) (port gen crc : Nat) : List Nat :=
  let recs := m.ddtRecords
  let fid := if m.flag Reg.Turnout.ID_VALID then m.rd Reg.Turnout.MY_ID else 0xFF
  [0x44, 0x4B, 0x44, 0x54] ++ leBytes 4 (64 + recs.length) ++ [1, 0xB0] ++ leBytes 2 32 ++ leBytes 4 crc ++ leBytes 8 m.serial ++
  [port, fid, m.rd Reg.Twin.ROLE, m.dimmsPerCanal] ++ leBytes 4 gen ++ leBytes 2 Config.vendorId.toNat ++ leBytes 2 0x6416 ++
  List.replicate 28 0 ++ recs

/-- The DDT of a port with its checksum (R70). -/
def Mach.ddtBytes (m : Mach) (port gen : Nat) : List Nat := m.ddtWith port gen (crc32c (m.ddtWith port gen 0))

/-! ### The CDAT (R74) -/

/-- The values of the CDAT as a port's function reports it: DSMAS (handle, base, length, specific-purpose attribute), DSLBIS read
latency, write latency, read and write bandwidth, DSEMTS (handle, memory type, offset, length). -/
def Mach.cdatVals (m : Mach) (p : Nat) : List Nat :=
  let span := m.rd Reg.TractTable.SPAN_GB * 2 ^ 30
  let raw := if m.twinMode then 900 else 600
  let bw := min (m.rd Reg.HostPort.PAYLOAD_MBPS p) (m.rd Reg.Weir.RESERVABLE_MBPS)
  [0, 0, span, 1, raw + m.rd Reg.HostPort.RATE_ADDER_NS p, m.rd Reg.HostPort.ING_NS p + 8 + m.rd Reg.HostPort.EGR_NDR_NS p, bw, bw,
   0, 1, 0, span]

/-- `GEN` has become even: a port whose CDAT changed counts up its sequence (R74). -/
def Mach.cdatCheck (m : Mach) : Mach :=
  m.each [0, 1, 2, 3] fun m p =>
    let v := m.cdatVals p
    m.modPort p fun x => if x.cdatSeen = v then x else { x with cdatSeen := v, cdatSeq := (x.cdatSeq + 1) % 2 ^ 32 }

/-- DDT_REBUILD: after a change of a recorded value `GEN` is odd while the table is written and even once it is done (R72). -/
def ddtRebuild (done : Bool) (m : Mach) : Mach :=
  let now := m.ddtWith 0 0 0
  let busy := m.ddtGen % 2 = 1
  if now = m.boot.ddt && !busy then m
  else
    let gen := if busy then m.ddtGen else (m.ddtGen + 1) % 2 ^ 32
    if !done then { m with ddtGen := gen }
    else
      let m : Mach := { m with ddtGen := (gen + 1) % 2 ^ 32, boot := { m.boot with ddt := now } }
      m.cdatCheck

def execDdtRebuild (t : Nat) (done : Bool) (s : State) : Out := s.run t (ddtRebuild done)

/-! ### DOE and SPDM (R73) -/

/-- A DOE object of at most 4 KB reaches a function, and its answer leaves where it is ready: one request at a time (R73). -/
def Mach.doe (m : Mach) (p : Nat) (r : DoeReq) (len : Nat) (ready : Bool) (ans : List Nat) : Mach :=
  if !m.functionUp p || 4096 < len then m
  else
    let m := m.awake
    let x := m.port p
    if x.doeBusy.isSome && x.doeBusy != some r then m
    else if !ready then m.setPort p { x with doeBusy := some r, doeReady := false }
    else
      let no := match r with | .discovery => 0 | .cma => 1 | .secured => 2 | .cdat => 3
      ((m.setPort p { x with doeBusy := none, doeReady := true }).emit (.doe p no ans)).sendVec p 131

/-- The four protocols by index: vendor, object type, the next index (PCI-SIG and CXL, PRESUMED). -/
def doeProtocol (i : Nat) : List Nat :=
  match i with
  | 0 => [0x0001, 0, 1]
  | 1 => [0x0001, 1, 2]
  | 2 => [0x0001, 2, 3]
  | _ => [0x1E98, 2, 0]

/-- DOE_DISCOVERY. -/
def execDoeDiscovery (t : Nat) (p : Port) (i : Fin 4) (ready : Bool) (s : State) : Out :=
  s.run t fun m => m.doe p .discovery 12 ready (doeProtocol i)

/-- An SPDM exchange of a function: the responder's answer is a value the spec does not state; it waits for the management core. -/
def Mach.doeSpdm (m : Mach) (p : Nat) (r : DoeReq) (len : Nat) (ready : Bool) : Mach :=
  (m.doe p r len (ready && m.mgmtUp) [m.fresh.toNat]).nextFree

/-- DOE_CMA_SPDM. -/
def execDoeCmaSpdm (t : Nat) (p : Port) (len : Nat) (ready : Bool) (s : State) : Out := s.run t fun m => m.doeSpdm p .cma len ready

/-- DOE_SECURED_SPDM. -/
def execDoeSecuredSpdm (t : Nat) (p : Port) (len : Nat) (ready : Bool) (s : State) : Out :=
  s.run t fun m => m.doeSpdm p .secured len ready

/-- CDAT_TABLE_ACCESS: the sequence number and the structures. -/
def execCdatTableAccess (t : Nat) (p : Port) (ready : Bool) (s : State) : Out :=
  s.run t fun m => m.doe p .cdat 12 ready ((m.port p).cdatSeq :: m.cdatVals p)

/-- DOE_ABORT: the request in progress is discarded. -/
def doeAbort (p : Nat) (m : Mach) : Mach :=
  if m.functionUp p then m.awake.modPort p fun x => { x with doeBusy := none, doeReady := false } else m

def execDoeAbort (t : Nat) (p : Port) (s : State) : Out := s.run t (doeAbort p)

/-- MCTP_SPDM_REQUEST: the responder's answer over MCTP; while the management core restarts its endpoint does not acknowledge (R73,
R507). -/
def mctpSpdm (m : Mach) : Mach := if m.mgmtUp then (m.emit (.mctp [m.fresh.toNat])).nextFree else m

def execMctpSpdmRequest (t : Nat) (s : State) : Out := s.run t mctpSpdm

end Sys2Proof.Machine
end

