-- ==== Sys2Proof/Machine/Bringup.lean ====
section
/-! DEFINITION. Bring-up (R496 to R504, R524, R525): power, straps, firmware authentication, risers, the end of the initial fill; and
the device fundamental reset (R82, R505, R506). -/

namespace Sys2Proof.Machine

/-! ### Fuses -/

/-- Show the fuses in the mailbox page (R508). -/
def Mach.showFuses (m : Mach) (f : Fuses) : Mach :=
  (m.wb Reg.Mailbox.PROV_LOCKED f.locked).wr Reg.Mailbox.SEC_MIN f.secMin

/-! ### Firmware slots (R497, R498) -/

/-- Slot 0 is A, slot 1 is B. -/
def BootX.slot (b : BootX) (k : Nat) : Slot := if k = 0 then b.slotA else b.slotB

/-- Replace a slot. -/
def BootX.setSlot (b : BootX) (k : Nat) (x : Slot) : BootX := if k = 0 then { b with slotA := x } else { b with slotB := x }

/-- Change the bring-up state. -/
def Mach.modBoot (m : Mach) (f : BootX → BootX) : Mach := { m with boot := f m.boot }

/-- Why a slot does not pass: 0 it passes, 1 signature or header, 2 digest, 3 rollback, 4 blank, 5 read error (R498, R508). -/
def authCode (secMin : Nat) (x : Slot) (readErr : Bool) : Nat :=
  if readErr then 5
  else match x.img with
    | none => 4
    | some i =>
      if !i.sigOk || 63 < i.security || 2 ^ 23 - 512 < i.length then 1
      else if !i.digestOk then 2
      else if i.security < secMin then 3
      else 0

/-- A slot whose writing was cut short fails R498 (R500, R511). -/
def Slot.spoiled (x : Slot) : Slot :=
  { img := some (match x.img with
      | some i => { i with digestOk := false }
      | none => { length := 0, version := 0, security := 0, commit := false, sigOk := false, digestOk := false })
    boots := 0 }

/-- The slot that FW_STAGE writes: the one that is not running. -/
def Mach.idleSlot (m : Mach) : Nat := 1 - m.rd Reg.Mailbox.BOOT_SLOT

/-- A running FW_STAGE is cut short: its slot is partly written (R511). -/
def Mach.cutStage (m : Mach) : Mach :=
  match m.boot.mb with
  | some c => if c.op = 2 then m.modBoot fun b => b.setSlot m.idleSlot (b.slot m.idleSlot).spoiled else m
  | none => m

/-- Show the version of the slot that does not run; 0 where it is invalid (R508). -/
def Mach.showOther (m : Mach) (f : Fuses) : Mach :=
  let x := m.boot.slot m.idleSlot
  m.wr Reg.Mailbox.FW_OTHER (if authCode f.secMin x false = 0 then (x.img.map fun i => i.version).getD 0 else 0)

/-- A slot starts to run. -/
def Mach.runSlot (m : Mach) (f : Fuses) (k : Nat) : Mach :=
  let m := (m.modBoot fun b => { b with running := some k }).wr Reg.Mailbox.BOOT_SLOT k
  (m.wr Reg.Mailbox.FW_RUNNING (((m.boot.slot k).img.map fun i => i.version).getD 0)).showOther f

/-- A slot is passed over. -/
def Mach.authFailed (m : Mach) (k code : Nat) : Mach := m.event .mailbox 0 0x4C11 k code

/-! ### The device fundamental reset (R82, R503, R506) -/

/-- Whether a bit address is a STATE field of the Gauge Book page that a reset keeps (R494). -/
def gaugeKeeps (clearing : Bool) (a : Nat) : Bool :=
  let drops := [Reg.Gauge.REC_W0, Reg.Gauge.REC_W1, Reg.Gauge.REC_W2, Reg.Gauge.REC_W3, Reg.Gauge.READ_STATUS, Reg.Gauge.MIRROR_STATE] ++
    (if clearing then [] else [Reg.Gauge.CHALLENGE, Reg.Gauge.CLEAR_STATE, Reg.Gauge.CLEAR_FAILS])
  a / 32768 = pageNo ⟨.gauge, 0⟩ && (0xB00 ≤ a % 32768 / 8 || a = (Reg.Hdr.FSM .gauge).addr 0 0) && !drops.any fun f => f.addr 0 0 = a

/-- Whether a bit address is a STATE field of a Sluice page, which a reset keeps unless the Sluice island starts cold (R454). -/
def sluiceKeeps (a : Nat) : Bool :=
  (List.range 10).any fun c =>
    a / 32768 = pageNo ⟨.sluice, c⟩ && (0xB00 ≤ a % 32768 / 8 || a = (Reg.Hdr.FSM .sluice).addr c 0)

/-- The Gauge Book beside its registers through a reset: a pending read is dropped, the token buckets are full (R480, R494). -/
def GaugeX.afterReset (g : GaugeX) : GaugeX := { g with readWait := none, bucketUsed := [] }

/-- What is left of the device at a reset: what R506 keeps, every register at its Reset value but for the STATE fields of the Gauge
Book and, unless it starts cold, of the Sluice channels. -/
def Mach.wiped (m : Mach) (cold : Bool) : Mach :=
  let clearing := 2 ≤ m.rd Reg.Gauge.CLEAR_STATE
  let b := m.boot
  { tide := m.tide, free := m.free, out := m.out, serial := m.serial, straps := m.straps, order := m.order, ddtGen := m.ddtGen
    regs := m.regs.filter fun (e : Nat × Nat) => gaugeKeeps clearing e.1 || (!cold && sluiceKeeps e.1)
    gb := m.gb.afterReset
    sluices := if cold then [] else m.sluices
    ports := m.ports.map fun (e : Nat × PortX) =>
      (e.1, { perst := e.2.perst, perstSince := e.2.perstSince, callSince := m.tide, evtLog := e.2.evtLog
              cdatSeq := e.2.cdatSeq, cdatSeen := e.2.cdatSeen })
    clk := { running := true, nextTurn := m.tide, lost := if cold then 0 else m.clk.lost }
    pw := { since := m.tide }
    turn := { eligible := m.straps.testBit 1 }
    boot := { restoreDue := b.restoreDue, startTide := m.tide, slotA := b.slotA, slotB := b.slotB, preferred := b.preferred
              voteDone := b.voteDone, uefi := b.uefi, ddt := b.ddt } }

/-- The twin role of the straps; 3 is treated as 0 (R398, R496). -/
def twinRole (straps : Nat) : Nat := if bits straps 3 2 = 3 then 0 else bits straps 3 2

/-- Steps 1 and 2 of R503: domains are powered, the PLLs lock, straps and fuses show, the blocks stand as after reset. -/
def Mach.firstSteps (m : Mach) (f : Fuses) (cause : Nat) : Mach :=
  let m := ((m.wr Reg.Mailbox.STRAPS m.straps).wr Reg.Mailbox.RESET_CAUSE cause).showFuses f
  let m := (m.wr Reg.Mailbox.BOOT_STAGE 1).wr Reg.Twin.ROLE (twinRole m.straps)
  let m := ((m.wr Reg.Clock.XTAL_OK 1).wr Reg.Clock.CORE_LOCK 1).wr Reg.Clock.CISTERN_LOCK 1
  let m := ((m.wr Reg.Clock.MGMT_LOCK 1).wr Reg.Clock.CULVERT_LOCK 1).wr Reg.Clock.CORE_MHZ 3200
  let m := m.powerUpdate
  let m := m.each (List.range 4) fun m p => m.wr Reg.HostPort.LAST_RESET 5 p
  let m := m.each (List.range 16) fun m c => m.setCanal c 0
  let m := m.each (List.range 10) fun m c => m.setSlu c (m.fsm .sluice c)
  let m := m.each (List.range 8) fun m r => m.each [2 * r, 2 * r + 1] fun m c => m.wb Reg.Canal.RISER_PG (m.flag Reg.Sluice.PG r) c
  let m := ((m.wr Reg.Crypto.SLOT_VALID 0).showSum).showFlash
  m.twinBack

/-- A device fundamental reset, or a power-on where `cold`; a mailbox command that runs ends ABORTED (R82, R505, R506). -/
def Mach.fundamental (m : Mach) (f : Fuses) (cause : Nat) (cold : Bool) : Mach :=
  let was := m.boot.mb
  let m := ((m.cutStage).wiped cold).firstSteps f cause
  match was with
  | some c =>
    if cold then m else ((m.wr Reg.Mailbox.MB_STATUS 2).wr Reg.Mailbox.MB_RESULT 7).wr Reg.Mailbox.MB_SRC c.src
  | none => m

/-- Sluice channels with `AUTO_ON` want to be on from the moment their island leaves power-on reset (R445). -/
def Mach.autoOn (m : Mach) : Mach :=
  m.each (List.range 10) fun m c => if m.flag Reg.Sluice.AUTO_ON c then m.onReq c else m

/-- POWER_ON: every monitored rail has been in range for 1 ms, and the sequence starts from step 1 (R503, R524, R525). -/
def powerOn (f : Fuses) (m : Mach) : Mach :=
  if m.boot.vaon && (!m.boot.powered || m.rd Reg.Mailbox.BOOT_STAGE = 0) then (m.fundamental f 1 true).autoOn else m

def execPowerOn (t : Nat) (s : State) : Out := s.runAlways t (powerOn s.fuse)

/-- Whether every voter's `PERST_N` has been asserted for at least 100 µs (R82). -/
def Mach.voteHolds (m : Mach) : Bool :=
  m.voters.all fun p => (m.port p).perst && (m.port p).perstSince + 100000 ≤ m.tide

/-- DEVICE_FUNDAMENTAL_RESET: by the vote of the ports' `PERST_N`, or by a DEVICE_RESET command; while a device-fatal loss already makes
one due, neither adds anything (R82, R505). -/
def deviceReset (f : Fuses) (m : Mach) : Mach :=
  if m.clk.holdDown then m
  else match m.boot.resetDue with
    | some c => m.fundamental f c false
    | none =>
      if m.voteHolds && !m.boot.voteDone then
        let m := m.fundamental f 2 false
        m.modBoot fun b => { b with voteDone := true }
      else m

def execDeviceFundamentalReset (t : Nat) (s : State) : Out := s.run t (deviceReset s.fuse)

/-- ISLAND_CLOCK_RETURN: a lost island's clock runs and locks again. Once no device-fatal loss is left, a device fundamental reset
follows (R505). -/
def islandClockReturn (f : Fuses) (i : Nat) (m : Mach) : Mach :=
  if !m.clk.lost.testBit i then m
  else
    let m : Mach := { m with clk := { m.clk with lost := setBit m.clk.lost i false } }
    let m := m.wr (pllOf i) 1
    let m := if i < 4 then m.modPort i fun x => { x with callSince := m.tide } else m
    if m.clk.holdDown && !(List.range 40).any (fun k => fatalIsland k && m.clk.lost.testBit k) then m.fundamental f 4 false else m

def execIslandClockReturn (t : Nat) (i : Fin 40) (s : State) : Out := s.run t (islandClockReturn s.fuse i)

/-! ### Rails and VAON (R496, R525) -/

/-- RAIL_LOSS: every gate and PG is low, the SerDes transmitters are idle, no DRAM access is made, no trip is recorded; what the core
held is gone (R525, R533). -/
def railLoss (m : Mach) : Mach :=
  if !m.boot.powered then m
  else
    let m := (m.cutStage).each (List.range 10) fun m c => ((m.wr Reg.Sluice.GATE_ON 0 c).wr Reg.Sluice.PG 0 c).wr Reg.Sluice.REGULATING 0 c
    let m := m.each (List.range 16) fun m c => m.wr Reg.Canal.RISER_PG 0 c
    let m := m.each (List.range 4) fun m p => (m.wr Reg.HostPort.DL_UP 0 p).wr Reg.HostPort.LTSSM 0 p
    let m : Mach := { m with memActive := false, pw := { m.pw with prep := none, commit := none } }
    m.modBoot fun b => { b with powered := false, mb := none, pldm := {}, resetDue := none, restart := none }

def execRailLoss (t : Nat) (s : State) : Out := s.runAlways t railLoss

/-- The device without VAON: what flash holds and what is fixed for good (R479, R497). -/
def Mach.darkened (m : Mach) : Mach :=
  let b := m.boot
  { tide := m.tide, free := m.free, out := m.out, serial := m.serial, order := m.order, ddtGen := m.ddtGen
    gb := { nBlk := m.gb.nBlk, flash := m.gb.flash }
    boot := { vaon := false, powered := false, slotA := b.slotA, slotB := b.slotB, preferred := b.preferred, uefi := b.uefi } }

/-- VAON_LOSS: a cold start of the whole device follows; the ring is lost (R14, R525). -/
def vaonLoss (m : Mach) : Mach := if m.boot.vaon then (railLoss m).darkened else m

def execVaonLoss (t : Nat) (s : State) : Out := s.runAlways t vaonLoss

/-- ALWAYS_ON_POWER_UP: the straps are sampled, the tide starts at 0, and the record sequence and the counts await restore. `a` and `b`
are images that a programmer has put into the flash slots meanwhile, `uefi` the length of a UEFI image (R14, R479, R496, R497). -/
def alwaysOnUp (straps : Nat) (a b : Option FwImage) (uefi : Nat) (m : Mach) : Mach :=
  if m.boot.vaon && m.rd Reg.Mailbox.BOOT_STAGE != 0 then m
  else
    let m : Mach := { m with tide := 0, straps := straps % 16 }
    m.modBoot fun x =>
      { x with
        vaon := true, powered := false, restoreDue := true, uefi := uefi
        slotA := match a with | some i => { img := some i } | none => x.slotA
        slotB := match b with | some i => { img := some i } | none => x.slotB }

def execAlwaysOnPowerUp (t : Nat) (straps : Fin 16) (a b : Option FwImage) (uefi : Nat) (s : State) : Out :=
  s.runAlways t (alwaysOnUp straps a b uefi)

/-! ### Firmware (R498, R499) -/

/-- The Gauge Book scan, where the always-on domain has powered up since the last (R479, R487). -/
def Mach.restoreOnce (m : Mach) : Mach :=
  if m.boot.restoreDue then (m.modBoot fun b => { b with restoreDue := false }).gaugeRestore else m

/-- Recovery mode: the core stays in its boot ROM (R499). -/
def Mach.recovery (m : Mach) (f : Fuses) (code : Nat) : Mach :=
  let m := ((m.wr Reg.Mailbox.BOOT_STAGE 7).wr Reg.Mailbox.BOOT_SLOT 0).wr Reg.Mailbox.BOOT_FAIL code
  (m.showOther f).restoreOnce

/-- Steps 3 and 4 of R503: a slot runs, the counts are restored, the links with `ENABLE` = 1 start TRAINING. -/
def Mach.bootSlot (m : Mach) (f : Fuses) (k fail : Nat) : Mach :=
  let m := ((m.runSlot f k).wr Reg.Mailbox.BOOT_FAIL fail).restoreOnce
  (m.each (List.range 8) fun m l => m.startLink l).wr Reg.Mailbox.BOOT_STAGE 3

/-- FW_AUTH_DONE: the preferred slot is tried first, the other second; the first that passes runs. `errA` and `errB` say that a slot
could not be read, `bad` which trust anchors do not match their fused hash (R498, R499, R502). -/
def fwAuthDone (f : Fuses) (errA errB : Bool) (bad : List Nat) (m : Mach) : Mach :=
  if m.rd Reg.Mailbox.BOOT_STAGE != 1 then m
  else
    let m := m.modBoot fun b => { b with anchorBad := bad }
    let code := fun k => authCode f.secMin (m.boot.slot k) (if k = 0 then errA else errB)
    let p := m.boot.preferred
    if m.straps.testBit 0 then m.recovery f 0
    else if code p = 0 then m.bootSlot f p 0
    else
      let m := m.authFailed p (code p)
      if code (1 - p) = 0 then m.bootSlot f (1 - p) (code p)
      else (m.authFailed (1 - p) (code (1 - p))).recovery f (code 1)

def execFwAuthDone (t : Nat) (errA errB : Bool) (bad : List (Fin 2)) (s : State) : Out :=
  s.run t (fwAuthDone s.fuse errA errB (bad.map fun k => k.val))

/-! ### Risers, training and the fill (R281, R503, R504) -/

/-- Step 5 of R503: slot 0 is generated, the DDR PHY PLL locks. -/
def Mach.fifthStep (m : Mach) : Mach :=
  let m := (m.keysAtReset).wr Reg.Clock.DDR_LOCK 1
  m.wr Reg.Mailbox.BOOT_STAGE 4

/-- RISER_ON_SCHEDULE: at 260 + 25 × r ms the core writes `ON_REQ` to channel r (R503). -/
def riserOn (r : Nat) (m : Mach) : Mach :=
  let st := m.rd Reg.Mailbox.BOOT_STAGE
  if (st != 3 && st != 4) || m.tide < m.boot.startTide + (260 + 25 * r) * 1000000 || (Tbl.find m.boot.riserAt r).isSome then m
  else
    let m := if st = 3 then m.fifthStep else m
    let m := m.stageWrite .sluice r 5 fun m => m.onReq r
    m.modBoot fun b => { b with riserAt := Tbl.put b.riserAt r m.tide }

def execRiserOnSchedule (t : Nat) (r : Fin 8) (s : State) : Out := s.run t (riserOn r)

/-- Whether training has ended on every Canal. -/
def Mach.trained (m : Mach) : Bool := (List.range 16).all fun c => 2 ≤ m.fsm .canal c

/-- Memory_Active is set on all four ports in one cycle; a FAILED Canal counts as out of service with cause 1; the contents get their
identity (R77, R281, R421, R503). -/
def Mach.setActive (m : Mach) : Mach :=
  let ms := (m.tide - m.boot.startTide) / 1000000
  let fill := ((List.range 16).map fun c => m.rd Reg.Canal.FILL_MS c).foldl max 0
  let m : Mach := { m with memActive := true }
  let m := m.each (List.range 16) fun m c => if m.fsm .canal c = 7 then m.wr Reg.Canal.OOS_CAUSE 1 c else m
  let m := m.each (List.range 4) fun m p => m.wr Reg.HostPort.MEM_ACTIVE 1 p
  let m := m.each ((List.range 4).filter fun p => m.flag Reg.HostPort.DL_UP p) fun m p =>
    m.event .hostPort p 0x041A fill (m.rd Reg.TractTable.SPAN_GB)
  let m := ((m.wr Reg.Twin.CONTENT_ID (m.fresh.toNat % 2 ^ 64)).nextFree).wr Reg.Twin.FRESH 1
  let m := (m.showFrames).showSum
  let m := m.modBoot fun b => match b.running with
    | some k => b.setSlot k { b.slot k with boots := (b.slot k).boots + 1 }
    | none => b
  let m := (m.wr Reg.Mailbox.BOOT_STAGE 6).wr Reg.Mailbox.BOOT_MS (min ms (2 ^ 32 - 1))
  m.event .mailbox 0 0x4C14 ms (m.rd Reg.Mailbox.RESET_CAUSE)

/-- `SEC_MIN` after a slot has run until Memory_Active: raised to the slot's security version where its header sets `COMMIT` and it has
completed 3 boots; it never falls (R501). -/
def Mach.secMinNow (m : Mach) (f : Fuses) : Nat :=
  match m.boot.running with
  | some k =>
    match (m.boot.slot k).img with
    | some i => if i.commit && 3 ≤ (m.boot.slot k).boots then max f.secMin (min i.security 63) else f.secMin
    | none => f.secMin
  | none => f.secMin

/-- Where every Canal has ended training, and where the initial fill is complete (R281, R503). -/
def Mach.bringupCheck (m : Mach) (f : Fuses) : Fuses × Mach :=
  let m := if m.rd Reg.Mailbox.BOOT_STAGE = 4 && m.trained then m.wr Reg.Mailbox.BOOT_STAGE 5 else m
  if m.memActive || !m.fillComplete then (f, m)
  else
    let m := m.setActive
    let f := { f with secMin := m.secMinNow f }
    (f, m.showFuses f)

/-- CANAL_TRAINING_DONE. -/
def execCanalTrainingDone (t : Nat) (c : Fin 16) (fail : Nat) (spd : Spd) (raw : List (List Nat)) (s : State) : Out :=
  s.runFuse t fun f m => (canalTrainingDone c fail spd raw m).bringupCheck f

/-- CANAL_FILL_COMPLETE: a Canal has written a blank line to every address (R280, R286). -/
def canalFillDone (c : Nat) (m : Mach) : Mach := if m.fsm .canal c = 2 then m.canalFilled c else m

def execCanalFillComplete (t : Nat) (c : Fin 16) (s : State) : Out :=
  s.runFuse t fun f m => (canalFillDone c m).bringupCheck f

/-- RISER_PG_TIMEOUT: no PG 2 s after `ON_REQ`: the riser's Canals are FAILED with code 1; the channel goes on wanting to be on
(R504). -/
def riserPgTimeout (r : Nat) (m : Mach) : Mach :=
  match Tbl.find m.boot.riserAt r with
  | some t0 =>
    if m.flag Reg.Sluice.PG r || m.tide < t0 + 2000000000 || m.memActive then m
    else m.each [2 * r, 2 * r + 1] fun m c => if m.fsm .canal c = 0 then m.canalFail c 1 else m
  | none => m

def execRiserPgTimeout (t : Nat) (r : Fin 8) (s : State) : Out := s.runFuse t fun f m => (riserPgTimeout r m).bringupCheck f

end Sys2Proof.Machine
end

