-- ==== Sys2Proof/Machine/Mailbox.lean ====
section
/-! DEFINITION. The management core mailbox (R502, R505 to R509), the restart of the management core (R507), and PLDM for Firmware Update
in recovery mode (R500). -/

namespace Sys2Proof.Machine

/-! ### Results (R508) -/

/-- The result that a command has before anything is read: BAD_CMD, REFUSED_SOURCE, LOCKED for a wrong confirmation or a provisioning op
that may not run; 0 for none of these. The reserved values 2 and 3 of `MB_ARG2` make PROVISION_ANCHOR a reserved op. -/
def Mach.mbEarly (m : Mach) (f : Fuses) (c : MbCmd) : Nat :=
  if c.op = 0 || 9 < c.op || m.rd Reg.Mailbox.BOOT_STAGE = 7 && c.op != 2 && c.op != 4 then 1
  else if c.op = 5 && 2 ≤ c.arg2 then 1
  else if (c.src < 4 && f.locked && !([1, 2, 3, 9].contains c.op)) || !m.mayWrite c.src then 2
  else if (c.op = 5 || c.op = 6 || c.op = 7) && f.locked then 6
  else if c.op = 4 && c.arg0 != 0x64160DEF then 6
  else if c.op = 7 && c.arg0 != 0x641610CC then 6
  else if c.op = 5 && (Tbl.find f.anchors c.arg2).isSome then 6
  else if c.op = 6 && f.clearKey.isSome then 6
  else 0

/-- The result that a failing authentication gives: ROLLBACK for the security version, AUTH_FAIL for every other (R508). -/
def authResult (code : Nat) : Nat := if code = 0 then 0 else if code = 3 then 4 else 3

/-- The command completes: its result, its source, event 0x4C13 where it was refused (R508, R509). -/
def Mach.mbPost (m : Mach) (c : MbCmd) (r : Nat) : Mach :=
  let m := m.modBoot fun b => { b with mb := none, dmaFail := false }
  let m := (m.wr Reg.Mailbox.MB_STATUS 2).wr Reg.Mailbox.MB_RESULT r
  if r = 1 || r = 2 || r = 6 then m.event .mailbox 0 0x4C13 c.op (r + 16 * c.src) else m

/-- FW_REVERT runs only where the other slot passes; FW_ACTIVATE and FW_REVERT make the other slot preferred (R508). -/
def Mach.beginRestart (m : Mach) (f : Fuses) (c : MbCmd) : Mach :=
  let k := m.idleSlot
  if c.op = 8 then m.modBoot fun b => { b with restart := some 8 }
  else if c.op = 9 && authCode f.secMin (m.boot.slot k) false != 0 then m
  else m.modBoot fun b => { b with restart := some c.op, preferred := k }

/-- A write of 1 to `MB_GO`: one command runs at a time (R508). The restarts begin, the host reads go out, a confirmed DEVICE_RESET makes
a reset due. -/
def Mach.mbGo (m : Mach) (f : Fuses) (op src : Nat) : Mach :=
  if m.rd Reg.Mailbox.MB_STATUS = 1 then m.inc Reg.Mailbox.MB_REFUSED
  else
    let c : MbCmd := { op := op, src := src, arg0 := m.rd Reg.Mailbox.MB_ARG0, arg1 := m.rd Reg.Mailbox.MB_ARG1
                       arg2 := m.rd Reg.Mailbox.MB_ARG2 }
    let m := (m.modBoot fun b => { b with mb := some c, dmaFail := false }).wr Reg.Mailbox.MB_STATUS 1
    let m := m.wr Reg.Mailbox.MB_SRC src
    if m.mbEarly f c != 0 then m
    else if op = 3 || op = 8 || op = 9 then m.beginRestart f c
    else if op = 4 then (if m.clk.holdDown then m else m.modBoot fun b => { b with resetDue := some 3 })
    else
      match m.mbPort with
      | none => m
      | some p =>
        let n := if op = 6 then 1 else (c.arg1 + 63) / 64
        if m.hostMem p then m.emit (.hostRead p c.arg0 n) else m.modBoot fun b => { b with dmaFail := true }

/-- A mailbox command of a source: `MB_OP` and `MB_GO` in one write. -/
def State.mailbox (s : State) (t op src : Nat) : Out :=
  s.run t fun m => m.stageWrite .mailbox 0 src fun m => (m.wr Reg.Mailbox.MB_OP op).mbGo s.fuse op src

def execMbPing (t : Nat) (src : Source) (s : State) : Out := s.mailbox t 1 src
def execMbFwStage (t : Nat) (src : Source) (s : State) : Out := s.mailbox t 2 src
def execMbFwActivate (t : Nat) (src : Source) (s : State) : Out := s.mailbox t 3 src
def execMbDeviceReset (t : Nat) (src : Source) (s : State) : Out := s.mailbox t 4 src
def execMbProvisionAnchor (t : Nat) (src : Source) (s : State) : Out := s.mailbox t 5 src
def execMbProvisionClearKey (t : Nat) (src : Source) (s : State) : Out := s.mailbox t 6 src
def execMbProvisionLock (t : Nat) (src : Source) (s : State) : Out := s.mailbox t 7 src
def execMbMgmtRestart (t : Nat) (src : Source) (s : State) : Out := s.mailbox t 8 src
def execMbFwRevert (t : Nat) (src : Source) (s : State) : Out := s.mailbox t 9 src

/-! ### Completion (R502, R508) -/

/-- FW_STAGE: the image that was read is in the slot that does not run, and is verified; a read that failed leaves the slot partly
written. -/
def Mach.stageDone (m : Mach) (f : Fuses) (c : MbCmd) (ok : Bool) (img : FwImage) : Mach :=
  let k := m.idleSlot
  if !ok then ((m.modBoot fun b => b.setSlot k (b.slot k).spoiled).showOther f).mbPost c 5
  else
    let m := (m.modBoot fun b => b.setSlot k { img := some img }).showOther f
    let code := authCode f.secMin { img := some img } false
    (if code = 0 then m else m.authFailed k code).mbPost c (authResult code)

/-- A provisioning op writes its fuses: 5 the hash of an anchor, 6 the clear key, 7 the lock (R502). -/
def provision (f : Fuses) (c : MbCmd) (data : Nat) : Fuses :=
  if c.op = 5 then { f with anchors := Tbl.put f.anchors c.arg2 data }
  else if c.op = 6 then { f with clearKey := some (data % 2 ^ 256) }
  else { f with locked := true }

/-- MB_CMD_DONE: the command that runs completes with the first result that applies. `ok`, `img` and `data` are what the host reads gave:
whether they succeeded, the image, the anchor's hash or the clear key. A restart ends by MGMT_RESTART_DONE, a confirmed DEVICE_RESET by
the reset. -/
def mbCmdDone (f : Fuses) (ok : Bool) (img : FwImage) (data : Nat) (m : Mach) : Fuses × Mach :=
  match m.boot.mb with
  | none => (f, m)
  | some c =>
    let early := m.mbEarly f c
    let ok := ok && !m.boot.dmaFail
    if m.coreAway then (f, m)
    else if early != 0 then (f, m.mbPost c early)
    else if c.op = 2 then (f, m.stageDone f c ok img)
    else if c.op = 3 || c.op = 8 || c.op = 9 then
      let code := authCode f.secMin (m.boot.slot m.idleSlot) false
      (f, (m.authFailed m.idleSlot code).mbPost c (authResult code))
    else if c.op = 4 then (f, m)
    else if (c.op = 5 || c.op = 6) && !ok then (f, m.mbPost c 5)
    else if c.op = 5 || c.op = 6 || c.op = 7 then
      let f' := provision f c data
      (f', ((m.showFuses f').event .mailbox 0 0x4C15 c.op c.src).mbPost c 0)
    else (f, m.mbPost c 0)

def execMbCmdDone (t : Nat) (ok : Bool) (img : FwImage) (data : Nat) (s : State) : Out :=
  s.runFuse t fun f m => mbCmdDone f ok img data m

/-! ### The restart of the management core (R507) -/

/-- What waited for the management core goes on: link key switches (R507). -/
def Mach.coreBack (m : Mach) : Mach :=
  let m := (m.modBoot fun b => { b with restart := none }).inc Reg.Mailbox.MGMT_RESTARTS
  m.each (List.range 8) fun m l => m.tryKeySwitch l

/-- MGMT_RESTART_DONE: the restart ends on the new image where it passes R498, else on the old one (R507). -/
def mgmtRestartDone (f : Fuses) (m : Mach) : Mach :=
  match m.boot.restart, m.boot.mb with
  | some op, some c =>
    let m := m.coreBack
    if op = 8 then m.mbPost c 0
    else
      let k := m.idleSlot
      let code := authCode f.secMin (m.boot.slot k) false
      if code = 0 then
        let m := (m.runSlot f k).wr Reg.Mailbox.BOOT_FAIL 0
        (m.event .mailbox 0 0x4C12 (m.rd Reg.Mailbox.FW_RUNNING) k).mbPost c 0
      else ((m.wr Reg.Mailbox.BOOT_FAIL code).authFailed k code).mbPost c (authResult code)
  | _, _ => m

def execMgmtRestartDone (t : Nat) (s : State) : Out := s.run t (mgmtRestartDone s.fuse)

/-- HOST_READ_COMPLETION_TIMEOUT: a host read of a Data Mover job, or of the mailbox command where `job` is none, reaches its completion
timeout: the job ends with POISON, the command with DMA_FAIL (R117, R508). -/
def hostReadTimeout (job : Option Nat) (m : Mach) : Mach :=
  match job with
  | none => if m.mbPort.isSome then m.modBoot fun b => { b with dmaFail := true } else m
  | some j =>
    match Tbl.find m.mover.jobs j with
    | some b => if b.readOut.isSome then (m.setJob j { b with readOut := none }).jobCode j 2 else m
    | none => m

def execHostReadCompletionTimeout (t : Nat) (job : Option (Fin 64)) (s : State) : Out :=
  s.run t (hostReadTimeout (job.map fun j => j.val))

/-! ### PLDM for Firmware Update in recovery mode (R500). Command and completion codes are those of DSP0267 (PRESUMED). -/

/-- A PLDM command reaches the boot ROM in recovery mode; elsewhere none is answered. -/
def Mach.pldmCmd (m : Mach) (f : Mach → Mach) : Mach := if m.rd Reg.Mailbox.BOOT_STAGE = 7 then f m else m

/-- Set the update's state. -/
def Mach.setPldm (m : Mach) (x : Pldm) : Mach := m.modBoot fun b => { b with pldm := x }

/-- The completion codes NOT_IN_UPDATE_MODE, ALREADY_IN_UPDATE_MODE and INVALID_STATE_FOR_COMMAND. -/
def notInUpdate : Nat := 0x80
def alreadyInUpdate : Nat := 0x81
def badPldmState : Nat := 0x84

/-- The refusal of a command in the state there is. -/
def Mach.pldmRefuse (m : Mach) (cmd : Nat) : Mach :=
  m.emit (.pldm cmd (if m.boot.pldm.st = 0 then notInUpdate else badPldmState) [])

/-- PLDM_QUERY_DEVICE_IDENTIFIERS: PCI Vendor ID, Device ID, Revision ID, serial number. -/
def execPldmQueryDeviceIdentifiers (t : Nat) (s : State) : Out :=
  s.run t fun m => m.pldmCmd fun m => m.emit (.pldm 0x01 0 [Config.vendorId.toNat, 0x6416, 0xB0, m.serial])

/-- PLDM_GET_FIRMWARE_PARAMETERS: one component, the version in slot A. -/
def execPldmGetFirmwareParameters (t : Nat) (s : State) : Out :=
  s.run t fun m => m.pldmCmd fun m => m.emit (.pldm 0x02 0 [1, (m.boot.slotA.img.map fun i => i.version).getD 0])

/-- PLDM_REQUEST_UPDATE. -/
def pldmRequestUpdate (m : Mach) : Mach :=
  if m.boot.pldm.st != 0 then m.emit (.pldm 0x10 alreadyInUpdate []) else (m.setPldm { st := 1 }).emit (.pldm 0x10 0 [])

def execPldmRequestUpdate (t : Nat) (s : State) : Out := s.run t fun m => m.pldmCmd pldmRequestUpdate

/-- PLDM_PASS_COMPONENT_TABLE: only the one firmware component is accepted. -/
def pldmPassTable (firmware : Bool) (m : Mach) : Mach :=
  if m.boot.pldm.st != 1 then m.pldmRefuse 0x13
  else if firmware then (m.setPldm { st := 2 }).emit (.pldm 0x13 0 [0])
  else m.emit (.pldm 0x13 0 [1])

def execPldmPassComponentTable (t : Nat) (firmware : Bool) (s : State) : Out :=
  s.run t fun m => m.pldmCmd (pldmPassTable firmware)

/-- A piece of at most 1,024 bytes is asked for; one request is outstanding. -/
def Mach.askData (m : Mach) (x : Pldm) : Mach :=
  (m.setPldm { x with asked := m.tide }).emit (.pldm 0x15 0 [x.next, min 1024 (x.size - x.next)])

/-- PLDM_UPDATE_COMPONENT: the transfer of the firmware component, of at most 8 MB, starts. -/
def pldmUpdate (firmware : Bool) (size : Nat) (m : Mach) : Mach :=
  if m.boot.pldm.st != 2 then m.pldmRefuse 0x14
  else if !firmware || size = 0 || 2 ^ 23 < size then m.emit (.pldm 0x14 0 [1])
  else (m.emit (.pldm 0x14 0 [0])).askData { st := 3, size := size }

def execPldmUpdateComponent (t : Nat) (firmware : Bool) (size : Nat) (s : State) : Out :=
  s.run t fun m => m.pldmCmd (pldmUpdate firmware size)

/-- The whole image is in slot A: TransferComplete, VerifyComplete under R498, and, where it passes, slot A preferred and
ApplyComplete. -/
def Mach.pldmWhole (m : Mach) (f : Fuses) (x : Pldm) (img : FwImage) : Mach :=
  let m := (m.modBoot fun b => { b with slotA := { img := some img } }).emit (.pldm 0x16 0 [])
  let code := authCode f.secMin { img := some img } false
  let m := m.emit (.pldm 0x17 code [])
  if code = 0 then ((m.modBoot fun b => { b with preferred := 0 }).setPldm { x with st := 6 }).emit (.pldm 0x18 0 [])
  else (m.authFailed 0 code).setPldm { x with st := 4 }

/-- PLDM_FIRMWARE_DATA: a piece of the image `img` arrives and is written into slot A. -/
def pldmData (f : Fuses) (img : FwImage) (m : Mach) : Mach :=
  let x := m.boot.pldm
  if x.st != 3 then m
  else
    let x := { x with next := min x.size (x.next + 1024) }
    if x.size ≤ x.next then m.pldmWhole f x img
    else
      let m := m.modBoot fun b => { b with slotA := { img := some { img with digestOk := false } } }
      m.askData x

def execPldmFirmwareData (t : Nat) (img : FwImage) (s : State) : Out :=
  s.run t fun m => m.pldmCmd (pldmData s.fuse img)

/-- PLDM_ACTIVATE_FIRMWARE: no self-contained activation; a reset is needed (1). -/
def pldmActivate (m : Mach) : Mach :=
  if m.boot.pldm.st != 6 then m.pldmRefuse 0x1A else (m.setPldm {}).emit (.pldm 0x1A 0 [1])

def execPldmActivateFirmware (t : Nat) (s : State) : Out := s.run t fun m => m.pldmCmd pldmActivate

/-- PLDM_GET_STATUS: the state, and how much of the image has arrived. -/
def execPldmGetStatus (t : Nat) (s : State) : Out :=
  s.run t fun m => m.pldmCmd fun m => m.emit (.pldm 0x1B 0 [m.boot.pldm.st, m.boot.pldm.next, m.boot.pldm.size])

/-- PLDM_CANCEL_UPDATE_COMPONENT: the transfer ends, the update goes on; slot A stays as written so far. -/
def pldmCancelComponent (m : Mach) : Mach :=
  if m.boot.pldm.st = 3 || m.boot.pldm.st = 4 then (m.setPldm { st := 2 }).emit (.pldm 0x1C 0 []) else m.pldmRefuse 0x1C

def execPldmCancelUpdateComponent (t : Nat) (s : State) : Out := s.run t fun m => m.pldmCmd pldmCancelComponent

/-- PLDM_CANCEL_UPDATE: the update ends. -/
def pldmCancel (m : Mach) : Mach :=
  if m.boot.pldm.st = 0 then m.pldmRefuse 0x1D else (m.setPldm {}).emit (.pldm 0x1D 0 [])

def execPldmCancelUpdate (t : Nat) (s : State) : Out := s.run t fun m => m.pldmCmd pldmCancel

/-- PLDM_DATA_TIMEOUT: 60 s without an answer to RequestFirmwareData end the update. -/
def pldmTimeout (m : Mach) : Mach :=
  if m.boot.pldm.st = 3 && m.boot.pldm.asked + 60000000000 ≤ m.tide then m.setPldm {} else m

def execPldmDataTimeout (t : Nat) (s : State) : Out := s.run t fun m => m.pldmCmd pldmTimeout

end Sys2Proof.Machine
end

