-- ==== Sys2Proof/Machine/RegWrite.lean ====
section
/-! DEFINITION. REG_WRITE: a BAR0 write by offset (R4 to R10, R26 to R31). The write is split into the fields of the register; RW
fields take their values first, then the triggers among them act. -/

namespace Sys2Proof.Machine

/-! ### The fields that a write reaches -/

/-- A write to the 32 or 64 bits of a register that start at bit `lo`: its width and its value. -/
structure WriteBits where
  lo : Nat
  width : Nat
  val : Nat
deriving DecidableEq, Repr

/-- The bit of its 64-bit register at which a field lies. -/
def Field.pos (f : Field) (n : Nat) : Nat := (f.off * 8 + f.lsb + n * f.stride) % 64

/-- Whether a write reaches a field of the register. -/
def WriteBits.reaches (w : WriteBits) (f : Field) (n : Nat) : Bool := f.pos n < w.lo + w.width && w.lo < f.pos n + f.width

/-- A field's value once the written half is merged into `old` (R29). -/
def WriteBits.merge (w : WriteBits) (f : Field) (n old : Nat) : Nat :=
  let r := old % f.lim * 2 ^ f.pos n
  let r := r % 2 ^ w.lo + w.val % 2 ^ w.width * 2 ^ w.lo + r / 2 ^ (w.lo + w.width) * 2 ^ (w.lo + w.width)
  r / 2 ^ f.pos n % f.lim

/-- The fields, with their indexes, of the register at a page offset that a write reaches. -/
def WriteBits.fields (w : WriteBits) (k : PageKind) (off : Nat) : List (Field × Nat) :=
  (pageFields k).flatMap fun f =>
    (f.idx.filter fun n => (f.off * 8 + f.lsb + n * f.stride) / 64 = off / 8 && w.reaches f n).map fun n => (f, n)

/-! ### LIVE fields -/

/-- Whether a field takes a value that is written now: not an RWL LIVE field of a locked page (R6), not a reserved encoding of a LIVE
field (R4), not `ENABLE` where the page has none, not the mirror's place while it runs (R491). -/
def Mach.takes (m : Mach) (p : PageId) (f : Field) (v : Nat) : Bool :=
  if f = Reg.Hdr.ENABLE p.kind then enableWritable p.kind
  else if f.attr = .live then
    liveOk f v && !(f.access = .rwl && m.flag (Reg.Hdr.LOCKED p.kind) p.inst) &&
      !([Reg.Gauge.MIRROR_PORT, Reg.Gauge.MIRROR_LOG2, Reg.Gauge.MIRROR_HPA].contains f && m.flag Reg.Gauge.MIRROR_EN)
  else true

/-- Host mirroring is switched on; where its port cannot be written through or the Data Mover is off, it stops at once (R491). -/
def Mach.mirrorOnNow (m : Mach) : Mach :=
  let m := (m.wr Reg.Gauge.MIRROR_EN 1).wr Reg.Gauge.MIRROR_STATE 1
  let p := m.rd Reg.Gauge.MIRROR_PORT
  if !m.flag Reg.HostPort.DL_UP p then m.mirrorStop p 2
  else if !(m.port p).bme then m.mirrorStop p 3
  else if !m.enabled .dataMover then m.mirrorStop p 4
  else m

/-- `PAGE_CTL.ENABLE` is written: what a change of it does, as each chapter says. 1 returns a detached Twin to WAITING even where it
was 1 (R419). -/
def Mach.enableWrite (m : Mach) (p : PageId) (on : Bool) : Mach :=
  let i := p.inst
  let m' := m.wb (Reg.Hdr.ENABLE p.kind) on i
  if p.kind = .twin && on then m'.twinBack
  else if m.enabled p.kind i = on then m
  else
    match p.kind, on with
    | .hostPort, false => portDisable i m
    | .hostPort, true => m'.modPort i fun x => { x with holdQuiet := false, trainTries := 0 }
    | .dataMover, false => (m'.mirrorStop 0 4).showMover
    | .dataMover, true => m'.showMover
    | .siphon, false => m.siphonDisable
    | .siphon, true => m'.showSip
    | .furrow, false => m.furrowDisable
    | .rekey, _ => m'.rekeyPause
    | .culvert, false => m.culvertDisable i
    | .turnout, false => fabricLeave m
    | .turnout, true => m.fabricBack
    | .twin, false => m.twinDetach 3
    | .sluice, false => m'.offAccepted i
    | _, _ => m'

/-- A write to an RW, RWS or RWL field that is taken: its value, and what depends on it at once. The bit of the writing source in
`CFG_WRITERS` stays set (R31). -/
def Mach.putRw (m : Mach) (p : PageId) (src : Nat) (f : Field) (n v : Nat) : Mach :=
  let i := p.inst
  let set := m.wr f v i n
  if f.commits then set.wr (Reg.Hdr.STAGE_DIRTY p.kind) 1 i
  else if f = Reg.Hdr.ENABLE p.kind then m.enableWrite p (v != 0)
  else if f = Reg.Hdr.HALT p.kind then m.haltWrite p (v != 0)
  else if f = Reg.Hdr.EVT_ENABLE p.kind || f = Reg.Hdr.BLOCK_EVT_ENABLE p.kind then m.withEdge p fun m => m.wr f v i n
  else if f = Reg.Device.PORT_WR then m.wr f (if src < 4 then setBit v src true else v) i n
  else if f = Reg.Device.BMC_WR then m.wr f (if src = 4 then 1 else v) i n
  else if f = Reg.Headgate.CALL_EN || f = Reg.Headgate.CALL_FORCE then set.followCall i
  else if f = Reg.Crypto.ALARM_EN then set.showAlarm
  else if f = Reg.Power.CLIENT_EN then (m.wr f (v % 2 ^ 28) i n).powerUpdate
  else if f = Reg.Gauge.MIRROR_EN then
    if v = 0 then set.wr Reg.Gauge.MIRROR_STATE 0 else if m.flag f then m else m.mirrorOnNow
  else if f = Reg.Gauge.READ_SEQ then m.readSeq v
  else set

/-! ### Triggers -/

/-- What a WO or W1C field does once 1, or a value, is written to it: instance, index, value. -/
abbrev Trigger := Field × (Mach → Nat → Nat → Nat → Mach)

/-- The triggers of the header (R26, R33, R43 to R47, R51). -/
def hdrTriggers (p : PageId) (src : Nat) : List Trigger :=
  [(Reg.Hdr.SOFT_CLEAR p.kind, fun m _ _ _ => m.softClear p), (Reg.Hdr.LOCK p.kind, fun m _ _ _ => m.lockPage src p),
   (Reg.Hdr.GO p.kind, fun m _ _ _ => m.commitGo p), (Reg.Hdr.TAKE p.kind, fun m _ _ _ => m.snapTake p),
   (Reg.Hdr.EVT_STATUS p.kind, fun m _ _ v => m.evtClear p v), (Reg.Hdr.BLOCK_EVT p.kind, fun m _ _ v => m.evtClear p (v * 16))]

/-- The triggers of the pages Device to Furrow. -/
def triggersA (src : Nat) : List Trigger :=
  [(Reg.Device.LOCK_ALL, fun m _ _ _ => m.each allPages fun m q => m.lockPage src q),
   (Reg.Clock.ISLAND_LOST, fun m _ _ v => m.wr Reg.Clock.ISLAND_LOST (m.rd Reg.Clock.ISLAND_LOST - (m.rd Reg.Clock.ISLAND_LOST &&& v))),
   (Reg.HostPort.RETRAIN, fun m i _ _ => linkRetrain i (m.port i).peerRate (m.port i).peerWidth (m.port i).peerLo none m),
   (Reg.HostPort.EQ128_RETRY, fun m i _ _ => m.wr Reg.HostPort.EQ128_FAILED 0 i),
   (Reg.Headgate.LATE_POP, fun m i _ _ => latePop i m),
   (Reg.DataMover.GO, fun m _ _ _ => jobSubmit src m),
   (Reg.DataMover.ABORT_GO, fun m _ _ _ => m.jobAbort (m.rd Reg.DataMover.ABORT_SLOT)),
   (Reg.DataMover.RELEASE_GO, fun m _ _ _ => m.jobRelease (m.rd Reg.DataMover.RELEASE_SLOT)),
   (Reg.TransCache.FLUSH, fun m _ _ _ => m.setFsm .transCache 1),
   (Reg.Siphon.CMD_GO, fun m _ _ _ => m.sipGo),
   (Reg.Levee.FLIP_ARM, fun m _ _ _ => m.flipArm), (Reg.Levee.FLIP_DISARM, fun m _ _ _ => m.flipDisarm),
   (Reg.Furrow.PASS_STOP, fun m _ _ _ => m.passStop), (Reg.Furrow.PASS_GO, fun m _ _ _ => m.passGo)]

/-- The triggers of the pages Canal to Shared. -/
def triggersB (src : Nat) : List Trigger :=
  [(Reg.Canal.OOS_REQ, fun m i _ _ => m.oosReq i), (Reg.Canal.RETURN_GO, fun m i _ _ => m.returnGo i),
   (Reg.Crypto.KEY_DATA, fun m _ n v => m.wr Reg.Crypto.KEY_DATA v 0 n),
   (Reg.Crypto.CMD_GO, fun m _ _ _ =>
     m.keyGo (m.rd Reg.Crypto.CMD_OP) (m.rd Reg.Crypto.CMD_SLOT) src (m.flag Reg.Crypto.CMD_LOCK)),
   (Reg.Crypto.ALARM_CAUSE, fun m _ _ v => m.alarmClear v),
   (Reg.Rekey.RK_GO, fun m _ _ _ => m.rekeyGo (m.rd Reg.Rekey.RK_TRACT) (m.rd Reg.Rekey.RK_NEW_SLOT) src),
   (Reg.Culvert.RETRAIN, fun m i _ _ => m.startRetrain i 3 true), (Reg.Culvert.RESTART, fun m i _ _ => m.startLink i),
   (Reg.Shared.TEAR, fun m _ r _ => m.tear r 5 none), (Reg.Shared.REFORM, fun m _ r _ => m.reform r)]

/-- The triggers of the pages Twin to Mailbox. -/
def triggersC (f : Fuses) (src : Nat) : List Trigger :=
  [(Reg.Twin.RESILVER_GO, fun m _ _ _ => m.startResilver), (Reg.Twin.RESILVER_FULL, fun m _ _ _ => m.wantFull),
   (Reg.Twin.DETACH, fun m _ _ _ => m.twinDetach 1), (Reg.Twin.UNFENCE, fun m _ _ _ => m.unfence),
   (Reg.Sluice.ON_REQ, fun m i _ _ => m.onReq i), (Reg.Sluice.OFF_REQ, fun m i _ _ => m.offReq i (m.flag Reg.Sluice.OFF_FORCE i)),
   (Reg.Sluice.UNLATCH, fun m i _ _ => m.unlatch i), (Reg.Sluice.CURVE_SWAP, fun m i _ _ => m.curveSwap i),
   (Reg.Sluice.ENERGY_CLR, fun m i _ _ => m.energyClr i),
   (Reg.Power.VOTE_SET, fun m _ _ v => m.voteSet src v), (Reg.Power.VOTE_CLR, fun m _ _ v => (m.vote src v false).powerUpdate),
   (Reg.Gauge.CLEAR_REQ, fun m _ _ _ => m.clearReq src), (Reg.Gauge.CLEAR_RESP, fun m _ _ v => m.clearResp f src v),
   (Reg.Mailbox.MB_GO, fun m _ _ _ => m.mbGo f (m.rd Reg.Mailbox.MB_OP) src)]

/-- The WO fields on which a write of any value acts; the others act on 1 bits. -/
def anyValue : List Field := [Reg.Crypto.KEY_DATA, Reg.Gauge.CLEAR_RESP]

/-- Run the trigger of a WO or W1C field. -/
def Mach.runTrigger (m : Mach) (fu : Fuses) (p : PageId) (src : Nat) (f : Field) (n v : Nat) : Mach :=
  match (hdrTriggers p src ++ triggersA src ++ triggersB src ++ triggersC fu src).find? fun e => e.1 = f with
  | some e => e.2 m p.inst n v
  | none => m

/-! ### The write -/

/-- The value that a write gives a field: merged with what it holds where it can be read back or holds a key word, else with 0. -/
def Mach.writeVal (m : Mach) (p : PageId) (w : WriteBits) (e : Field × Nat) : Nat :=
  let keep := e.1.access = .rw || e.1.access = .rws || e.1.access = .rwl || e.1 = Reg.Crypto.KEY_DATA
  w.merge e.1 e.2 (if keep then m.rd e.1 p.inst e.2 else 0)

/-- The fields of a register take a write: the stored fields first, then the triggers. A Siphon command with a reserved `CMD_OP` is
ignored and counted (R207). -/
def Mach.putReg (m : Mach) (fu : Fuses) (p : PageId) (src : Nat) (w : WriteBits) (fs : List (Field × Nat)) : Mach :=
  let vals := fs.map fun e => (e, m.writeVal p w e)
  let badOp := vals.any fun e => e.1.1 = Reg.Siphon.CMD_OP && !liveOk e.1.1 e.2
  let m' := m.each (vals.filter fun e => e.1.1.access = .rw || e.1.1.access = .rws || e.1.1.access = .rwl) fun m' e =>
    if m.takes p e.1.1 e.2 then m'.putRw p src e.1.1 e.1.2 e.2 else m'
  m'.each (vals.filter fun e => anyValue.contains e.1.1 || ((e.1.1.access = .wo || e.1.1.access = .w1c) && e.2 != 0)) fun m e =>
    if badOp && e.1.1 = Reg.Siphon.CMD_GO then m.inc Reg.Siphon.CMD_REJECTS else m.runTrigger fu p src e.1.1 e.1.2 e.2

/-- A write of `size` bytes at a BAR0 offset (R29 to R31): a bad access is counted and ignored, an offset outside every page is ignored,
a source that may not write is counted, a register without fields is ignored. -/
def regWrite (src off size val : Nat) (fu : Fuses) (m : Mach) : Mach :=
  if 2 ≤ m.pw.st then m
  else if !((size = 8 || size = 4) && off % size = 0) then m.awake.inc Reg.Device.BAD_ACCESS
  else
    match pageAt off with
    | none => m.awake
    | some p =>
      let w : WriteBits := ⟨if size = 8 then 0 else off % 8 * 8, size * 8, val⟩
      let o := off % 4096
      let fs := w.fields p.kind o
      m.ctlWrite p src fun m =>
        let m := if 0x100 ≤ o && o < 0x600 && !fs.isEmpty then m.wr (Reg.Hdr.SRC p.kind) src p.inst else m
        m.putReg fu p src w fs

/-- REG_WRITE (R29). -/
def execRegWrite (t : Nat) (src : Source) (off size : Nat) (val : BitVec 64) (s : State) : Out :=
  s.runFuse t fun f m => (f, regWrite src off size val.toNat f m)

end Sys2Proof.Machine
end

