-- ==== Sys2Proof/Machine/Dispatch.lean ====
section
/-! DEFINITION. What each command does: one arm per constructor, each a call of its meaning. -/

namespace Sys2Proof.Machine

def exec (i : Instr) (s : State) : Host.Outcome State Fault Refusal :=
  match i with
  | .regWrite t src off size val => Sys2Proof.Machine.execRegWrite t src off size val s
  | .islandClockLoss t isl pll => Sys2Proof.Machine.execIslandClockLoss t isl pll s
  | .islandClockReturn t isl => Sys2Proof.Machine.execIslandClockReturn t isl s
  | .turnBoundary t => Sys2Proof.Machine.execTurnBoundary t s
  | .beaconArrival t isl offset fails => Sys2Proof.Machine.execBeaconArrival t isl offset fails s
  | .halfTurnPoint t => Sys2Proof.Machine.execHalfTurnPoint t s
  | .floorHoldPoint t p => Sys2Proof.Machine.execFloorHoldPoint t p s
  | .commitGo t src p => Sys2Proof.Machine.execCommitGo t src p s
  | .commitValidate t => Sys2Proof.Machine.execCommitValidate t s
  | .pageHaltRequest t src p halt => Sys2Proof.Machine.execPageHaltRequest t src p halt s
  | .pageHalted t p => Sys2Proof.Machine.execPageHalted t p s
  | .softClear t src p => Sys2Proof.Machine.execSoftClear t src p s
  | .pageLock t src p => Sys2Proof.Machine.execPageLock t src p s
  | .lockAll t src => Sys2Proof.Machine.execLockAll t src s
  | .snapTake t src p => Sys2Proof.Machine.execSnapTake t src p s
  | .deviceSnapTake t src => Sys2Proof.Machine.execDeviceSnapTake t src s
  | .evtStatusClear t src p mask => Sys2Proof.Machine.execEvtStatusClear t src p mask s
  | .msixUnmask t p vec => Sys2Proof.Machine.execMsixUnmask t p vec s
  | .linkTraining t p reason ltssm again eq => Sys2Proof.Machine.execLinkTraining t p reason ltssm again eq s
  | .linkUp t p rate width ltssm lo cfg => Sys2Proof.Machine.execLinkUp t p rate width ltssm lo cfg s
  | .linkRetrain t src p rate width lo eq => Sys2Proof.Machine.execLinkRetrain t src p rate width lo eq s
  | .eq128Retry t src p => Sys2Proof.Machine.execEq128Retry t src p s
  | .linkRateChange t p rate width => Sys2Proof.Machine.execLinkRateChange t p rate width s
  | .ideIntegrityFailure t p mem flits => Sys2Proof.Machine.execIdeIntegrityFailure t p mem flits s
  | .decoderCommit t p n base size ways gran bi => Sys2Proof.Machine.execDecoderCommit t p n base size ways gran bi s
  | .decoderUncommit t p n => Sys2Proof.Machine.execDecoderUncommit t p n s
  | .linkDrop t p => Sys2Proof.Machine.execLinkDrop t p s
  | .tagsFreedAfterDrop t p => Sys2Proof.Machine.execTagsFreedAfterDrop t p s
  | .portDisable t src p => Sys2Proof.Machine.execPortDisable t src p s
  | .flr t p => Sys2Proof.Machine.execFlr t p s
  | .flrComplete t p cfg => Sys2Proof.Machine.execFlrComplete t p cfg s
  | .hotReset t p => Sys2Proof.Machine.execHotReset t p s
  | .portPerst t p asserted => Sys2Proof.Machine.execPortPerst t p asserted s
  | .deviceFundamentalReset t => Sys2Proof.Machine.execDeviceFundamentalReset t s
  | .ddtRebuild t done => Sys2Proof.Machine.execDdtRebuild t done s
  | .identifyMemoryDevice t p => Sys2Proof.Machine.execIdentifyMemoryDevice t p s
  | .getSupportedLogs t p => Sys2Proof.Machine.execGetSupportedLogs t p s
  | .getLog t p effects => Sys2Proof.Machine.execGetLog t p effects s
  | .getHealthInfo t p => Sys2Proof.Machine.execGetHealthInfo t p s
  | .getEventRecords t p => Sys2Proof.Machine.execGetEventRecords t p s
  | .clearEventRecords t p n => Sys2Proof.Machine.execClearEventRecords t p n s
  | .getPoisonList t p => Sys2Proof.Machine.execGetPoisonList t p s
  | .getFwInfo t p => Sys2Proof.Machine.execGetFwInfo t p s
  | .getTimestamp t p => Sys2Proof.Machine.execGetTimestamp t p s
  | .setTimestamp t p v => Sys2Proof.Machine.execSetTimestamp t p v s
  | .mailboxUnsupported t p op => Sys2Proof.Machine.execMailboxUnsupported t p op s
  | .doeDiscovery t p tt ready => Sys2Proof.Machine.execDoeDiscovery t p tt ready s
  | .doeCmaSpdm t p len ready => Sys2Proof.Machine.execDoeCmaSpdm t p len ready s
  | .doeSecuredSpdm t p len ready => Sys2Proof.Machine.execDoeSecuredSpdm t p len ready s
  | .cdatTableAccess t p ready => Sys2Proof.Machine.execCdatTableAccess t p ready s
  | .doeAbort t p => Sys2Proof.Machine.execDoeAbort t p s
  | .cxlMemrd t p hostTag hpa dataOnly want => Sys2Proof.Machine.execCxlMemrd t p hostTag hpa dataOnly want s
  | .cxlMemspecrd t p hpa fetch => Sys2Proof.Machine.execCxlMemspecrd t p hpa fetch s
  | .cxlMemwr t p hostTag hpa data poison giveUp => Sys2Proof.Machine.execCxlMemwr t p hostTag hpa data poison giveUp s
  | .cxlMemwrptl t p hostTag hpa data be poison giveUp => Sys2Proof.Machine.execCxlMemwrptl t p hostTag hpa data be poison giveUp s
  | .cxlMeminv t p hostTag hpa nt => Sys2Proof.Machine.execCxlMeminv t p hostTag hpa nt s
  | .cxlMemclnevct t p hostTag hpa => Sys2Proof.Machine.execCxlMemclnevct t p hostTag hpa s
  | .cxlBiconflict t p hostTag hpa => Sys2Proof.Machine.execCxlBiconflict t p hostTag hpa s
  | .birspReceived t p line shared => Sys2Proof.Machine.execBirspReceived t p line shared s
  | .headgateRelease t p => Sys2Proof.Machine.execHeadgateRelease t p s
  | .poolGrant t asks a wrt n => Sys2Proof.Machine.execPoolGrant t asks a wrt n s
  | .callLevelChange t p level => Sys2Proof.Machine.execCallLevelChange t p level s
  | .readDataReturn t p g errs cisBad victim intl => Sys2Proof.Machine.execReadDataReturn t p g errs cisBad victim intl s
  | .readEgressLimit t p g => Sys2Proof.Machine.execReadEgressLimit t p g s
  | .responseSent t p g => Sys2Proof.Machine.execResponseSent t p g s
  | .writeLocalCommit t p g bad => Sys2Proof.Machine.execWriteLocalCommit t p g bad s
  | .mergeDrain t es bad => Sys2Proof.Machine.execMergeDrain t es bad s
  | .drainComplete t es fails lost => Sys2Proof.Machine.execDrainComplete t es fails lost s
  | .partialFetchComplete t e errs cisBad => Sys2Proof.Machine.execPartialFetchComplete t e errs cisBad s
  | .internalOpStart t kind line slot => Sys2Proof.Machine.execInternalOpStart t kind line slot s
  | .internalStepDeadline t n => Sys2Proof.Machine.execInternalStepDeadline t n s
  | .lateW0Read t p => Sys2Proof.Machine.execLateW0Read t p s
  | .latePop t src p => Sys2Proof.Machine.execLatePop t src p s
  | .jobSubmit t src dir port allot intr tag => Sys2Proof.Machine.execJobSubmit t src dir port allot intr tag s
  | .jobStart t => Sys2Proof.Machine.execJobStart t s
  | .dmHostReadCompletion t slot ok data => Sys2Proof.Machine.execDmHostReadCompletion t slot ok data s
  | .jobEnd t slot => Sys2Proof.Machine.execJobEnd t slot s
  | .jobAbort t src slot => Sys2Proof.Machine.execJobAbort t src slot s
  | .jobRelease t src slot => Sys2Proof.Machine.execJobRelease t src slot s
  | .weirRecompute t => Sys2Proof.Machine.execWeirRecompute t s
  | .frameDrainComplete t f => Sys2Proof.Machine.execFrameDrainComplete t f s
  | .translationFetchDone t plot ns bad copyBad next evict => Sys2Proof.Machine.execTranslationFetchDone t plot ns bad copyBad next evict s
  | .tcFlush t src => Sys2Proof.Machine.execTcFlush t src s
  | .tcFlushDone t => Sys2Proof.Machine.execTcFlushDone t s
  | .siphonPromote t src tag => Sys2Proof.Machine.execSiphonPromote t src tag s
  | .siphonDemote t src tag => Sys2Proof.Machine.execSiphonDemote t src tag s
  | .siphonCompress t src tag => Sys2Proof.Machine.execSiphonCompress t src tag s
  | .siphonExpand t src tag => Sys2Proof.Machine.execSiphonExpand t src tag s
  | .siphonPin t src tag => Sys2Proof.Machine.execSiphonPin t src tag s
  | .siphonUnpin t src tag => Sys2Proof.Machine.execSiphonUnpin t src tag s
  | .siphonDiscard t src tag => Sys2Proof.Machine.execSiphonDiscard t src tag s
  | .siphonTractOut t src slot peer tag => Sys2Proof.Machine.execSiphonTractOut t src slot peer tag s
  | .siphonTractIn t src slot peer mode tag => Sys2Proof.Machine.execSiphonTractIn t src slot peer mode tag s
  | .siphonMoveStep t errs cisBad => Sys2Proof.Machine.execSiphonMoveStep t errs cisBad s
  | .tractMoveEnd t => Sys2Proof.Machine.execTractMoveEnd t s
  | .siphonDisable t src => Sys2Proof.Machine.execSiphonDisable t src s
  | .decayEpochAdvance t => Sys2Proof.Machine.execDecayEpochAdvance t s
  | .dirFetchDone t plot bad copyBad => Sys2Proof.Machine.execDirFetchDone t plot bad copyBad s
  | .rowDecodeDone t plot row wait read victims => Sys2Proof.Machine.execRowDecodeDone t plot row wait read victims s
  | .compressDone t enc => Sys2Proof.Machine.execCompressDone t enc s
  | .rewriteStart t e => Sys2Proof.Machine.execRewriteStart t e s
  | .rewriteStore t plot row enc => Sys2Proof.Machine.execRewriteStore t plot row enc s
  | .recoveryRereadDone t k errs => Sys2Proof.Machine.execRecoveryRereadDone t k errs s
  | .stripeRecomputeDone t k errs => Sys2Proof.Machine.execStripeRecomputeDone t k errs s
  | .repairWrite t => Sys2Proof.Machine.execRepairWrite t s
  | .repairTimeout t => Sys2Proof.Machine.execRepairTimeout t s
  | .flipArm t src => Sys2Proof.Machine.execFlipArm t src s
  | .flipDisarm t src => Sys2Proof.Machine.execFlipDisarm t src s
  | .furrowPassGo t src => Sys2Proof.Machine.execFurrowPassGo t src s
  | .furrowPassStop t src => Sys2Proof.Machine.execFurrowPassStop t src s
  | .furrowDisable t src => Sys2Proof.Machine.execFurrowDisable t src s
  | .furrowStepDone t errs => Sys2Proof.Machine.execFurrowStepDone t errs s
  | .canalTrainingStart t c => Sys2Proof.Machine.execCanalTrainingStart t c s
  | .canalTrainingDone t c fail spd raw => Sys2Proof.Machine.execCanalTrainingDone t c fail spd raw s
  | .canalFillComplete t c => Sys2Proof.Machine.execCanalFillComplete t c s
  | .refreshDue t c rank busy drift => Sys2Proof.Machine.execRefreshDue t c rank busy drift s
  | .dimmThermalRead t c t0 t1 => Sys2Proof.Machine.execDimmThermalRead t c t0 t1 s
  | .caParityAlert t c again => Sys2Proof.Machine.execCaParityAlert t c again s
  | .rcdInternalError t c => Sys2Proof.Machine.execRcdInternalError t c s
  | .oosReq t src c force pair => Sys2Proof.Machine.execOosReq t src c force pair s
  | .returnGo t src c pair => Sys2Proof.Machine.execReturnGo t src c pair s
  | .rebuildLineDone t c => Sys2Proof.Machine.execRebuildLineDone t c s
  | .keyLoad t src k lock => Sys2Proof.Machine.execKeyLoad t src k lock s
  | .keyGenerate t src k lock => Sys2Proof.Machine.execKeyGenerate t src k lock s
  | .keyClear t src k => Sys2Proof.Machine.execKeyClear t src k s
  | .keyZeroise t src k => Sys2Proof.Machine.execKeyZeroise t src k s
  | .keyCmdDone t => Sys2Proof.Machine.execKeyCmdDone t s
  | .alarmCauseClear t src mask => Sys2Proof.Machine.execAlarmCauseClear t src mask s
  | .rekeyGo t src n k => Sys2Proof.Machine.execRekeyGo t src n k s
  | .rekeyStepDone t errs cisBad => Sys2Proof.Machine.execRekeyStepDone t errs cisBad s
  | .ideQuery t p mem => Sys2Proof.Machine.execIdeQuery t p mem s
  | .ideKeyProg t p mem tx k => Sys2Proof.Machine.execIdeKeyProg t p mem tx k s
  | .ideKSetGo t p mem k => Sys2Proof.Machine.execIdeKSetGo t p mem k s
  | .ideKSetStop t p mem k => Sys2Proof.Machine.execIdeKSetStop t p mem k s
  | .flitSlotSend t l lost => Sys2Proof.Machine.execFlitSlotSend t l lost s
  | .dataFlitReceived t l h b => Sys2Proof.Machine.execDataFlitReceived t l h b s
  | .idleFlitReceived t l h => Sys2Proof.Machine.execIdleFlitReceived t l h s
  | .failedFlit t l fec => Sys2Proof.Machine.execFailedFlit t l fec s
  | .ctrlNak t l h seq => Sys2Proof.Machine.execCtrlNak t l h seq s
  | .ctrlRetrainReq t l h reason => Sys2Proof.Machine.execCtrlRetrainReq t l h reason s
  | .ctrlResume t l h next wrap phase => Sys2Proof.Machine.execCtrlResume t l h next wrap phase s
  | .ctrlSpareReq t l h k => Sys2Proof.Machine.execCtrlSpareReq t l h k s
  | .ctrlSpareAck t l h k p => Sys2Proof.Machine.execCtrlSpareAck t l h k p s
  | .ctrlSpareDone t l h k => Sys2Proof.Machine.execCtrlSpareDone t l h k s
  | .ctrlSparebackReq t l h k => Sys2Proof.Machine.execCtrlSparebackReq t l h k s
  | .ctrlSparebackAck t l h k p => Sys2Proof.Machine.execCtrlSparebackAck t l h k p s
  | .ctrlKeySwitch t l h seq phase => Sys2Proof.Machine.execCtrlKeySwitch t l h seq phase s
  | .ctrlBroken t l h cause => Sys2Proof.Machine.execCtrlBroken t l h cause s
  | .ctrlHello t l h serial link spare => Sys2Proof.Machine.execCtrlHello t l h serial link spare s
  | .nakRetryTimeout t l => Sys2Proof.Machine.execNakRetryTimeout t l s
  | .atCapTimeout t l => Sys2Proof.Machine.execAtCapTimeout t l s
  | .laneDegraded t l k corr lost => Sys2Proof.Machine.execLaneDegraded t l k corr lost s
  | .spareSwitch t l rx => Sys2Proof.Machine.execSpareSwitch t l rx s
  | .sparebackQualified t l k => Sys2Proof.Machine.execSparebackQualified t l k s
  | .culvertRetrain t src l => Sys2Proof.Machine.execCulvertRetrain t src l s
  | .retrainLanesReady t l tx rx => Sys2Proof.Machine.execRetrainLanesReady t l tx rx s
  | .retrainTimeout t l => Sys2Proof.Machine.execRetrainTimeout t l s
  | .culvertRestart t src l => Sys2Proof.Machine.execCulvertRestart t src l s
  | .restartTimer t l => Sys2Proof.Machine.execRestartTimer t l s
  | .culvertTrainingDone t l tx rx => Sys2Proof.Machine.execCulvertTrainingDone t l tx rx s
  | .culvertKeyingDone t l => Sys2Proof.Machine.execCulvertKeyingDone t l s
  | .linkKeyReady t l => Sys2Proof.Machine.execLinkKeyReady t l s
  | .culvertDisable t src l => Sys2Proof.Machine.execCulvertDisable t src l s
  | .mgmtClaim t => Sys2Proof.Machine.execMgmtClaim t s
  | .mgmtIdReq t => Sys2Proof.Machine.execMgmtIdReq t s
  | .mgmtIdGrant t => Sys2Proof.Machine.execMgmtIdGrant t s
  | .mgmtIdTable t => Sys2Proof.Machine.execMgmtIdTable t s
  | .mgmtLinkState t => Sys2Proof.Machine.execMgmtLinkState t s
  | .mgmtLeave t => Sys2Proof.Machine.execMgmtLeave t s
  | .mgmtSpdm t => Sys2Proof.Machine.execMgmtSpdm t s
  | .mgmtKeyUpdate t => Sys2Proof.Machine.execMgmtKeyUpdate t s
  | .claimPeriodic t => Sys2Proof.Machine.execClaimPeriodic t s
  | .electionSettle t => Sys2Proof.Machine.execElectionSettle t s
  | .linkStatePeriodic t => Sys2Proof.Machine.execLinkStatePeriodic t s
  | .idHoldExpiry t d => Sys2Proof.Machine.execIdHoldExpiry t d s
  | .keyingRetry t l => Sys2Proof.Machine.execKeyingRetry t l s
  | .routeRecompute t => Sys2Proof.Machine.execRouteRecompute t s
  | .fabricLeave t src => Sys2Proof.Machine.execFabricLeave t src s
  | .unitRd t l => Sys2Proof.Machine.execUnitRd t l s
  | .unitWr t l => Sys2Proof.Machine.execUnitWr t l s
  | .unitWrp t l => Sys2Proof.Machine.execUnitWrp t l s
  | .unitRdrsp t l => Sys2Proof.Machine.execUnitRdrsp t l s
  | .unitWrcmp t l => Sys2Proof.Machine.execUnitWrcmp t l s
  | .unitDemote t l => Sys2Proof.Machine.execUnitDemote t l s
  | .unitFack t l => Sys2Proof.Machine.execUnitFack t l s
  | .unitResync t l => Sys2Proof.Machine.execUnitResync t l s
  | .unitResyncAck t l => Sys2Proof.Machine.execUnitResyncAck t l s
  | .unitTransit t l => Sys2Proof.Machine.execUnitTransit t l s
  | .unitBad t l => Sys2Proof.Machine.execUnitBad t l s
  | .fabricRelease t d a => Sys2Proof.Machine.execFabricRelease t d a s
  | .ownerDeadline t g => Sys2Proof.Machine.execOwnerDeadline t g s
  | .fackTimer t d a => Sys2Proof.Machine.execFackTimer t d a s
  | .credTimeout t d a => Sys2Proof.Machine.execCredTimeout t d a s
  | .cohCrd t l => Sys2Proof.Machine.execCohCrd t l s
  | .cohEvict t l => Sys2Proof.Machine.execCohEvict t l s
  | .cohBisnp t l => Sys2Proof.Machine.execCohBisnp t l s
  | .cohBirsp t l => Sys2Proof.Machine.execCohBirsp t l s
  | .cohGrant t l => Sys2Proof.Machine.execCohGrant t l s
  | .cohAgentDown t l => Sys2Proof.Machine.execCohAgentDown t l s
  | .cohFence t l => Sys2Proof.Machine.execCohFence t l s
  | .cohReady t l => Sys2Proof.Machine.execCohReady t l s
  | .readyResend t r => Sys2Proof.Machine.execReadyResend t r s
  | .holdEnd t line => Sys2Proof.Machine.execHoldEnd t line s
  | .dirSweep t => Sys2Proof.Machine.execDirSweep t s
  | .biTimeout t line k => Sys2Proof.Machine.execBiTimeout t line k s
  | .regionTear t src r => Sys2Proof.Machine.execRegionTear t src r s
  | .regionReform t src r => Sys2Proof.Machine.execRegionReform t src r s
  | .twinMirror t => Sys2Proof.Machine.execTwinMirror t s
  | .twinMirrorP t => Sys2Proof.Machine.execTwinMirrorP t s
  | .twinFwd t => Sys2Proof.Machine.execTwinFwd t s
  | .twinFwdP t => Sys2Proof.Machine.execTwinFwdP t s
  | .twinMask t => Sys2Proof.Machine.execTwinMask t s
  | .twinOrdered t => Sys2Proof.Machine.execTwinOrdered t s
  | .twinAck t => Sys2Proof.Machine.execTwinAck t s
  | .twinRefetchReq t errs cisBad => Sys2Proof.Machine.execTwinRefetchReq t errs cisBad s
  | .twinRefetchRsp t => Sys2Proof.Machine.execTwinRefetchRsp t s
  | .twinRefetchFail t => Sys2Proof.Machine.execTwinRefetchFail t s
  | .refetchBudgetExpiry t n => Sys2Proof.Machine.execRefetchBudgetExpiry t n s
  | .twinCopy t => Sys2Proof.Machine.execTwinCopy t s
  | .twinCopyPoison t => Sys2Proof.Machine.execTwinCopyPoison t s
  | .twinCopyBlank t => Sys2Proof.Machine.execTwinCopyBlank t s
  | .twinDir t => Sys2Proof.Machine.execTwinDir t s
  | .twinHello t => Sys2Proof.Machine.execTwinHello t s
  | .twinLeave t => Sys2Proof.Machine.execTwinLeave t s
  | .twinReverse t => Sys2Proof.Machine.execTwinReverse t s
  | .twinMap t => Sys2Proof.Machine.execTwinMap t s
  | .twinPaired t => Sys2Proof.Machine.execTwinPaired t s
  | .twinCoh t => Sys2Proof.Machine.execTwinCoh t s
  | .twinCohData t => Sys2Proof.Machine.execTwinCohData t s
  | .twinBadRecord t => Sys2Proof.Machine.execTwinBadRecord t s
  | .diverseTimeout t => Sys2Proof.Machine.execDiverseTimeout t s
  | .lossTimeout t => Sys2Proof.Machine.execLossTimeout t s
  | .twinHelloPeriodic t => Sys2Proof.Machine.execTwinHelloPeriodic t s
  | .twinDetach t src why => Sys2Proof.Machine.execTwinDetach t src why s
  | .resilverGo t src => Sys2Proof.Machine.execResilverGo t src s
  | .resilverFull t src => Sys2Proof.Machine.execResilverFull t src s
  | .twinUnfence t src => Sys2Proof.Machine.execTwinUnfence t src s
  | .resilverLineSend t errs cisBad => Sys2Proof.Machine.execResilverLineSend t errs cisBad s
  | .pairedHandoverDone t => Sys2Proof.Machine.execPairedHandoverDone t s
  | .sluiceSample t c prsnt code v vin tj reg => Sys2Proof.Machine.execSluiceSample t c prsnt code v vin tj reg s
  | .curveTrip t c => Sys2Proof.Machine.execCurveTrip t c s
  | .uvTrip t c => Sys2Proof.Machine.execUvTrip t c s
  | .scComparator t c => Sys2Proof.Machine.execScComparator t c s
  | .debounceComplete t c => Sys2Proof.Machine.execDebounceComplete t c s
  | .inrushTimeout t c => Sys2Proof.Machine.execInrushTimeout t c s
  | .pgTimeout t c => Sys2Proof.Machine.execPgTimeout t c s
  | .cooldownEnd t c => Sys2Proof.Machine.execCooldownEnd t c s
  | .removalDeclared t c => Sys2Proof.Machine.execRemovalDeclared t c s
  | .presenceDetected t c => Sys2Proof.Machine.execPresenceDetected t c s
  | .goodOnTime10s t c => Sys2Proof.Machine.execGoodOnTime10s t c s
  | .sluiceMeanUpdate t c => Sys2Proof.Machine.execSluiceMeanUpdate t c s
  | .sluiceOnReq t src c => Sys2Proof.Machine.execSluiceOnReq t src c s
  | .sluiceOffReq t src c force => Sys2Proof.Machine.execSluiceOffReq t src c force s
  | .sluiceUnlatch t src c => Sys2Proof.Machine.execSluiceUnlatch t src c s
  | .curveSwap t src c => Sys2Proof.Machine.execCurveSwap t src c s
  | .energyClr t src c => Sys2Proof.Machine.execEnergyClr t src c s
  | .sluiceDisable t src c => Sys2Proof.Machine.execSluiceDisable t src c s
  | .voteSet t src mask => Sys2Proof.Machine.execVoteSet t src mask s
  | .voteClr t src mask => Sys2Proof.Machine.execVoteClr t src mask s
  | .slackEnter t => Sys2Proof.Machine.execSlackEnter t s
  | .stateEntryPrep t target => Sys2Proof.Machine.execStateEntryPrep t target s
  | .voteCommit t => Sys2Proof.Machine.execVoteCommit t s
  | .isolation t => Sys2Proof.Machine.execIsolation t s
  | .wake t code => Sys2Proof.Machine.execWake t code s
  | .wakeSeqEntry t => Sys2Proof.Machine.execWakeSeqEntry t s
  | .wakeHoldExpiry t => Sys2Proof.Machine.execWakeHoldExpiry t s
  | .tokenRefill t pg code => Sys2Proof.Machine.execTokenRefill t pg code s
  | .recordWrite t => Sys2Proof.Machine.execRecordWrite t s
  | .repeatWindowExpiry t => Sys2Proof.Machine.execRepeatWindowExpiry t s
  | .flashRecordWrite t ok => Sys2Proof.Machine.execFlashRecordWrite t ok s
  | .flashEraseDone t ok => Sys2Proof.Machine.execFlashEraseDone t ok s
  | .checkpoint t => Sys2Proof.Machine.execCheckpoint t s
  | .readSeq t src seq => Sys2Proof.Machine.execReadSeq t src seq s
  | .flashReadDone t => Sys2Proof.Machine.execFlashReadDone t s
  | .clearReq t src => Sys2Proof.Machine.execClearReq t src s
  | .clearResp t src v => Sys2Proof.Machine.execClearResp t src v s
  | .gbClear t src secured mutualAuth chained => Sys2Proof.Machine.execGbClear t src secured mutualAuth chained s
  | .challengeExpiry t => Sys2Proof.Machine.execChallengeExpiry t s
  | .clearBlockErase t => Sys2Proof.Machine.execClearBlockErase t s
  | .powerOn t => Sys2Proof.Machine.execPowerOn t s
  | .fwAuthDone t errA errB bad => Sys2Proof.Machine.execFwAuthDone t errA errB bad s
  | .riserOnSchedule t r => Sys2Proof.Machine.execRiserOnSchedule t r s
  | .riserPgTimeout t r => Sys2Proof.Machine.execRiserPgTimeout t r s
  | .mbPing t src => Sys2Proof.Machine.execMbPing t src s
  | .mbFwStage t src => Sys2Proof.Machine.execMbFwStage t src s
  | .mbFwActivate t src => Sys2Proof.Machine.execMbFwActivate t src s
  | .mbDeviceReset t src => Sys2Proof.Machine.execMbDeviceReset t src s
  | .mbProvisionAnchor t src => Sys2Proof.Machine.execMbProvisionAnchor t src s
  | .mbProvisionClearKey t src => Sys2Proof.Machine.execMbProvisionClearKey t src s
  | .mbProvisionLock t src => Sys2Proof.Machine.execMbProvisionLock t src s
  | .mbMgmtRestart t src => Sys2Proof.Machine.execMbMgmtRestart t src s
  | .mbFwRevert t src => Sys2Proof.Machine.execMbFwRevert t src s
  | .mbCmdDone t ok img data => Sys2Proof.Machine.execMbCmdDone t ok img data s
  | .mgmtRestartDone t => Sys2Proof.Machine.execMgmtRestartDone t s
  | .pldmQueryDeviceIdentifiers t => Sys2Proof.Machine.execPldmQueryDeviceIdentifiers t s
  | .pldmGetFirmwareParameters t => Sys2Proof.Machine.execPldmGetFirmwareParameters t s
  | .pldmRequestUpdate t => Sys2Proof.Machine.execPldmRequestUpdate t s
  | .pldmPassComponentTable t firmware => Sys2Proof.Machine.execPldmPassComponentTable t firmware s
  | .pldmUpdateComponent t firmware size => Sys2Proof.Machine.execPldmUpdateComponent t firmware size s
  | .pldmFirmwareData t img => Sys2Proof.Machine.execPldmFirmwareData t img s
  | .pldmActivateFirmware t => Sys2Proof.Machine.execPldmActivateFirmware t s
  | .pldmGetStatus t => Sys2Proof.Machine.execPldmGetStatus t s
  | .pldmCancelUpdateComponent t => Sys2Proof.Machine.execPldmCancelUpdateComponent t s
  | .pldmCancelUpdate t => Sys2Proof.Machine.execPldmCancelUpdate t s
  | .pldmDataTimeout t => Sys2Proof.Machine.execPldmDataTimeout t s
  | .railLoss t => Sys2Proof.Machine.execRailLoss t s
  | .vaonLoss t => Sys2Proof.Machine.execVaonLoss t s
  | .alwaysOnPowerUp t straps a b uefi => Sys2Proof.Machine.execAlwaysOnPowerUp t straps a b uefi s
  | .pairAlignmentLoss t l => Sys2Proof.Machine.execPairAlignmentLoss t l s
  | .resyncAckTimeout t d a => Sys2Proof.Machine.execResyncAckTimeout t d a s
  | .linkRekeyDue t l => Sys2Proof.Machine.execLinkRekeyDue t l s
  | .hostReadCompletionTimeout t job => Sys2Proof.Machine.execHostReadCompletionTimeout t job s
  | .busMasterEnableCleared t p => Sys2Proof.Machine.execBusMasterEnableCleared t p s
  | .mctpSpdmRequest t => Sys2Proof.Machine.execMctpSpdmRequest t s

end Sys2Proof.Machine
end

