-- ==== Sys2Proof/WellFormed.lean ====
section
/-! DEFINITION. When a command is well formed: its numbers fit the widths the spec gives them, and its page exists. The meanings do not
rely on it; an ill-formed command is one that nothing on the board can send. -/

namespace Sys2Proof

/-- A number of `n` bits. -/
def fitsBits (n v : Nat) : Bool := v < 2 ^ n

/-- A page of the page index (R52). -/
def PageId.wf (p : PageId) : Bool := p.inst < Machine.pageCount p.kind

/-- The header of a flit: 20-bit numbers, one phase bit, at most the symbols that RS corrects (R325). -/
def FlitHdr.wf (h : FlitHdr) : Bool := h.seq < 2 ^ 20 && h.ack < 2 ^ 20 && h.phase < 2

/-- What a host programs: payload sizes that PCIe has. -/
def PortCfg.wf (c : PortCfg) : Bool :=
  [128, 256, 512, 1024, 2048, 4096].contains c.mps && [128, 256, 512, 1024, 2048, 4096].contains c.mrrs

/-- An image: header fields of 32 bits and a length of 64 (R498). -/
def FwImage.wf (i : FwImage) : Bool := i.length < 2 ^ 64 && i.version < 2 ^ 32 && i.security < 2 ^ 32

/-- The SPD of a Canal: one or two modules (R269). -/
def Spd.wf (d : Spd) : Bool := d.dimms ≤ 2 && d.gb < 2 ^ 16

/-- A list of bytes. -/
def bytesWf (l : List Nat) : Bool := l.all fun b => b < 256

/-- The command is well formed. -/
def Instr.wf : Instr → Bool
  | .regWrite t _ off size _ => fitsBits 64 t && (fitsBits 64 off && fitsBits 64 size)
  | .islandClockLoss t _ _ => fitsBits 64 t && (true)
  | .islandClockReturn t _ => fitsBits 64 t && (true)
  | .turnBoundary t => fitsBits 64 t && (true)
  | .beaconArrival t _ offset _ => fitsBits 64 t && (fitsBits 64 offset)
  | .halfTurnPoint t => fitsBits 64 t && (true)
  | .floorHoldPoint t _ => fitsBits 64 t && (true)
  | .commitGo t _ p => fitsBits 64 t && (p.wf)
  | .commitValidate t => fitsBits 64 t && (true)
  | .pageHaltRequest t _ p _ => fitsBits 64 t && (p.wf)
  | .pageHalted t p => fitsBits 64 t && (p.wf)
  | .softClear t _ p => fitsBits 64 t && (p.wf)
  | .pageLock t _ p => fitsBits 64 t && (p.wf)
  | .lockAll t _ => fitsBits 64 t && (true)
  | .snapTake t _ p => fitsBits 64 t && (p.wf)
  | .deviceSnapTake t _ => fitsBits 64 t && (true)
  | .evtStatusClear t _ p _ => fitsBits 64 t && (p.wf)
  | .msixUnmask t _ _ => fitsBits 64 t && (true)
  | .linkTraining t _ reason ltssm _ _ => fitsBits 64 t && (fitsBits 8 reason && fitsBits 8 ltssm)
  | .linkUp t _ rate width ltssm _ cfg => fitsBits 64 t && (fitsBits 3 rate && fitsBits 5 width && fitsBits 8 ltssm && cfg.wf)
  | .linkRetrain t _ _ rate width _ _ => fitsBits 64 t && (fitsBits 3 rate && fitsBits 5 width)
  | .eq128Retry t _ _ => fitsBits 64 t && (true)
  | .linkRateChange t _ rate width => fitsBits 64 t && (fitsBits 3 rate && fitsBits 5 width)
  | .ideIntegrityFailure t _ _ flits => fitsBits 64 t && (fitsBits 64 flits)
  | .decoderCommit t _ _ base size ways gran _ => fitsBits 64 t && (fitsBits 64 base && fitsBits 64 size && fitsBits 64 ways && fitsBits 64 gran)
  | .decoderUncommit t _ _ => fitsBits 64 t && (true)
  | .linkDrop t _ => fitsBits 64 t && (true)
  | .tagsFreedAfterDrop t _ => fitsBits 64 t && (true)
  | .portDisable t _ _ => fitsBits 64 t && (true)
  | .flr t _ => fitsBits 64 t && (true)
  | .flrComplete t _ cfg => fitsBits 64 t && (cfg.wf)
  | .hotReset t _ => fitsBits 64 t && (true)
  | .portPerst t _ _ => fitsBits 64 t && (true)
  | .deviceFundamentalReset t => fitsBits 64 t && (true)
  | .ddtRebuild t _ => fitsBits 64 t && (true)
  | .identifyMemoryDevice t _ => fitsBits 64 t && (true)
  | .getSupportedLogs t _ => fitsBits 64 t && (true)
  | .getLog t _ _ => fitsBits 64 t && (true)
  | .getHealthInfo t _ => fitsBits 64 t && (true)
  | .getEventRecords t _ => fitsBits 64 t && (true)
  | .clearEventRecords t _ n => fitsBits 64 t && (fitsBits 64 n)
  | .getPoisonList t _ => fitsBits 64 t && (true)
  | .getFwInfo t _ => fitsBits 64 t && (true)
  | .getTimestamp t _ => fitsBits 64 t && (true)
  | .setTimestamp t _ _ => fitsBits 64 t && (true)
  | .mailboxUnsupported t _ _ => fitsBits 64 t && (true)
  | .doeDiscovery t _ _ _ => fitsBits 64 t && (true)
  | .doeCmaSpdm t _ len _ => fitsBits 64 t && (fitsBits 64 len)
  | .doeSecuredSpdm t _ len _ => fitsBits 64 t && (fitsBits 64 len)
  | .cdatTableAccess t _ _ => fitsBits 64 t && (true)
  | .doeAbort t _ => fitsBits 64 t && (true)
  | .cxlMemrd t _ hostTag hpa _ _ => fitsBits 64 t && (fitsBits 16 hostTag && fitsBits 64 hpa)
  | .cxlMemspecrd t _ hpa _ => fitsBits 64 t && (fitsBits 64 hpa)
  | .cxlMemwr t _ hostTag hpa _ _ _ => fitsBits 64 t && (fitsBits 16 hostTag && fitsBits 64 hpa)
  | .cxlMemwrptl t _ hostTag hpa _ _ _ _ => fitsBits 64 t && (fitsBits 16 hostTag && fitsBits 64 hpa)
  | .cxlMeminv t _ hostTag hpa _ => fitsBits 64 t && (fitsBits 16 hostTag && fitsBits 64 hpa)
  | .cxlMemclnevct t _ hostTag hpa => fitsBits 64 t && (fitsBits 16 hostTag && fitsBits 64 hpa)
  | .cxlBiconflict t _ hostTag hpa => fitsBits 64 t && (fitsBits 16 hostTag && fitsBits 64 hpa)
  | .birspReceived t _ line _ => fitsBits 64 t && (fitsBits 40 line)
  | .headgateRelease t _ => fitsBits 64 t && (true)
  | .poolGrant t _ _ _ n => fitsBits 64 t && (1 ≤ n && n ≤ 8)
  | .callLevelChange t _ _ => fitsBits 64 t && (true)
  | .readDataReturn t _ g _ _ victim intl => fitsBits 64 t && (fitsBits 16 g && fitsBits 64 victim && fitsBits 64 intl)
  | .readEgressLimit t _ _ => fitsBits 64 t && (true)
  | .responseSent t _ _ => fitsBits 64 t && (true)
  | .writeLocalCommit t _ g _ => fitsBits 64 t && (fitsBits 16 g)
  | .mergeDrain t es bad => fitsBits 64 t && ((es.all fun v => v < 2 ^ 40) && (bad.all fun v => v < 2 ^ 40))
  | .drainComplete t es fails lost => fitsBits 64 t && ((es.all fun v => v < 2 ^ 40) && (fails.all fun v => v < 2 ^ 40) && (lost.all fun v => v < 2 ^ 40))
  | .partialFetchComplete t e _ _ => fitsBits 64 t && (fitsBits 12 e)
  | .internalOpStart t _ line _ => fitsBits 64 t && (fitsBits 40 line)
  | .internalStepDeadline t n => fitsBits 64 t && (fitsBits 64 n)
  | .lateW0Read t _ => fitsBits 64 t && (true)
  | .latePop t _ _ => fitsBits 64 t && (true)
  | .jobSubmit t _ _ _ _ _ tag => fitsBits 64 t && (fitsBits 16 tag)
  | .jobStart t => fitsBits 64 t && (true)
  | .dmHostReadCompletion t _ _ _ => fitsBits 64 t && (true)
  | .jobEnd t _ => fitsBits 64 t && (true)
  | .jobAbort t _ _ => fitsBits 64 t && (true)
  | .jobRelease t _ _ => fitsBits 64 t && (true)
  | .weirRecompute t => fitsBits 64 t && (true)
  | .frameDrainComplete t f => fitsBits 64 t && (fitsBits 15 f)
  | .translationFetchDone t plot ns _ _ _ evict => fitsBits 64 t && (fitsBits 34 plot && fitsBits 64 ns && (evict.all fun v => v < 2 ^ 40))
  | .tcFlush t _ => fitsBits 64 t && (true)
  | .tcFlushDone t => fitsBits 64 t && (true)
  | .siphonPromote t _ tag => fitsBits 64 t && (fitsBits 16 tag)
  | .siphonDemote t _ tag => fitsBits 64 t && (fitsBits 16 tag)
  | .siphonCompress t _ tag => fitsBits 64 t && (fitsBits 16 tag)
  | .siphonExpand t _ tag => fitsBits 64 t && (fitsBits 16 tag)
  | .siphonPin t _ tag => fitsBits 64 t && (fitsBits 16 tag)
  | .siphonUnpin t _ tag => fitsBits 64 t && (fitsBits 16 tag)
  | .siphonDiscard t _ tag => fitsBits 64 t && (fitsBits 16 tag)
  | .siphonTractOut t _ _ peer tag => fitsBits 64 t && (fitsBits 16 peer && fitsBits 16 tag)
  | .siphonTractIn t _ _ peer _ tag => fitsBits 64 t && (fitsBits 16 peer && fitsBits 16 tag)
  | .siphonMoveStep t _ _ => fitsBits 64 t && (true)
  | .tractMoveEnd t => fitsBits 64 t && (true)
  | .siphonDisable t _ => fitsBits 64 t && (true)
  | .decayEpochAdvance t => fitsBits 64 t && (true)
  | .dirFetchDone t plot _ _ => fitsBits 64 t && (fitsBits 34 plot)
  | .rowDecodeDone t plot _ wait _ victims => fitsBits 64 t && (fitsBits 34 plot && fitsBits 64 wait && (victims.all fun v => v < 2 ^ 40))
  | .compressDone t enc => fitsBits 64 t && (enc.streams.all bytesWf)
  | .rewriteStart t e => fitsBits 64 t && (fitsBits 12 e.entry)
  | .rewriteStore t plot _ enc => fitsBits 64 t && (fitsBits 34 plot && enc.streams.all bytesWf)
  | .recoveryRereadDone t k _ => fitsBits 64 t && (fitsBits 64 k)
  | .stripeRecomputeDone t k _ => fitsBits 64 t && (fitsBits 64 k)
  | .repairWrite t => fitsBits 64 t && (true)
  | .repairTimeout t => fitsBits 64 t && (true)
  | .flipArm t _ => fitsBits 64 t && (true)
  | .flipDisarm t _ => fitsBits 64 t && (true)
  | .furrowPassGo t _ => fitsBits 64 t && (true)
  | .furrowPassStop t _ => fitsBits 64 t && (true)
  | .furrowDisable t _ => fitsBits 64 t && (true)
  | .furrowStepDone t _ => fitsBits 64 t && (true)
  | .canalTrainingStart t _ => fitsBits 64 t && (true)
  | .canalTrainingDone t _ fail spd raw => fitsBits 64 t && (fitsBits 64 fail && spd.wf && raw.all bytesWf)
  | .canalFillComplete t _ => fitsBits 64 t && (true)
  | .refreshDue t _ rank _ _ => fitsBits 64 t && (fitsBits 64 rank)
  | .dimmThermalRead t _ _ _ => fitsBits 64 t && (true)
  | .caParityAlert t _ _ => fitsBits 64 t && (true)
  | .rcdInternalError t _ => fitsBits 64 t && (true)
  | .oosReq t _ _ _ _ => fitsBits 64 t && (true)
  | .returnGo t _ _ _ => fitsBits 64 t && (true)
  | .rebuildLineDone t _ => fitsBits 64 t && (true)
  | .keyLoad t _ _ _ => fitsBits 64 t && (true)
  | .keyGenerate t _ _ _ => fitsBits 64 t && (true)
  | .keyClear t _ _ => fitsBits 64 t && (true)
  | .keyZeroise t _ _ => fitsBits 64 t && (true)
  | .keyCmdDone t => fitsBits 64 t && (true)
  | .alarmCauseClear t _ mask => fitsBits 64 t && (fitsBits 5 mask)
  | .rekeyGo t _ _ _ => fitsBits 64 t && (true)
  | .rekeyStepDone t _ _ => fitsBits 64 t && (true)
  | .ideQuery t _ _ => fitsBits 64 t && (true)
  | .ideKeyProg t _ _ _ _ => fitsBits 64 t && (true)
  | .ideKSetGo t _ _ _ => fitsBits 64 t && (true)
  | .ideKSetStop t _ _ _ => fitsBits 64 t && (true)
  | .flitSlotSend t _ _ => fitsBits 64 t && (true)
  | .dataFlitReceived t _ h _ => fitsBits 64 t && (h.wf)
  | .idleFlitReceived t _ h => fitsBits 64 t && (h.wf)
  | .failedFlit t _ _ => fitsBits 64 t && (true)
  | .ctrlNak t _ h seq => fitsBits 64 t && (h.wf && fitsBits 20 seq)
  | .ctrlRetrainReq t _ h reason => fitsBits 64 t && (h.wf && fitsBits 8 reason)
  | .ctrlResume t _ h next wrap phase => fitsBits 64 t && (h.wf && fitsBits 20 next && fitsBits 32 wrap && fitsBits 1 phase)
  | .ctrlSpareReq t _ h k => fitsBits 64 t && (h.wf && fitsBits 64 k)
  | .ctrlSpareAck t _ h k p => fitsBits 64 t && (h.wf && fitsBits 64 k && fitsBits 64 p)
  | .ctrlSpareDone t _ h k => fitsBits 64 t && (h.wf && fitsBits 64 k)
  | .ctrlSparebackReq t _ h k => fitsBits 64 t && (h.wf && fitsBits 64 k)
  | .ctrlSparebackAck t _ h k p => fitsBits 64 t && (h.wf && fitsBits 64 k && fitsBits 64 p)
  | .ctrlKeySwitch t _ h seq phase => fitsBits 64 t && (h.wf && fitsBits 20 seq && fitsBits 1 phase)
  | .ctrlBroken t _ h cause => fitsBits 64 t && (h.wf && fitsBits 64 cause)
  | .ctrlHello t _ h serial link _ => fitsBits 64 t && (h.wf && fitsBits 64 serial && fitsBits 64 link)
  | .nakRetryTimeout t _ => fitsBits 64 t && (true)
  | .atCapTimeout t _ => fitsBits 64 t && (true)
  | .laneDegraded t _ _ corr _ => fitsBits 64 t && (fitsBits 64 corr)
  | .spareSwitch t _ _ => fitsBits 64 t && (true)
  | .sparebackQualified t _ _ => fitsBits 64 t && (true)
  | .culvertRetrain t _ _ => fitsBits 64 t && (true)
  | .retrainLanesReady t _ tx rx => fitsBits 64 t && ((tx.all fun v => v < 2 ^ 40) && (rx.all fun v => v < 2 ^ 40))
  | .retrainTimeout t _ => fitsBits 64 t && (true)
  | .culvertRestart t _ _ => fitsBits 64 t && (true)
  | .restartTimer t _ => fitsBits 64 t && (true)
  | .culvertTrainingDone t _ tx rx => fitsBits 64 t && ((tx.all fun v => v < 2 ^ 40) && (rx.all fun v => v < 2 ^ 40))
  | .culvertKeyingDone t _ => fitsBits 64 t && (true)
  | .linkKeyReady t _ => fitsBits 64 t && (true)
  | .culvertDisable t _ _ => fitsBits 64 t && (true)
  | .mgmtClaim t => fitsBits 64 t && (true)
  | .mgmtIdReq t => fitsBits 64 t && (true)
  | .mgmtIdGrant t => fitsBits 64 t && (true)
  | .mgmtIdTable t => fitsBits 64 t && (true)
  | .mgmtLinkState t => fitsBits 64 t && (true)
  | .mgmtLeave t => fitsBits 64 t && (true)
  | .mgmtSpdm t => fitsBits 64 t && (true)
  | .mgmtKeyUpdate t => fitsBits 64 t && (true)
  | .claimPeriodic t => fitsBits 64 t && (true)
  | .electionSettle t => fitsBits 64 t && (true)
  | .linkStatePeriodic t => fitsBits 64 t && (true)
  | .idHoldExpiry t _ => fitsBits 64 t && (true)
  | .keyingRetry t _ => fitsBits 64 t && (true)
  | .routeRecompute t => fitsBits 64 t && (true)
  | .fabricLeave t _ => fitsBits 64 t && (true)
  | .unitRd t _ => fitsBits 64 t && (true)
  | .unitWr t _ => fitsBits 64 t && (true)
  | .unitWrp t _ => fitsBits 64 t && (true)
  | .unitRdrsp t _ => fitsBits 64 t && (true)
  | .unitWrcmp t _ => fitsBits 64 t && (true)
  | .unitDemote t _ => fitsBits 64 t && (true)
  | .unitFack t _ => fitsBits 64 t && (true)
  | .unitResync t _ => fitsBits 64 t && (true)
  | .unitResyncAck t _ => fitsBits 64 t && (true)
  | .unitTransit t _ => fitsBits 64 t && (true)
  | .unitBad t _ => fitsBits 64 t && (true)
  | .fabricRelease t _ _ => fitsBits 64 t && (true)
  | .ownerDeadline t _ => fitsBits 64 t && (true)
  | .fackTimer t _ _ => fitsBits 64 t && (true)
  | .credTimeout t _ _ => fitsBits 64 t && (true)
  | .cohCrd t _ => fitsBits 64 t && (true)
  | .cohEvict t _ => fitsBits 64 t && (true)
  | .cohBisnp t _ => fitsBits 64 t && (true)
  | .cohBirsp t _ => fitsBits 64 t && (true)
  | .cohGrant t _ => fitsBits 64 t && (true)
  | .cohAgentDown t _ => fitsBits 64 t && (true)
  | .cohFence t _ => fitsBits 64 t && (true)
  | .cohReady t _ => fitsBits 64 t && (true)
  | .readyResend t _ => fitsBits 64 t && (true)
  | .holdEnd t line => fitsBits 64 t && (fitsBits 40 line)
  | .dirSweep t => fitsBits 64 t && (true)
  | .biTimeout t line _ => fitsBits 64 t && (fitsBits 40 line)
  | .regionTear t _ _ => fitsBits 64 t && (true)
  | .regionReform t _ _ => fitsBits 64 t && (true)
  | .twinMirror t => fitsBits 64 t && (true)
  | .twinMirrorP t => fitsBits 64 t && (true)
  | .twinFwd t => fitsBits 64 t && (true)
  | .twinFwdP t => fitsBits 64 t && (true)
  | .twinMask t => fitsBits 64 t && (true)
  | .twinOrdered t => fitsBits 64 t && (true)
  | .twinAck t => fitsBits 64 t && (true)
  | .twinRefetchReq t _ _ => fitsBits 64 t && (true)
  | .twinRefetchRsp t => fitsBits 64 t && (true)
  | .twinRefetchFail t => fitsBits 64 t && (true)
  | .refetchBudgetExpiry t n => fitsBits 64 t && (fitsBits 64 n)
  | .twinCopy t => fitsBits 64 t && (true)
  | .twinCopyPoison t => fitsBits 64 t && (true)
  | .twinCopyBlank t => fitsBits 64 t && (true)
  | .twinDir t => fitsBits 64 t && (true)
  | .twinHello t => fitsBits 64 t && (true)
  | .twinLeave t => fitsBits 64 t && (true)
  | .twinReverse t => fitsBits 64 t && (true)
  | .twinMap t => fitsBits 64 t && (true)
  | .twinPaired t => fitsBits 64 t && (true)
  | .twinCoh t => fitsBits 64 t && (true)
  | .twinCohData t => fitsBits 64 t && (true)
  | .twinBadRecord t => fitsBits 64 t && (true)
  | .diverseTimeout t => fitsBits 64 t && (true)
  | .lossTimeout t => fitsBits 64 t && (true)
  | .twinHelloPeriodic t => fitsBits 64 t && (true)
  | .twinDetach t _ _ => fitsBits 64 t && (true)
  | .resilverGo t _ => fitsBits 64 t && (true)
  | .resilverFull t _ => fitsBits 64 t && (true)
  | .twinUnfence t _ => fitsBits 64 t && (true)
  | .resilverLineSend t _ _ => fitsBits 64 t && (true)
  | .pairedHandoverDone t => fitsBits 64 t && (true)
  | .sluiceSample t _ _ code v vin _ _ => fitsBits 64 t && (fitsBits 14 code && fitsBits 64 v && fitsBits 64 vin)
  | .curveTrip t _ => fitsBits 64 t && (true)
  | .uvTrip t _ => fitsBits 64 t && (true)
  | .scComparator t _ => fitsBits 64 t && (true)
  | .debounceComplete t _ => fitsBits 64 t && (true)
  | .inrushTimeout t _ => fitsBits 64 t && (true)
  | .pgTimeout t _ => fitsBits 64 t && (true)
  | .cooldownEnd t _ => fitsBits 64 t && (true)
  | .removalDeclared t _ => fitsBits 64 t && (true)
  | .presenceDetected t _ => fitsBits 64 t && (true)
  | .goodOnTime10s t _ => fitsBits 64 t && (true)
  | .sluiceMeanUpdate t _ => fitsBits 64 t && (true)
  | .sluiceOnReq t _ _ => fitsBits 64 t && (true)
  | .sluiceOffReq t _ _ _ => fitsBits 64 t && (true)
  | .sluiceUnlatch t _ _ => fitsBits 64 t && (true)
  | .curveSwap t _ _ => fitsBits 64 t && (true)
  | .energyClr t _ _ => fitsBits 64 t && (true)
  | .sluiceDisable t _ _ => fitsBits 64 t && (true)
  | .voteSet t _ mask => fitsBits 64 t && (fitsBits 14 mask)
  | .voteClr t _ mask => fitsBits 64 t && (fitsBits 14 mask)
  | .slackEnter t => fitsBits 64 t && (true)
  | .stateEntryPrep t _ => fitsBits 64 t && (true)
  | .voteCommit t => fitsBits 64 t && (true)
  | .isolation t => fitsBits 64 t && (true)
  | .wake t _ => fitsBits 64 t && (true)
  | .wakeSeqEntry t => fitsBits 64 t && (true)
  | .wakeHoldExpiry t => fitsBits 64 t && (true)
  | .tokenRefill t pg code => fitsBits 64 t && (pg.wf && fitsBits 17 code)
  | .recordWrite t => fitsBits 64 t && (true)
  | .repeatWindowExpiry t => fitsBits 64 t && (true)
  | .flashRecordWrite t _ => fitsBits 64 t && (true)
  | .flashEraseDone t _ => fitsBits 64 t && (true)
  | .checkpoint t => fitsBits 64 t && (true)
  | .readSeq t _ seq => fitsBits 64 t && (fitsBits 64 seq)
  | .flashReadDone t => fitsBits 64 t && (true)
  | .clearReq t _ => fitsBits 64 t && (true)
  | .clearResp t _ v => fitsBits 64 t && (fitsBits 64 v)
  | .gbClear t _ _ _ _ => fitsBits 64 t && (true)
  | .challengeExpiry t => fitsBits 64 t && (true)
  | .clearBlockErase t => fitsBits 64 t && (true)
  | .powerOn t => fitsBits 64 t && (true)
  | .fwAuthDone t _ _ _ => fitsBits 64 t && (true)
  | .riserOnSchedule t _ => fitsBits 64 t && (true)
  | .riserPgTimeout t _ => fitsBits 64 t && (true)
  | .mbPing t _ => fitsBits 64 t && (true)
  | .mbFwStage t _ => fitsBits 64 t && (true)
  | .mbFwActivate t _ => fitsBits 64 t && (true)
  | .mbDeviceReset t _ => fitsBits 64 t && (true)
  | .mbProvisionAnchor t _ => fitsBits 64 t && (true)
  | .mbProvisionClearKey t _ => fitsBits 64 t && (true)
  | .mbProvisionLock t _ => fitsBits 64 t && (true)
  | .mbMgmtRestart t _ => fitsBits 64 t && (true)
  | .mbFwRevert t _ => fitsBits 64 t && (true)
  | .mbCmdDone t _ img data => fitsBits 64 t && (img.wf && fitsBits 256 data)
  | .mgmtRestartDone t => fitsBits 64 t && (true)
  | .pldmQueryDeviceIdentifiers t => fitsBits 64 t && (true)
  | .pldmGetFirmwareParameters t => fitsBits 64 t && (true)
  | .pldmRequestUpdate t => fitsBits 64 t && (true)
  | .pldmPassComponentTable t _ => fitsBits 64 t && (true)
  | .pldmUpdateComponent t _ size => fitsBits 64 t && (fitsBits 64 size)
  | .pldmFirmwareData t img => fitsBits 64 t && (img.wf)
  | .pldmActivateFirmware t => fitsBits 64 t && (true)
  | .pldmGetStatus t => fitsBits 64 t && (true)
  | .pldmCancelUpdateComponent t => fitsBits 64 t && (true)
  | .pldmCancelUpdate t => fitsBits 64 t && (true)
  | .pldmDataTimeout t => fitsBits 64 t && (true)
  | .railLoss t => fitsBits 64 t && (true)
  | .vaonLoss t => fitsBits 64 t && (true)
  | .alwaysOnPowerUp t _ a b uefi => fitsBits 64 t && (a.all FwImage.wf && b.all FwImage.wf && fitsBits 64 uefi)
  | .pairAlignmentLoss t _ => fitsBits 64 t && (true)
  | .resyncAckTimeout t _ _ => fitsBits 64 t && (true)
  | .linkRekeyDue t _ => fitsBits 64 t && (true)
  | .hostReadCompletionTimeout t _ => fitsBits 64 t && (true)
  | .busMasterEnableCleared t _ => fitsBits 64 t && (true)
  | .mctpSpdmRequest t => fitsBits 64 t && (true)

/-- The tide at which a command happens. -/
def Instr.tide : Instr → Nat
  | .regWrite t _ _ _ _ => t
  | .islandClockLoss t _ _ => t
  | .islandClockReturn t _ => t
  | .turnBoundary t => t
  | .beaconArrival t _ _ _ => t
  | .halfTurnPoint t => t
  | .floorHoldPoint t _ => t
  | .commitGo t _ _ => t
  | .commitValidate t => t
  | .pageHaltRequest t _ _ _ => t
  | .pageHalted t _ => t
  | .softClear t _ _ => t
  | .pageLock t _ _ => t
  | .lockAll t _ => t
  | .snapTake t _ _ => t
  | .deviceSnapTake t _ => t
  | .evtStatusClear t _ _ _ => t
  | .msixUnmask t _ _ => t
  | .linkTraining t _ _ _ _ _ => t
  | .linkUp t _ _ _ _ _ _ => t
  | .linkRetrain t _ _ _ _ _ _ => t
  | .eq128Retry t _ _ => t
  | .linkRateChange t _ _ _ => t
  | .ideIntegrityFailure t _ _ _ => t
  | .decoderCommit t _ _ _ _ _ _ _ => t
  | .decoderUncommit t _ _ => t
  | .linkDrop t _ => t
  | .tagsFreedAfterDrop t _ => t
  | .portDisable t _ _ => t
  | .flr t _ => t
  | .flrComplete t _ _ => t
  | .hotReset t _ => t
  | .portPerst t _ _ => t
  | .deviceFundamentalReset t => t
  | .ddtRebuild t _ => t
  | .identifyMemoryDevice t _ => t
  | .getSupportedLogs t _ => t
  | .getLog t _ _ => t
  | .getHealthInfo t _ => t
  | .getEventRecords t _ => t
  | .clearEventRecords t _ _ => t
  | .getPoisonList t _ => t
  | .getFwInfo t _ => t
  | .getTimestamp t _ => t
  | .setTimestamp t _ _ => t
  | .mailboxUnsupported t _ _ => t
  | .doeDiscovery t _ _ _ => t
  | .doeCmaSpdm t _ _ _ => t
  | .doeSecuredSpdm t _ _ _ => t
  | .cdatTableAccess t _ _ => t
  | .doeAbort t _ => t
  | .cxlMemrd t _ _ _ _ _ => t
  | .cxlMemspecrd t _ _ _ => t
  | .cxlMemwr t _ _ _ _ _ _ => t
  | .cxlMemwrptl t _ _ _ _ _ _ _ => t
  | .cxlMeminv t _ _ _ _ => t
  | .cxlMemclnevct t _ _ _ => t
  | .cxlBiconflict t _ _ _ => t
  | .birspReceived t _ _ _ => t
  | .headgateRelease t _ => t
  | .poolGrant t _ _ _ _ => t
  | .callLevelChange t _ _ => t
  | .readDataReturn t _ _ _ _ _ _ => t
  | .readEgressLimit t _ _ => t
  | .responseSent t _ _ => t
  | .writeLocalCommit t _ _ _ => t
  | .mergeDrain t _ _ => t
  | .drainComplete t _ _ _ => t
  | .partialFetchComplete t _ _ _ => t
  | .internalOpStart t _ _ _ => t
  | .internalStepDeadline t _ => t
  | .lateW0Read t _ => t
  | .latePop t _ _ => t
  | .jobSubmit t _ _ _ _ _ _ => t
  | .jobStart t => t
  | .dmHostReadCompletion t _ _ _ => t
  | .jobEnd t _ => t
  | .jobAbort t _ _ => t
  | .jobRelease t _ _ => t
  | .weirRecompute t => t
  | .frameDrainComplete t _ => t
  | .translationFetchDone t _ _ _ _ _ _ => t
  | .tcFlush t _ => t
  | .tcFlushDone t => t
  | .siphonPromote t _ _ => t
  | .siphonDemote t _ _ => t
  | .siphonCompress t _ _ => t
  | .siphonExpand t _ _ => t
  | .siphonPin t _ _ => t
  | .siphonUnpin t _ _ => t
  | .siphonDiscard t _ _ => t
  | .siphonTractOut t _ _ _ _ => t
  | .siphonTractIn t _ _ _ _ _ => t
  | .siphonMoveStep t _ _ => t
  | .tractMoveEnd t => t
  | .siphonDisable t _ => t
  | .decayEpochAdvance t => t
  | .dirFetchDone t _ _ _ => t
  | .rowDecodeDone t _ _ _ _ _ => t
  | .compressDone t _ => t
  | .rewriteStart t _ => t
  | .rewriteStore t _ _ _ => t
  | .recoveryRereadDone t _ _ => t
  | .stripeRecomputeDone t _ _ => t
  | .repairWrite t => t
  | .repairTimeout t => t
  | .flipArm t _ => t
  | .flipDisarm t _ => t
  | .furrowPassGo t _ => t
  | .furrowPassStop t _ => t
  | .furrowDisable t _ => t
  | .furrowStepDone t _ => t
  | .canalTrainingStart t _ => t
  | .canalTrainingDone t _ _ _ _ => t
  | .canalFillComplete t _ => t
  | .refreshDue t _ _ _ _ => t
  | .dimmThermalRead t _ _ _ => t
  | .caParityAlert t _ _ => t
  | .rcdInternalError t _ => t
  | .oosReq t _ _ _ _ => t
  | .returnGo t _ _ _ => t
  | .rebuildLineDone t _ => t
  | .keyLoad t _ _ _ => t
  | .keyGenerate t _ _ _ => t
  | .keyClear t _ _ => t
  | .keyZeroise t _ _ => t
  | .keyCmdDone t => t
  | .alarmCauseClear t _ _ => t
  | .rekeyGo t _ _ _ => t
  | .rekeyStepDone t _ _ => t
  | .ideQuery t _ _ => t
  | .ideKeyProg t _ _ _ _ => t
  | .ideKSetGo t _ _ _ => t
  | .ideKSetStop t _ _ _ => t
  | .flitSlotSend t _ _ => t
  | .dataFlitReceived t _ _ _ => t
  | .idleFlitReceived t _ _ => t
  | .failedFlit t _ _ => t
  | .ctrlNak t _ _ _ => t
  | .ctrlRetrainReq t _ _ _ => t
  | .ctrlResume t _ _ _ _ _ => t
  | .ctrlSpareReq t _ _ _ => t
  | .ctrlSpareAck t _ _ _ _ => t
  | .ctrlSpareDone t _ _ _ => t
  | .ctrlSparebackReq t _ _ _ => t
  | .ctrlSparebackAck t _ _ _ _ => t
  | .ctrlKeySwitch t _ _ _ _ => t
  | .ctrlBroken t _ _ _ => t
  | .ctrlHello t _ _ _ _ _ => t
  | .nakRetryTimeout t _ => t
  | .atCapTimeout t _ => t
  | .laneDegraded t _ _ _ _ => t
  | .spareSwitch t _ _ => t
  | .sparebackQualified t _ _ => t
  | .culvertRetrain t _ _ => t
  | .retrainLanesReady t _ _ _ => t
  | .retrainTimeout t _ => t
  | .culvertRestart t _ _ => t
  | .restartTimer t _ => t
  | .culvertTrainingDone t _ _ _ => t
  | .culvertKeyingDone t _ => t
  | .linkKeyReady t _ => t
  | .culvertDisable t _ _ => t
  | .mgmtClaim t => t
  | .mgmtIdReq t => t
  | .mgmtIdGrant t => t
  | .mgmtIdTable t => t
  | .mgmtLinkState t => t
  | .mgmtLeave t => t
  | .mgmtSpdm t => t
  | .mgmtKeyUpdate t => t
  | .claimPeriodic t => t
  | .electionSettle t => t
  | .linkStatePeriodic t => t
  | .idHoldExpiry t _ => t
  | .keyingRetry t _ => t
  | .routeRecompute t => t
  | .fabricLeave t _ => t
  | .unitRd t _ => t
  | .unitWr t _ => t
  | .unitWrp t _ => t
  | .unitRdrsp t _ => t
  | .unitWrcmp t _ => t
  | .unitDemote t _ => t
  | .unitFack t _ => t
  | .unitResync t _ => t
  | .unitResyncAck t _ => t
  | .unitTransit t _ => t
  | .unitBad t _ => t
  | .fabricRelease t _ _ => t
  | .ownerDeadline t _ => t
  | .fackTimer t _ _ => t
  | .credTimeout t _ _ => t
  | .cohCrd t _ => t
  | .cohEvict t _ => t
  | .cohBisnp t _ => t
  | .cohBirsp t _ => t
  | .cohGrant t _ => t
  | .cohAgentDown t _ => t
  | .cohFence t _ => t
  | .cohReady t _ => t
  | .readyResend t _ => t
  | .holdEnd t _ => t
  | .dirSweep t => t
  | .biTimeout t _ _ => t
  | .regionTear t _ _ => t
  | .regionReform t _ _ => t
  | .twinMirror t => t
  | .twinMirrorP t => t
  | .twinFwd t => t
  | .twinFwdP t => t
  | .twinMask t => t
  | .twinOrdered t => t
  | .twinAck t => t
  | .twinRefetchReq t _ _ => t
  | .twinRefetchRsp t => t
  | .twinRefetchFail t => t
  | .refetchBudgetExpiry t _ => t
  | .twinCopy t => t
  | .twinCopyPoison t => t
  | .twinCopyBlank t => t
  | .twinDir t => t
  | .twinHello t => t
  | .twinLeave t => t
  | .twinReverse t => t
  | .twinMap t => t
  | .twinPaired t => t
  | .twinCoh t => t
  | .twinCohData t => t
  | .twinBadRecord t => t
  | .diverseTimeout t => t
  | .lossTimeout t => t
  | .twinHelloPeriodic t => t
  | .twinDetach t _ _ => t
  | .resilverGo t _ => t
  | .resilverFull t _ => t
  | .twinUnfence t _ => t
  | .resilverLineSend t _ _ => t
  | .pairedHandoverDone t => t
  | .sluiceSample t _ _ _ _ _ _ _ => t
  | .curveTrip t _ => t
  | .uvTrip t _ => t
  | .scComparator t _ => t
  | .debounceComplete t _ => t
  | .inrushTimeout t _ => t
  | .pgTimeout t _ => t
  | .cooldownEnd t _ => t
  | .removalDeclared t _ => t
  | .presenceDetected t _ => t
  | .goodOnTime10s t _ => t
  | .sluiceMeanUpdate t _ => t
  | .sluiceOnReq t _ _ => t
  | .sluiceOffReq t _ _ _ => t
  | .sluiceUnlatch t _ _ => t
  | .curveSwap t _ _ => t
  | .energyClr t _ _ => t
  | .sluiceDisable t _ _ => t
  | .voteSet t _ _ => t
  | .voteClr t _ _ => t
  | .slackEnter t => t
  | .stateEntryPrep t _ => t
  | .voteCommit t => t
  | .isolation t => t
  | .wake t _ => t
  | .wakeSeqEntry t => t
  | .wakeHoldExpiry t => t
  | .tokenRefill t _ _ => t
  | .recordWrite t => t
  | .repeatWindowExpiry t => t
  | .flashRecordWrite t _ => t
  | .flashEraseDone t _ => t
  | .checkpoint t => t
  | .readSeq t _ _ => t
  | .flashReadDone t => t
  | .clearReq t _ => t
  | .clearResp t _ _ => t
  | .gbClear t _ _ _ _ => t
  | .challengeExpiry t => t
  | .clearBlockErase t => t
  | .powerOn t => t
  | .fwAuthDone t _ _ _ => t
  | .riserOnSchedule t _ => t
  | .riserPgTimeout t _ => t
  | .mbPing t _ => t
  | .mbFwStage t _ => t
  | .mbFwActivate t _ => t
  | .mbDeviceReset t _ => t
  | .mbProvisionAnchor t _ => t
  | .mbProvisionClearKey t _ => t
  | .mbProvisionLock t _ => t
  | .mbMgmtRestart t _ => t
  | .mbFwRevert t _ => t
  | .mbCmdDone t _ _ _ => t
  | .mgmtRestartDone t => t
  | .pldmQueryDeviceIdentifiers t => t
  | .pldmGetFirmwareParameters t => t
  | .pldmRequestUpdate t => t
  | .pldmPassComponentTable t _ => t
  | .pldmUpdateComponent t _ _ => t
  | .pldmFirmwareData t _ => t
  | .pldmActivateFirmware t => t
  | .pldmGetStatus t => t
  | .pldmCancelUpdateComponent t => t
  | .pldmCancelUpdate t => t
  | .pldmDataTimeout t => t
  | .railLoss t => t
  | .vaonLoss t => t
  | .alwaysOnPowerUp t _ _ _ _ => t
  | .pairAlignmentLoss t _ => t
  | .resyncAckTimeout t _ _ => t
  | .linkRekeyDue t _ => t
  | .hostReadCompletionTimeout t _ => t
  | .busMasterEnableCleared t _ => t
  | .mctpSpdmRequest t => t

end Sys2Proof
end

