-- ==== Sys2Proof/Safety.lean ====
section
/-! DEFINITION. What claims say about runs: when a command can act, what its completion is, and what no command may undo. -/

namespace Sys2Proof.Machine

/-- The monitored rails are present, so commands act (R525). -/
def State.live (s : State) : Prop := s.m.boot.powered = true

/-- A register write of a source is not turned away: the rails are present, BAR0 is reachable (R459), and `CFG_WRITERS` lets the source
write (R31). -/
def State.canWrite (s : State) (src : Nat) : Prop := s.live ∧ s.m.pw.st < 2 ∧ s.m.mayWrite src = true

/-- A register write of a source is reached but `CFG_WRITERS` keeps it out. -/
def State.keptOut (s : State) (src : Nat) : Prop := s.live ∧ s.m.pw.st < 2 ∧ s.m.mayWrite src = false

/-- The device once a command at tide `t` has come in. -/
def State.now (s : State) (t : Nat) : Mach := s.m.at t

/-- The device once a register write at tide `t` has come in; SLACK has ended (R462). -/
def State.woken (s : State) (t : Nat) : Mach := (s.m.at t).awake

/-- The device once a STAGE write of a source at tide `t` has come in, and the page has noted the source (R30). -/
def State.noted (s : State) (t : Nat) (k : PageKind) (i src : Nat) : Mach := (s.woken t).wr (Reg.Hdr.SRC k) src i

/-- A command completes: the next state has the device `m`, the queue and the fuses as before. -/
def State.done (s : State) (m : Mach) : Out := .next { s with m := m }

/-- The outcome of a command is a completion whose device has a property. -/
def State.yields (s : State) (o : Out) (P : Mach → Prop) : Prop := ∃ m, o = s.done m ∧ P m

/-- The bit of an event of a page is set (R51). -/
def Mach.told (m : Mach) (k : PageKind) (i code : Nat) : Prop := (pageNo ⟨k, i⟩, code) ∈ m.blkEvt

/-- Whether a page takes writes of a source at all: channels 8 and 9 of the Sluice take none of a host port (R435). -/
def openTo (p : PageId) (src : Nat) : Bool := !(p.kind = .sluice && 8 ≤ p.inst && src < 4)

/-- What is fused stays: the lock does not clear, `SEC_MIN` does not fall, what the lock protects does not change, and an item that is
provisioned stays as it is (R489, R501, R502). -/
def Fuses.kept (a b : Fuses) : Prop :=
  (a.locked = true → b.locked = true ∧ b.anchors = a.anchors ∧ b.clearKey = a.clearKey) ∧ a.secMin ≤ b.secMin ∧
  (∀ k, (Tbl.find a.anchors k).isSome = true → Tbl.find b.anchors k = Tbl.find a.anchors k) ∧
  (a.clearKey.isSome = true → b.clearKey = a.clearKey)

/-- The source of a command that is a register write with a row of its own. -/
def writerOf : Instr → Option Nat
  | .regWrite _ _ _ _ _ => none
  | .islandClockLoss _ _ _ => none
  | .islandClockReturn _ _ => none
  | .turnBoundary _ => none
  | .beaconArrival _ _ _ _ => none
  | .halfTurnPoint _ => none
  | .floorHoldPoint _ _ => none
  | .commitGo _ src _ => some src.val
  | .commitValidate _ => none
  | .pageHaltRequest _ src _ _ => some src.val
  | .pageHalted _ _ => none
  | .softClear _ src _ => some src.val
  | .pageLock _ src _ => some src.val
  | .lockAll _ src => some src.val
  | .snapTake _ src _ => some src.val
  | .deviceSnapTake _ src => some src.val
  | .evtStatusClear _ src _ _ => some src.val
  | .msixUnmask _ _ _ => none
  | .linkTraining _ _ _ _ _ _ => none
  | .linkUp _ _ _ _ _ _ _ => none
  | .linkRetrain _ src _ _ _ _ _ => some src.val
  | .eq128Retry _ src _ => some src.val
  | .linkRateChange _ _ _ _ => none
  | .ideIntegrityFailure _ _ _ _ => none
  | .decoderCommit _ _ _ _ _ _ _ _ => none
  | .decoderUncommit _ _ _ => none
  | .linkDrop _ _ => none
  | .tagsFreedAfterDrop _ _ => none
  | .portDisable _ src _ => some src.val
  | .flr _ _ => none
  | .flrComplete _ _ _ => none
  | .hotReset _ _ => none
  | .portPerst _ _ _ => none
  | .deviceFundamentalReset _ => none
  | .ddtRebuild _ _ => none
  | .identifyMemoryDevice _ _ => none
  | .getSupportedLogs _ _ => none
  | .getLog _ _ _ => none
  | .getHealthInfo _ _ => none
  | .getEventRecords _ _ => none
  | .clearEventRecords _ _ _ => none
  | .getPoisonList _ _ => none
  | .getFwInfo _ _ => none
  | .getTimestamp _ _ => none
  | .setTimestamp _ _ _ => none
  | .mailboxUnsupported _ _ _ => none
  | .doeDiscovery _ _ _ _ => none
  | .doeCmaSpdm _ _ _ _ => none
  | .doeSecuredSpdm _ _ _ _ => none
  | .cdatTableAccess _ _ _ => none
  | .doeAbort _ _ => none
  | .cxlMemrd _ _ _ _ _ _ => none
  | .cxlMemspecrd _ _ _ _ => none
  | .cxlMemwr _ _ _ _ _ _ _ => none
  | .cxlMemwrptl _ _ _ _ _ _ _ _ => none
  | .cxlMeminv _ _ _ _ _ => none
  | .cxlMemclnevct _ _ _ _ => none
  | .cxlBiconflict _ _ _ _ => none
  | .birspReceived _ _ _ _ => none
  | .headgateRelease _ _ => none
  | .poolGrant _ _ _ _ _ => none
  | .callLevelChange _ _ _ => none
  | .readDataReturn _ _ _ _ _ _ _ => none
  | .readEgressLimit _ _ _ => none
  | .responseSent _ _ _ => none
  | .writeLocalCommit _ _ _ _ => none
  | .mergeDrain _ _ _ => none
  | .drainComplete _ _ _ _ => none
  | .partialFetchComplete _ _ _ _ => none
  | .internalOpStart _ _ _ _ => none
  | .internalStepDeadline _ _ => none
  | .lateW0Read _ _ => none
  | .latePop _ src _ => some src.val
  | .jobSubmit _ src _ _ _ _ _ => some src.val
  | .jobStart _ => none
  | .dmHostReadCompletion _ _ _ _ => none
  | .jobEnd _ _ => none
  | .jobAbort _ src _ => some src.val
  | .jobRelease _ src _ => some src.val
  | .weirRecompute _ => none
  | .frameDrainComplete _ _ => none
  | .translationFetchDone _ _ _ _ _ _ _ => none
  | .tcFlush _ src => some src.val
  | .tcFlushDone _ => none
  | .siphonPromote _ src _ => some src.val
  | .siphonDemote _ src _ => some src.val
  | .siphonCompress _ src _ => some src.val
  | .siphonExpand _ src _ => some src.val
  | .siphonPin _ src _ => some src.val
  | .siphonUnpin _ src _ => some src.val
  | .siphonDiscard _ src _ => some src.val
  | .siphonTractOut _ src _ _ _ => some src.val
  | .siphonTractIn _ src _ _ _ _ => some src.val
  | .siphonMoveStep _ _ _ => none
  | .tractMoveEnd _ => none
  | .siphonDisable _ src => some src.val
  | .decayEpochAdvance _ => none
  | .dirFetchDone _ _ _ _ => none
  | .rowDecodeDone _ _ _ _ _ _ => none
  | .compressDone _ _ => none
  | .rewriteStart _ _ => none
  | .rewriteStore _ _ _ _ => none
  | .recoveryRereadDone _ _ _ => none
  | .stripeRecomputeDone _ _ _ => none
  | .repairWrite _ => none
  | .repairTimeout _ => none
  | .flipArm _ src => some src.val
  | .flipDisarm _ src => some src.val
  | .furrowPassGo _ src => some src.val
  | .furrowPassStop _ src => some src.val
  | .furrowDisable _ src => some src.val
  | .furrowStepDone _ _ => none
  | .canalTrainingStart _ _ => none
  | .canalTrainingDone _ _ _ _ _ => none
  | .canalFillComplete _ _ => none
  | .refreshDue _ _ _ _ _ => none
  | .dimmThermalRead _ _ _ _ => none
  | .caParityAlert _ _ _ => none
  | .rcdInternalError _ _ => none
  | .oosReq _ src _ _ _ => some src.val
  | .returnGo _ src _ _ => some src.val
  | .rebuildLineDone _ _ => none
  | .keyLoad _ src _ _ => some src.val
  | .keyGenerate _ src _ _ => some src.val
  | .keyClear _ src _ => some src.val
  | .keyZeroise _ src _ => some src.val
  | .keyCmdDone _ => none
  | .alarmCauseClear _ src _ => some src.val
  | .rekeyGo _ src _ _ => some src.val
  | .rekeyStepDone _ _ _ => none
  | .ideQuery _ _ _ => none
  | .ideKeyProg _ _ _ _ _ => none
  | .ideKSetGo _ _ _ _ => none
  | .ideKSetStop _ _ _ _ => none
  | .flitSlotSend _ _ _ => none
  | .dataFlitReceived _ _ _ _ => none
  | .idleFlitReceived _ _ _ => none
  | .failedFlit _ _ _ => none
  | .ctrlNak _ _ _ _ => none
  | .ctrlRetrainReq _ _ _ _ => none
  | .ctrlResume _ _ _ _ _ _ => none
  | .ctrlSpareReq _ _ _ _ => none
  | .ctrlSpareAck _ _ _ _ _ => none
  | .ctrlSpareDone _ _ _ _ => none
  | .ctrlSparebackReq _ _ _ _ => none
  | .ctrlSparebackAck _ _ _ _ _ => none
  | .ctrlKeySwitch _ _ _ _ _ => none
  | .ctrlBroken _ _ _ _ => none
  | .ctrlHello _ _ _ _ _ _ => none
  | .nakRetryTimeout _ _ => none
  | .atCapTimeout _ _ => none
  | .laneDegraded _ _ _ _ _ => none
  | .spareSwitch _ _ _ => none
  | .sparebackQualified _ _ _ => none
  | .culvertRetrain _ src _ => some src.val
  | .retrainLanesReady _ _ _ _ => none
  | .retrainTimeout _ _ => none
  | .culvertRestart _ src _ => some src.val
  | .restartTimer _ _ => none
  | .culvertTrainingDone _ _ _ _ => none
  | .culvertKeyingDone _ _ => none
  | .linkKeyReady _ _ => none
  | .culvertDisable _ src _ => some src.val
  | .mgmtClaim _ => none
  | .mgmtIdReq _ => none
  | .mgmtIdGrant _ => none
  | .mgmtIdTable _ => none
  | .mgmtLinkState _ => none
  | .mgmtLeave _ => none
  | .mgmtSpdm _ => none
  | .mgmtKeyUpdate _ => none
  | .claimPeriodic _ => none
  | .electionSettle _ => none
  | .linkStatePeriodic _ => none
  | .idHoldExpiry _ _ => none
  | .keyingRetry _ _ => none
  | .routeRecompute _ => none
  | .fabricLeave _ src => some src.val
  | .unitRd _ _ => none
  | .unitWr _ _ => none
  | .unitWrp _ _ => none
  | .unitRdrsp _ _ => none
  | .unitWrcmp _ _ => none
  | .unitDemote _ _ => none
  | .unitFack _ _ => none
  | .unitResync _ _ => none
  | .unitResyncAck _ _ => none
  | .unitTransit _ _ => none
  | .unitBad _ _ => none
  | .fabricRelease _ _ _ => none
  | .ownerDeadline _ _ => none
  | .fackTimer _ _ _ => none
  | .credTimeout _ _ _ => none
  | .cohCrd _ _ => none
  | .cohEvict _ _ => none
  | .cohBisnp _ _ => none
  | .cohBirsp _ _ => none
  | .cohGrant _ _ => none
  | .cohAgentDown _ _ => none
  | .cohFence _ _ => none
  | .cohReady _ _ => none
  | .readyResend _ _ => none
  | .holdEnd _ _ => none
  | .dirSweep _ => none
  | .biTimeout _ _ _ => none
  | .regionTear _ src _ => some src.val
  | .regionReform _ src _ => some src.val
  | .twinMirror _ => none
  | .twinMirrorP _ => none
  | .twinFwd _ => none
  | .twinFwdP _ => none
  | .twinMask _ => none
  | .twinOrdered _ => none
  | .twinAck _ => none
  | .twinRefetchReq _ _ _ => none
  | .twinRefetchRsp _ => none
  | .twinRefetchFail _ => none
  | .refetchBudgetExpiry _ _ => none
  | .twinCopy _ => none
  | .twinCopyPoison _ => none
  | .twinCopyBlank _ => none
  | .twinDir _ => none
  | .twinHello _ => none
  | .twinLeave _ => none
  | .twinReverse _ => none
  | .twinMap _ => none
  | .twinPaired _ => none
  | .twinCoh _ => none
  | .twinCohData _ => none
  | .twinBadRecord _ => none
  | .diverseTimeout _ => none
  | .lossTimeout _ => none
  | .twinHelloPeriodic _ => none
  | .twinDetach _ src _ => some src.val
  | .resilverGo _ src => some src.val
  | .resilverFull _ src => some src.val
  | .twinUnfence _ src => some src.val
  | .resilverLineSend _ _ _ => none
  | .pairedHandoverDone _ => none
  | .sluiceSample _ _ _ _ _ _ _ _ => none
  | .curveTrip _ _ => none
  | .uvTrip _ _ => none
  | .scComparator _ _ => none
  | .debounceComplete _ _ => none
  | .inrushTimeout _ _ => none
  | .pgTimeout _ _ => none
  | .cooldownEnd _ _ => none
  | .removalDeclared _ _ => none
  | .presenceDetected _ _ => none
  | .goodOnTime10s _ _ => none
  | .sluiceMeanUpdate _ _ => none
  | .sluiceOnReq _ src _ => some src.val
  | .sluiceOffReq _ src _ _ => some src.val
  | .sluiceUnlatch _ src _ => some src.val
  | .curveSwap _ src _ => some src.val
  | .energyClr _ src _ => some src.val
  | .sluiceDisable _ src _ => some src.val
  | .voteSet _ src _ => some src.val
  | .voteClr _ src _ => some src.val
  | .slackEnter _ => none
  | .stateEntryPrep _ _ => none
  | .voteCommit _ => none
  | .isolation _ => none
  | .wake _ _ => none
  | .wakeSeqEntry _ => none
  | .wakeHoldExpiry _ => none
  | .tokenRefill _ _ _ => none
  | .recordWrite _ => none
  | .repeatWindowExpiry _ => none
  | .flashRecordWrite _ _ => none
  | .flashEraseDone _ _ => none
  | .checkpoint _ => none
  | .readSeq _ src _ => some src.val
  | .flashReadDone _ => none
  | .clearReq _ src => some src.val
  | .clearResp _ src _ => some src.val
  | .gbClear _ _ _ _ _ => none
  | .challengeExpiry _ => none
  | .clearBlockErase _ => none
  | .powerOn _ => none
  | .fwAuthDone _ _ _ _ => none
  | .riserOnSchedule _ _ => none
  | .riserPgTimeout _ _ => none
  | .mbPing _ src => some src.val
  | .mbFwStage _ src => some src.val
  | .mbFwActivate _ src => some src.val
  | .mbDeviceReset _ src => some src.val
  | .mbProvisionAnchor _ src => some src.val
  | .mbProvisionClearKey _ src => some src.val
  | .mbProvisionLock _ src => some src.val
  | .mbMgmtRestart _ src => some src.val
  | .mbFwRevert _ src => some src.val
  | .mbCmdDone _ _ _ _ => none
  | .mgmtRestartDone _ => none
  | .pldmQueryDeviceIdentifiers _ => none
  | .pldmGetFirmwareParameters _ => none
  | .pldmRequestUpdate _ => none
  | .pldmPassComponentTable _ _ => none
  | .pldmUpdateComponent _ _ _ => none
  | .pldmFirmwareData _ _ => none
  | .pldmActivateFirmware _ => none
  | .pldmGetStatus _ => none
  | .pldmCancelUpdateComponent _ => none
  | .pldmCancelUpdate _ => none
  | .pldmDataTimeout _ => none
  | .railLoss _ => none
  | .vaonLoss _ => none
  | .alwaysOnPowerUp _ _ _ _ _ => none
  | .pairAlignmentLoss _ _ => none
  | .resyncAckTimeout _ _ _ => none
  | .linkRekeyDue _ _ => none
  | .hostReadCompletionTimeout _ _ => none
  | .busMasterEnableCleared _ _ => none
  | .mctpSpdmRequest _ => none

/-- The commands that may change a fuse: the three that can end bring-up may raise `SEC_MIN` (R501), a mailbox command may provision
(R502). -/
def endsBringUp : Instr → Bool
  | .canalTrainingDone _ _ _ _ _ => true
  | .canalFillComplete _ _ => true
  | .riserPgTimeout _ _ => true
  | _ => false

def endsMailbox : Instr → Bool
  | .mbCmdDone _ _ _ _ => true
  | _ => false

/-- Commands that touch nothing beside registers, events and the Gauge Book. -/
def bookkeeping : Instr → Bool
  | .softClear _ _ _ => true
  | .pageLock _ _ _ => true
  | .lockAll _ _ => true
  | .evtStatusClear _ _ _ _ => true
  | .msixUnmask _ _ _ => true
  | .tokenRefill _ _ _ => true
  | .recordWrite _ => true
  | .repeatWindowExpiry _ => true
  | .flashRecordWrite _ _ => true
  | .flashEraseDone _ _ => true
  | .checkpoint _ => true
  | .readSeq _ _ _ => true
  | .flashReadDone _ => true
  | .clearReq _ _ => true
  | .clearResp _ _ _ => true
  | .gbClear _ _ _ _ _ => true
  | .challengeExpiry _ => true
  | .clearBlockErase _ => true
  | .energyClr _ _ _ => true
  | .sluiceUnlatch _ _ _ => true
  | .sluiceMeanUpdate _ _ => true
  | _ => false

/-- The commands that come from the rails, the always-on domain and the pins: they act whether or not the rails are present. -/
def fromRails : Instr → Bool
  | .portPerst _ _ _ => true
  | .powerOn _ => true
  | .railLoss _ => true
  | .vaonLoss _ => true
  | .alwaysOnPowerUp _ _ _ _ _ => true
  | _ => false

/-- A CXL.mem request that takes a tag (R90, R91): its tide, its port, its HPA, and the tag it takes before its place is decoded. -/
def memRequest : Instr → Option (Nat × Port × Nat × Tag)
  | .cxlMemrd t p tag hpa dataOnly want =>
    some (t, p, hpa, { op := if dataOnly then .memRdData else .memRd, hostTag := tag, want := want })
  | .cxlMemwr t p tag hpa data poison giveUp =>
    some (t, p, hpa, { op := .memWr, hostTag := tag, data := data, be := BitVec.allOnes 64, poison := poison, want := if giveUp then 1 else 0 })
  | .cxlMemwrptl t p tag hpa data be poison giveUp =>
    some (t, p, hpa, { op := .memWrPtl, hostTag := tag, data := data, be := be, poison := poison, want := if giveUp then 1 else 0 })
  | .cxlMeminv t p tag hpa nt => some (t, p, hpa, { op := if nt then .memInvNT else .memInv, hostTag := tag, want := 2 })
  | .cxlMemclnevct t p tag hpa => some (t, p, hpa, { op := .memClnEvct, hostTag := tag })
  | _ => none

/-- A Siphon command (R196, R201): its tide, its source, what the queue takes beside the plots of the page's registers. -/
def siphonCommand : Instr → Option (Nat × Source × SipCmd)
  | .siphonPromote t src tag => some (t, src, ⟨1, 0, 0, 0, 0, 0, tag⟩)
  | .siphonDemote t src tag => some (t, src, ⟨2, 0, 0, 0, 0, 0, tag⟩)
  | .siphonCompress t src tag => some (t, src, ⟨3, 0, 0, 0, 0, 0, tag⟩)
  | .siphonExpand t src tag => some (t, src, ⟨4, 0, 0, 0, 0, 0, tag⟩)
  | .siphonPin t src tag => some (t, src, ⟨5, 0, 0, 0, 0, 0, tag⟩)
  | .siphonUnpin t src tag => some (t, src, ⟨6, 0, 0, 0, 0, 0, tag⟩)
  | .siphonDiscard t src tag => some (t, src, ⟨7, 0, 0, 0, 0, 0, tag⟩)
  | .siphonTractOut t src slot peer tag => some (t, src, ⟨8, 0, 0, slot, peer, 0, tag⟩)
  | .siphonTractIn t src slot peer mode tag => some (t, src, ⟨9, 0, 0, slot, peer, mode, tag⟩)
  | _ => none

/-- A key command (R294): its tide, its source, its operation, its slot, whether it locks the slot. -/
def keyCommand : Instr → Option (Nat × Source × Nat × Fin 64 × Bool)
  | .keyLoad t src k lock => some (t, src, 0, k, lock)
  | .keyGenerate t src k lock => some (t, src, 1, k, lock)
  | .keyClear t src k => some (t, src, 2, k, false)
  | .keyZeroise t src k => some (t, src, 3, k, false)
  | _ => none

/-- What every flit that passes its checks does before its own effect (R326, R327, R330): its corrected symbols are counted, the Twin notes the
tide, an IDLE or CTRL flit takes its control count, its acknowledgement is used. -/
def State.heard (s : State) (t l : Nat) (h : FlitHdr) (data : Bool) : Mach :=
  let m := (s.now t).inc Reg.Culvert.FEC_CORR l 0 h.corr
  let m := if m.twinLink l then m.wr Reg.Twin.LAST_RX_TIDE m.tide else m
  (if data then m else m.takeCount l h).takeAck l h

/-- A flit passes its checks: the link takes its type, its tag and its header are good, and its acknowledgement does not break the link. -/
def State.hears (s : State) (t l : Nat) (h : FlitHdr) (data : Bool) : Prop :=
  s.live ∧ takesFlit ((s.now t).fsm .culvert l) data = true ∧ h.gcm = true ∧ h.bad = false ∧ (s.heard t l h data).fsm .culvert l ≠ 5

end Sys2Proof.Machine
end

