-- ==== Sys2Proof/Certificates/Slice0/Obligations.lean ====
section
/-! DEFINITION. The statements for the provers. `s.now t` is the device once a command at tide `t` has come in, `s.woken t` once a
register write has, `s.noted …` once a STAGE write has and the page has noted its source (R30); `s.done m` is the outcome whose next
state has the device `m` and the queue and fuses of `s`; `s.yields o P` says that `o` is such an outcome with `P m`. -/

open Sys2Proof Sys2Proof.Machine

/-! ### The queue, the rails, the fuses -/

/-- A step runs the command at the front of the queue on the state with the rest of the queue. -/
def Obligations.StepRunsFront : Prop :=
  ∀ (c : Instr) (rest : List Instr) (s : State),
    step { s with pending := c :: rest } = exec c { s with pending := rest }

/-- With no command waiting, a step changes nothing (the model's choice, log entry 1). No command ends in a fault or a refusal: each answers a
next state with the queue as it was. -/
def Obligations.EveryCommandAnswers : Prop :=
  (∀ s : State, s.pending = [] → step s = .next s) ∧
  (∀ (c : Instr) (s : State), ∃ s', exec c s = .next s' ∧ s'.pending = s.pending)

/-- While a monitored rail is lost no command acts but those of the rails, the always-on domain and the pins: the tide moves on, and the rest of
the state is as before (R525; that they then do nothing is the model's reading, log entry 12). -/
def Obligations.LostRailsHoldAll : Prop :=
  ∀ (c : Instr) (s : State), ¬ s.live → fromRails c = false → exec c s = s.done (s.now c.tide)

/-- Invariant: every step keeps what is fused. The provisioning lock does not clear, `SEC_MIN` does not fall, a provisioned trust anchor or
clear key stays, and nothing is provisioned once the lock is set. -/
def Obligations.FusesKept : Prop :=
  ∀ (f : Fuses) (s s' : State), f.kept s.fuse → step s = .next s' → f.kept s'.fuse

/-- The fuses change by few commands only: the three that can end bring-up may raise `SEC_MIN` and leave the rest, a mailbox command may
provision and leaves `SEC_MIN`, every other command leaves every fuse. -/
def Obligations.FusesChangeOnlyBy : Prop :=
  ∀ (c : Instr) (s s' : State), exec c s = .next s' →
    (endsBringUp c = true → s'.fuse = { s.fuse with secMin := s'.fuse.secMin }) ∧
    (endsMailbox c = true → s'.fuse.secMin = s.fuse.secMin) ∧
    (endsBringUp c = false → endsMailbox c = false → s'.fuse = s.fuse)

/-- Invariant: every step keeps the canonical form of the DRAM contents: physical lines strictly rising, none listed that holds the blank line,
so that equal contents are equal data. -/
def Obligations.MemoryCanonical : Prop :=
  ∀ s s' : State, memoryWf s.m.st.dram = true → step s = .next s' → memoryWf s'.m.st.dram = true

/-- The fuses at reset are such a state: nothing provisioned, nothing locked. The DRAM contents at reset are in their canonical form: every line
is blank. -/
def Obligations.InvariantsAtReset : Prop :=
  (({} : Fuses).kept State.reset.fuse ∧ State.reset.fuse.locked = false ∧ State.reset.fuse.anchors = [] ∧ State.reset.fuse.clearKey = none) ∧
  (memoryWf State.reset.m.st.dram = true ∧ ∀ pl, State.reset.m.image pl = blankImage pl)

/-! ### Registers -/

/-- A register write that `CFG_WRITERS` keeps out is counted in `BLOCKED_WRITES` and has no other effect, whatever its row and its page (it ends
SLACK, as every access does); the management core is never kept out, a write of `CFG_WRITERS` never clears the bit of the source that writes
it, and a register read is never counted. -/
def Obligations.BlockedWrites : Prop :=
  (∀ (c : Instr) (src : Nat) (s : State), writerOf c = some src → s.keptOut src → exec c s = s.done ((s.woken c.tide).blocked src)) ∧
  (∀ (t : Nat) (src : Source) (off size : Nat) (val : BitVec 64) (s : State), s.keptOut src → (size = 8 ∨ size = 4) → off % size = 0 →
    (pageAt off).isSome = true → exec (.regWrite t src off size val) s = s.done ((s.woken t).blocked src)) ∧
  (∀ (m : Mach) (src : Nat), src < 6 → (m.blocked src).rd Reg.Device.BLOCKED_SRC = src ∧
    (m.blocked src).rd Reg.Device.BLOCKED_WRITES = min (m.rd Reg.Device.BLOCKED_WRITES + 1) (2 ^ 32 - 1)) ∧
  (∀ m : Mach, m.mayWrite 5 = true ∧ m.mayWrite 4 = m.flag Reg.Device.BMC_WR ∧
    ∀ src < 4, m.mayWrite src = (m.rd Reg.Device.PORT_WR).testBit src) ∧
  (∀ (m : Mach) (src v : Nat),
    (src < 4 → ((m.putRw ⟨.device, 0⟩ src Reg.Device.PORT_WR 0 v).rd Reg.Device.PORT_WR).testBit src = true) ∧
    (src = 4 → (m.putRw ⟨.device, 0⟩ src Reg.Device.BMC_WR 0 v).flag Reg.Device.BMC_WR = true)) ∧
  (∀ (t : Nat) (p : Port) (s : State), s.yields (exec (.lateW0Read t p) s) fun m =>
    m.rd Reg.Device.BLOCKED_WRITES = s.m.rd Reg.Device.BLOCKED_WRITES)

/-- Frame of the commands that only keep the books: the stored lines and tables, the merge buffer and the chains, the keys, the tags, the links,
the fabric, the shared regions, the twin stream, the Canals and the Data Mover stay, and so does the ACTIVE value of every TURN and HALT
field of every page. -/
def Obligations.BookkeepingFrame : Prop :=
  ∀ (c : Instr) (s s' : State), bookkeeping c = true → exec c s = .next s' →
    s'.fuse = s.fuse ∧ s'.m.st = s.m.st ∧ s'.m.lev = s.m.lev ∧ s'.m.cry = s.m.cry ∧ (∀ p, (s'.m.port p).tags = (s.m.port p).tags) ∧
    s'.m.links = s.m.links ∧ s'.m.turn = s.m.turn ∧ s'.m.shared = s.m.shared ∧ s'.m.twin = s.m.twin ∧ s'.m.canals = s.m.canals ∧
    s'.m.mover = s.m.mover ∧ s'.m.boot = s.m.boot ∧
    ∀ (p : PageId) (f : Field) (n : Nat), p ∈ allPages → f ∈ pageFields p.kind → f.commits = true → n ∈ f.idx →
      s'.m.act f p.inst n = s.m.act f p.inst n

/-- A write keeps every other field: two fields of the register tables never share a bit, so writing one (at any instance and index of its page)
leaves the value of the other. -/
def Obligations.FieldsDoNotOverlap : Prop :=
  ∀ (p : PageId) (f g : Field) (n k : Nat), f ∈ pageFields p.kind → g ∈ pageFields p.kind → n ∈ f.idx → k ∈ g.idx →
    (f, n) ≠ (g, k) → ∀ (m : Mach) (v : Nat), (m.wr f v p.inst n).rd g p.inst k = m.rd g p.inst k

/-- Every field of every page reads its Reset value in the state after reset. -/
def Obligations.ResetValues : Prop :=
  ∀ (p : PageId) (f : Field) (n : Nat), p ∈ allPages → f ∈ pageFields p.kind → n ∈ f.idx →
    State.reset.m.rd f p.inst n = f.resetAt p.inst n

/-- A STATE counter that wraps counts modulo its width; every other stops at all ones. -/
def Obligations.CountersWrapOrStop : Prop :=
  ∀ (m : Mach) (f : Field) (i n d : Nat),
    (f.wraps = true → (m.inc f i n d).rd f i n = (m.rd f i n + d) % 2 ^ f.width) ∧
    (f.wraps = false → (m.inc f i n d).rd f i n = min (m.rd f i n + d) (2 ^ f.width - 1))

/-- A 32-bit write changes only the half it addresses: a bit of a field that lies in the written half takes the written bit, every other keeps
the old one. -/
def Obligations.HalfWritesMerge : Prop :=
  ∀ (w : WriteBits) (f : Field) (n old b : Nat), b < f.width → w.lo + w.width ≤ 64 → f.pos n + f.width ≤ 64 →
    (w.merge f n old).testBit b =
      if w.lo ≤ f.pos n + b ∧ f.pos n + b < w.lo + w.width then w.val.testBit (f.pos n + b - w.lo) else old.testBit b

/-- REG_WRITE completes, and what it does: while BAR0 is not reachable nothing; an access of another size or one that is not aligned is counted
in `BAD_ACCESS` and ignored; an offset outside every page is ignored; a source that may not write, or that the page takes no write from, is
counted; an aligned write to a page puts the written bits into the fields of its register, and a write to a register of the STAGE area that
holds a field is noted in `STAGE_SRC`. -/
def Obligations.RegWriteCompletes : Prop :=
  ∀ (t : Nat) (src : Source) (off size : Nat) (val : BitVec 64) (s : State), s.live →
    (2 ≤ s.m.pw.st → exec (.regWrite t src off size val) s = s.done (s.now t)) ∧
    (s.m.pw.st < 2 → ¬ ((size = 8 ∨ size = 4) ∧ off % size = 0) →
      exec (.regWrite t src off size val) s = s.done ((s.woken t).inc Reg.Device.BAD_ACCESS)) ∧
    (s.m.pw.st < 2 → (size = 8 ∨ size = 4) ∧ off % size = 0 →
      (pageAt off = none → exec (.regWrite t src off size val) s = s.done (s.woken t)) ∧
      (∀ p, pageAt off = some p →
        let w : WriteBits := ⟨if size = 8 then 0 else off % 8 * 8, size * 8, val.toNat⟩
        (s.m.mayWrite src = false ∨ openTo p src = false → exec (.regWrite t src off size val) s = s.done ((s.woken t).blocked src)) ∧
        (s.m.mayWrite src = true → openTo p src = true →
          (off % 4096 < 0x100 ∨ 0x600 ≤ off % 4096 ∨ w.fields p.kind (off % 4096) = [] →
            exec (.regWrite t src off size val) s =
              s.done ((s.woken t).putReg s.fuse p src w (w.fields p.kind (off % 4096)))) ∧
          (0x100 ≤ off % 4096 ∧ off % 4096 < 0x600 → w.fields p.kind (off % 4096) ≠ [] →
            exec (.regWrite t src off size val) s =
              s.done ((s.noted t p.kind p.inst src).putReg s.fuse p src w (w.fields p.kind (off % 4096)))))))

/-- A TURN or HALT field that a register write reaches takes its value in STAGE only, and sets `STAGE_DIRTY`; its ACTIVE copy stays. -/
def Obligations.StagedFieldWrite : Prop :=
  ∀ (m : Mach) (p : PageId) (src n v : Nat) (f : Field), f ∈ pageFields p.kind → n ∈ f.idx → f.commits = true →
    (m.putRw p src f n v).rd f p.inst n = v % 2 ^ f.width ∧
    (m.putRw p src f n v).flag (Reg.Hdr.STAGE_DIRTY p.kind) p.inst = true ∧
    ∀ g ∈ pageFields p.kind, g.commits = true → ∀ k ∈ g.idx, (m.putRw p src f n v).act g p.inst k = m.act g p.inst k

/-- An RWL field of a locked page that is LIVE, a reserved encoding of a LIVE field, and `ENABLE` of a page that cannot be disabled are not
taken. -/
def Obligations.WritesNotTaken : Prop :=
  (∀ (m : Mach) (p : PageId) (f : Field) (v : Nat), f.access = .rwl → f.attr = .live → m.flag (Reg.Hdr.LOCKED p.kind) p.inst = true →
    m.takes p f v = false) ∧
  (∀ (m : Mach) (p : PageId) (f : Field) (v : Nat), f ≠ Reg.Hdr.ENABLE p.kind → f.attr = .live → liveOk f v = false →
    m.takes p f v = false) ∧
  (∀ (m : Mach) (p : PageId) (v : Nat), enableWritable p.kind = false → m.takes p (Reg.Hdr.ENABLE p.kind) v = false)

/-! ### Page controls and commits -/

/-- The header controls complete for every page and source that may write it: SOFT_CLEAR clears `STAGE_DIRTY`, and is ignored while a commit of
the page is pending; LOCK sets `LOCKED`, and `PAGES_LOCKED` then counts the locked pages; LOCK_ALL locks every page; TAKE asks for a
snapshot of the page, in the DEVICE page of every page; a W1C write to `EVT_STATUS` clears the bits it names. SOFT_CLEAR that is not ignored
reloads every TURN and HALT field of STAGE from ACTIVE. -/
def Obligations.PageControlsComplete : Prop :=
  (∀ (t : Nat) (src : Source) (p : PageId) (s : State), s.canWrite src → p ∈ allPages → openTo p src = true →
     ((s.woken t).flag (Reg.Hdr.COMMIT_PENDING p.kind) p.inst = false →
       s.yields (exec (.softClear t src p) s) fun m => m.rd (Reg.Hdr.STAGE_DIRTY p.kind) p.inst = 0) ∧
     ((s.woken t).flag (Reg.Hdr.COMMIT_PENDING p.kind) p.inst = true → exec (.softClear t src p) s = s.done (s.woken t)) ∧
     ((s.woken t).flag (Reg.Hdr.LOCKED p.kind) p.inst = false →
       s.yields (exec (.pageLock t src p) s) fun m => m.flag (Reg.Hdr.LOCKED p.kind) p.inst = true ∧
         m.rd Reg.Device.PAGES_LOCKED = (allPages.filter fun q => m.flag (Reg.Hdr.LOCKED q.kind) q.inst).length) ∧
     ((s.woken t).flag (Reg.Hdr.LOCKED p.kind) p.inst = true → exec (.pageLock t src p) s = s.done (s.woken t)) ∧
     s.yields (exec (.lockAll t src) s) (fun m => ∀ q ∈ allPages, m.flag (Reg.Hdr.LOCKED q.kind) q.inst = true) ∧
     (p.kind = .device → exec (.snapTake t src p) s = s.done (s.woken t).snapAll) ∧
     (p.kind ≠ .device → exec (.snapTake t src p) s = s.done ((s.woken t).wr (Reg.Hdr.SNAP_PENDING p.kind) 1 p.inst)) ∧
     s.yields (exec (.deviceSnapTake t src) s)
       (fun m => m.snapDev = true ∧ ∀ q ∈ allPages, m.flag (Reg.Hdr.SNAP_PENDING q.kind) q.inst = true) ∧
     (∀ mask : BitVec 64, s.yields (exec (.evtStatusClear t src p mask) s) fun m =>
       m.rd (Reg.Hdr.EVT_STATUS p.kind) p.inst =
         ((s.woken t).rd (Reg.Hdr.EVT_STATUS p.kind) p.inst - ((s.woken t).rd (Reg.Hdr.EVT_STATUS p.kind) p.inst &&& mask.toNat)) % 16 ∧
       ∀ e ∈ m.blkEvt, e.1 = pageNo p → mask.toNat.testBit (4 + blockBit e.2) = false)) ∧
  (∀ (m : Mach) (p : PageId), m.flag (Reg.Hdr.COMMIT_PENDING p.kind) p.inst = false →
     ∀ f ∈ commitFields p.kind, ∀ n ∈ f.idx, (m.softClear p).rd f p.inst n = m.act f p.inst n % 2 ^ f.width)

/-- HALT is written: the bit is stored, a block that can halt is asked to at once where the bit is 1, and a Twin goes on where it is 0; a page
that takes no write from the source counts it. A block that was asked to halt and holds no work any more reaches HALTED with the bit
HALT_REACHED of its `EVT_STATUS`, a Culvert link where it is OFF or BROKEN; a block that is HALTED already stays as it is. -/
def Obligations.HaltsComplete : Prop :=
  (∀ (t : Nat) (src : Source) (p : PageId) (halt : Bool) (s : State), s.canWrite src →
     (openTo p src = false → exec (.pageHaltRequest t src p halt) s = s.done ((s.woken t).blocked src)) ∧
     (openTo p src = true →
     (hasHalt p.kind = false → exec (.pageHaltRequest t src p halt) s = s.done ((s.woken t).wb (Reg.Hdr.HALT p.kind) halt p.inst)) ∧
     (hasHalt p.kind = true → halt = true →
       exec (.pageHaltRequest t src p halt) s = s.done (((s.woken t).wb (Reg.Hdr.HALT p.kind) true p.inst).haltNow p)) ∧
     (hasHalt p.kind = true → halt = false → p.kind ≠ .twin →
       exec (.pageHaltRequest t src p halt) s = s.done ((s.woken t).wb (Reg.Hdr.HALT p.kind) false p.inst)) ∧
     (p.kind = .twin → halt = false →
       exec (.pageHaltRequest t src p halt) s = s.done (((s.woken t).wb (Reg.Hdr.HALT p.kind) false p.inst).twinBack)))) ∧
  (∀ (t : Nat) (p : PageId) (s : State), s.live → p ∈ allPages → hasHalt p.kind = true →
     (s.now t).flag (Reg.Hdr.HALT p.kind) p.inst = true →
     ((s.now t).halted p.kind p.inst = true → exec (.pageHalted t p) s = s.done (s.now t)) ∧
     ((s.now t).halted p.kind p.inst = false →
       (p.kind ≠ .culvert ∧ (s.now t).idle p = true) ∨
         (p.kind = .culvert ∧ ((s.now t).fsm .culvert p.inst = 0 ∨ (s.now t).fsm .culvert p.inst = 5)) →
       s.yields (exec (.pageHalted t p) s) fun m => m.halted p.kind p.inst = true ∧
         (m.rd (Reg.Hdr.EVT_STATUS p.kind) p.inst).testBit 2 = true))

/-- A write of 1 to `GO` of a page that is in no PENDING commit latches a commit of it: the last one waiting, with `CODE` 1 and `COMMIT_PENDING`
1 and `STAGE_DIRTY` 0 in the page; a page that is in a PENDING commit ignores it. COMMIT_VALIDATE judges the oldest commit that waits. The
first of checks 1 to 5 with an offence rejects it with that check's code; otherwise the storage it needs and the sum of check 6 decide. -/
def Obligations.CommitsComplete : Prop :=
  (∀ (t : Nat) (src : Source) (p : PageId) (s : State), s.canWrite src → p ∈ allPages → openTo p src = true →
     ((s.woken t).pagePending p = true → exec (.commitGo t src p) s = s.done (s.woken t)) ∧
     ((s.woken t).pagePending p = false →
       s.yields (exec (.commitGo t src p) s) fun m =>
         (∃ c, m.commits = (s.woken t).commits ++ [c] ∧ c.page = p ∧ c.passed = false) ∧
         m.rd (Reg.Hdr.CODE p.kind) p.inst = 1 ∧ m.flag (Reg.Hdr.COMMIT_PENDING p.kind) p.inst = true ∧
         m.flag (Reg.Hdr.STAGE_DIRTY p.kind) p.inst = false)) ∧
  (∀ (t : Nat) (s : State) (c : Commit), s.live → (s.m.commits.find? fun c => !c.passed) = some c →
     (∀ code o, ((s.now t).judge c).fails = some (code, o) →
       exec (.commitValidate t) s = s.done ((s.now t).reject c code (if o.2 = 0 then 0xFF else o.2 - 1) o.1)) ∧
     (∀ e, ((s.now t).judge c).fails = none → ((s.now t).judge c).storage = .inl e →
       exec (.commitValidate t) s = s.done ((s.now t).rejectAt c 2 ((firstOffence (((s.now t).judge c).edit e)).getD (0, 0)))) ∧
     (∀ frames, ((s.now t).judge c).fails = none → ((s.now t).judge c).storage = .inr frames → ((s.now t).judge c).sums = false →
       exec (.commitValidate t) s = s.done (((s.now t).judge c).m.passCommit ((s.now t).judge c).c none frames)) ∧
     (∀ frames, ((s.now t).judge c).fails = none → ((s.now t).judge c).storage = .inr frames → ((s.now t).judge c).sums = true →
       exec (.commitValidate t) s = s.done (((s.now t).judge c).last frames)))

/-- A rejected commit leaves the waiting ones, its pages show the code with `COMMIT_PENDING` 0 and are dirty again, and no ACTIVE value of any
page changes. -/
def Obligations.RejectionChangesNothing : Prop :=
  ∀ (m : Mach) (c : Commit) (code word member : Nat), code < 16 → (∀ e ∈ c.pages, e.2 ∈ allPages) → c.page ∈ allPages →
    (∀ e ∈ c.pages, (m.reject c code word member).rd (Reg.Hdr.CODE e.2.kind) e.2.inst = code ∧
      (m.reject c code word member).flag (Reg.Hdr.COMMIT_PENDING e.2.kind) e.2.inst = false ∧
      (m.reject c code word member).flag (Reg.Hdr.STAGE_DIRTY e.2.kind) e.2.inst = true) ∧
    (∀ p ∈ allPages, ∀ f ∈ pageFields p.kind, f.commits = true → ∀ n ∈ f.idx,
      (m.reject c code word member).act f p.inst n = m.act f p.inst n ∧ (m.reject c code word member).rd f p.inst n = m.rd f p.inst n) ∧
    (∀ d ∈ (m.reject c code word member).commits, d.page ≠ c.page)

/-- The checks are taken in their order: an offence of check k is reported with code BUSY, LOCKED, HALT_ONLY, RANGE, DISAGREE only where no
earlier check has one; an edit that finds no storage is an offence of check 5. -/
def Obligations.ChecksInOrder : Prop :=
  ∀ (j : Judge) (code : Nat) (o : Offence), j.fails = some (code, o) →
    (code = 7 ∧ firstOffence j.check1 = some o) ∨
    (code = 6 ∧ firstOffence j.check1 = none ∧ firstOffence j.check2 = some o) ∨
    (code = 3 ∧ firstOffence j.check1 = none ∧ firstOffence j.check2 = none ∧ firstOffence j.check3 = some o) ∨
    (code = 5 ∧ firstOffence j.check1 = none ∧ firstOffence j.check2 = none ∧ firstOffence j.check3 = none ∧
      firstOffence j.check4 = some o) ∨
    (code = 2 ∧ firstOffence j.check1 = none ∧ firstOffence j.check2 = none ∧ firstOffence j.check3 = none ∧
      firstOffence j.check4 = none ∧ firstOffence (j.check5 ++ j.noStorage) = some o)

/-! ### Host ports and resets -/

/-- Training of a host port completes: an attempt that succeeds, one that fails before the third and the third that fails, which leaves the port
DOWN with its reason and event 0x0414; so do LINK_UP, with the rate and width reached and event 0x0410, a retrain and a change of rate,
which a retrain after `EQ128_RETRY` may take to 128 GT/s again; a retrain of a port that holds Detect.Quiet lets it train; and `EQ128_RETRY`
clears `EQ128_FAILED`. An HDM decoder commit that keeps the limits of R63 is committed, one that does not sets `DEC_ERR` and records event
0x0419; an uncommit clears both bits. A vector that is unmasked is open, and one whose PBA bit is set is sent at once. -/
def Obligations.HostLinkCompletes : Prop :=
  (∀ (t : Nat) (src : Source) (p : Port) (rate width ltssm reason : Nat) (lo again : Bool) (eq : Option (Nat × Nat)) (cfg : PortCfg)
     (s : State), s.live →
     let n := s.noted t .hostPort p src
     let w := if again then (s.now t).modPort p fun x => { x with holdQuiet := false, trainTries := 0 } else s.now t
     (w.mayTrain p = true → w.fsm .hostPort p = 0 ∨ w.fsm .hostPort p = 1 →
       s.yields (exec (.linkTraining t p 0 ltssm again eq) s) (fun m =>
         m.fsm .hostPort p = 1 ∧ m.rd Reg.HostPort.LTSSM p = ltssm % 2 ^ Reg.HostPort.LTSSM.width ∧ (m.port p).trainTries = 0) ∧
       (0 < reason → (w.port p).trainTries + 1 < 3 →
         s.yields (exec (.linkTraining t p reason ltssm again eq) s) fun m =>
           m.fsm .hostPort p = 1 ∧ (m.port p).trainTries = (w.port p).trainTries + 1) ∧
       (0 < reason → 3 ≤ (w.port p).trainTries + 1 →
         s.yields (exec (.linkTraining t p reason ltssm again eq) s) fun m =>
           m.fsm .hostPort p = 0 ∧ m.rd Reg.HostPort.TRAIN_FAIL_REASON p = reason % 2 ^ Reg.HostPort.TRAIN_FAIL_REASON.width ∧
           m.told .hostPort p 0x0414)) ∧
     ((s.now t).mayTrain p = true → (s.now t).fsm .hostPort p = 1 → rate ≤ 6 →
       s.yields (exec (.linkUp t p rate width ltssm lo cfg) s) fun m =>
         m.fsm .hostPort p = 2 ∧ m.flag Reg.HostPort.DL_UP p = true ∧ m.rd Reg.HostPort.RATE p = min rate ((s.now t).topRate p) ∧
         m.rd Reg.HostPort.WIDTH p = linkWidth width ∧ m.told .hostPort p 0x0410) ∧
     ((s.now t).flag Reg.HostPort.DL_UP p = true → rate ≤ 6 →
       s.yields (exec (.linkRateChange t p rate width) s) fun m =>
         m.rd Reg.HostPort.RATE p = min rate ((s.now t).topRate p) ∧ m.rd Reg.HostPort.WIDTH p = linkWidth width) ∧
     (s.canWrite src → n.flag Reg.HostPort.DL_UP p = true → rate ≤ 6 →
       s.yields (exec (.linkRetrain t src p rate width lo none) s) fun m =>
         m.rd Reg.HostPort.RATE p = min rate (if n.flag Reg.HostPort.EQ128_FAILED p then min 5 (n.rd Reg.HostPort.MAX_RATE p)
           else n.rd Reg.HostPort.MAX_RATE p) ∧ m.rd Reg.HostPort.WIDTH p = linkWidth width) ∧
     (s.canWrite src → n.flag Reg.HostPort.DL_UP p = true →
       s.yields (exec (.linkRetrain t src p rate width lo eq) s) fun m => m.rd Reg.HostPort.WIDTH p = linkWidth width) ∧
     (s.canWrite src → n.flag Reg.HostPort.DL_UP p = false →
       s.yields (exec (.linkRetrain t src p rate width lo eq) s) fun m => (m.port p).holdQuiet = false ∧ (m.port p).trainTries = 0) ∧
     (s.canWrite src → exec (.eq128Retry t src p) s = s.done (n.wr Reg.HostPort.EQ128_FAILED 0 p))) ∧
  (∀ (t : Nat) (p : Port) (n : Fin 16) (base size ways gran : Nat) (bi : Bool) (s : State), s.live →
     (s.now t).flag Reg.HostPort.DL_UP p = true →
     ((s.woken t).decoderFits p n ⟨base, size, ways, gran, bi⟩ = true →
       s.yields (exec (.decoderCommit t p n base size ways gran bi) s) fun m =>
         (m.rd Reg.HostPort.DEC_COMMITTED p).testBit n = true ∧ Tbl.find (m.port p).decoders n = some ⟨base, size, ways, gran, bi⟩) ∧
     ((s.woken t).decoderFits p n ⟨base, size, ways, gran, bi⟩ = false →
       s.yields (exec (.decoderCommit t p n base size ways gran bi) s) fun m =>
         (m.rd Reg.HostPort.DEC_COMMITTED p).testBit n = false ∧ (m.rd Reg.HostPort.DEC_ERR p).testBit n = true ∧
         m.told .hostPort p 0x0419) ∧
     s.yields (exec (.decoderUncommit t p n) s) fun m =>
       (m.rd Reg.HostPort.DEC_COMMITTED p).testBit n = false ∧ (m.rd Reg.HostPort.DEC_ERR p).testBit n = false ∧
       Tbl.find (m.port p).decoders n = none) ∧
  (∀ (t : Nat) (p : Port) (vec : Fin 133) (s : State), s.live →
     s.yields (exec (.msixUnmask t p vec) s) (fun m => vec.val ∈ (m.port p).vecOpen) ∧
     (vec.val ∈ ((s.now t).port p).vecPend → (s.now t).flag Reg.HostPort.DL_UP p = true → ((s.now t).port p).flrSince = none →
       s.yields (exec (.msixUnmask t p vec) s) fun m => m.out = (s.now t).out ++ [.msix p vec] ∧ vec.val ∉ (m.port p).vecPend))

/-- The table of latencies and payload rates: at width w below 16 each latency is longer by the flit time times (16 / w - 1), the payload is
scaled by w / 16, and the rate adder is what ingress and egress of data together exceed 80 ns by. `LINK_LAT` and `LINK_RATE` show them. -/
def Obligations.LatencyTable : Prop :=
  ∀ (m : Mach) (p w : Nat), w ∈ [1, 2, 4, 8, 16] →
    ∀ e ∈ [(0, 64, 370, 660, 490, 3600), (1, 32, 190, 340, 250, 7200), (2, 16, 106, 186, 138, 14170), (3, 8, 62, 108, 80, 28350),
           (4, 4, 40, 70, 52, 56700), (5, 2, 28, 52, 38, 115200), (6, 1, 24, 46, 34, 230400)],
      let (rate, flit, ing, dat, ndr, pay) := e
      let n := m.showLink p rate w
      n.rd Reg.HostPort.ING_NS p = ing + flit * (16 / w - 1) ∧ n.rd Reg.HostPort.EGR_DATA_NS p = dat + flit * (16 / w - 1) ∧
      n.rd Reg.HostPort.EGR_NDR_NS p = ndr + flit * (16 / w - 1) ∧ n.rd Reg.HostPort.PAYLOAD_MBPS p = pay * w / 16 ∧
      n.rd Reg.HostPort.RATE_ADDER_NS p = ing + flit * (16 / w - 1) + (dat + flit * (16 / w - 1)) - 80

/-- A link drop uncommits the decoders and leaves IDE inactive and the state machine in DRAINING (or insecure as it was: the model's choice, log
entry 118), before the agents behind the port are lost. The end of its draining records event 0x041B and leaves DRAINING. PORT_DISABLE
disables the page and holds Detect.Quiet. The loss of Bus Master Enable ends the jobs of the port and stops its mirror. A failing MAC of an
IDE stream that is active makes the port insecure, counts it, raises the alarm cause and records event 0x0415, and takes the link down. -/
def Obligations.PortDownCompletes : Prop :=
  (∀ (t : Nat) (src : Source) (p : Port) (s : State), s.live →
     ((s.now t).flag Reg.HostPort.DL_UP p = true →
       ∃ m : Mach, exec (.linkDrop t p) s = s.done (m.portLost p) ∧
         m.rd Reg.HostPort.DEC_COMMITTED p = 0 ∧ m.rd Reg.HostPort.IDE_IO p = 0 ∧ m.rd Reg.HostPort.IDE_MEM p = 0 ∧
         m.rd Reg.HostPort.LTSSM p = 0 ∧ (m.fsm .hostPort p = 6 ∨ m.fsm .hostPort p = 7)) ∧
     (((s.now t).port p).draining = true →
       s.yields (exec (.tagsFreedAfterDrop t p) s) fun m => m.told .hostPort p 0x041B ∧ m.fsm .hostPort p ≠ 7) ∧
     (s.canWrite src →
       s.yields (exec (.portDisable t src p) s) fun m =>
         m.enabled .hostPort p = false ∧ m.rd Reg.HostPort.LTSSM p = 0 ∧ (m.port p).holdQuiet = true ∧ (m.port p).trainTries = 0) ∧
     ((s.now t).flag Reg.HostPort.DL_UP p = true →
       exec (.busMasterEnableCleared t p) s =
         s.done ((((s.woken t).modPort p fun x => { x with bme := false }).jobsDown p).mirrorStop p 3))) ∧
  (∀ (t : Nat) (p : Port) (mem : Bool) (flits : Nat) (s : State), s.live → (s.now t).flag Reg.HostPort.DL_UP p = true →
     (s.now t).flag (if mem then Reg.HostPort.IDE_MEM else Reg.HostPort.IDE_IO) p = true →
     ∃ m : Mach, exec (.ideIntegrityFailure t p mem flits) s = s.done (m.portDown p 4) ∧
       m.flag Reg.HostPort.IDE_INSECURE p = true ∧ m.fsm .hostPort p = 6 ∧ m.told .hostPort p 0x0415 ∧
       m.rd Reg.Crypto.IDE_FAILS 0 p =
         min ((s.now t).rd Reg.Crypto.IDE_FAILS 0 p + 1) (2 ^ Reg.Crypto.IDE_FAILS.width - 1) ∧
       (m.rd Reg.Crypto.ALARM_CAUSE).testBit 1 = true)

/-- FLR is recorded by event 0x0416, shown in `LAST_RESET`, and ends the jobs of the port and its mirror; its completion is counted and
recorded. A hot reset leaves the port DOWN or DRAINING, ready to train. `PERST_N` asserted empties the Late FIFO and is recorded by event
0x0418; released it makes a new vote possible. -/
def Obligations.PortResetsComplete : Prop :=
  ∀ (t : Nat) (p : Port) (cfg : PortCfg) (s : State), s.live →
    ((s.now t).flag Reg.HostPort.DL_UP p = true →
      ∃ m : Mach, exec (.flr t p) s = s.done ((m.jobsDown p).mirrorStop p 1) ∧ m.told .hostPort p 0x0416 ∧ m.rd Reg.HostPort.LAST_RESET p = 1) ∧
    (∀ start, ((s.now t).port p).flrSince = some start →
      s.yields (exec (.flrComplete t p cfg) s) fun m =>
        m.rd Reg.HostPort.FLR_COUNT p = min ((s.now t).rd Reg.HostPort.FLR_COUNT p + 1) (2 ^ Reg.HostPort.FLR_COUNT.width - 1) ∧
        m.told .hostPort p 0x0416) ∧
    s.yields (exec (.hotReset t p) s) (fun m => (m.port p).holdQuiet = false ∧ (m.port p).trainTries = 0 ∧
      (m.fsm .hostPort p = 0 ∨ m.fsm .hostPort p = 7)) ∧
    (((s.now t).port p).perst = false →
      ∃ (m : Mach) (a b : Nat), exec (.portPerst t p true) s = s.done (m.event .hostPort p 0x0418 a b) ∧
        (m.port p).perst = true ∧ (m.port p).late = [] ∧ (m.port p).perstSince = m.tide) ∧
    s.yields (exec (.portPerst t p false) s) fun m => (m.port p).perst = false ∧ m.boot.voteDone = false

/-- The device fundamental reset by the vote of the ports' `PERST_N`, and by a DEVICE_RESET command. A vote that has had its reset, or does not
hold, brings none, and nothing is added while a device-fatal loss holds the links down. What a device fundamental reset leaves: the tide and
the serial number stay, no commit waits, no memory is active, every CXL decoder is gone, `RESET_CAUSE` shows the cause, `BOOT_STAGE` is 1
and a mailbox command that ran has ended with result ABORTED. -/
def Obligations.DeviceResetCompletes : Prop :=
  (∀ (t : Nat) (s : State), s.live →
     (s.m.clk.holdDown = true → exec (.deviceFundamentalReset t) s = s.done (s.now t)) ∧
     (s.m.boot.resetDue = none → (s.now t).voteHolds = false ∨ s.m.boot.voteDone = true →
       exec (.deviceFundamentalReset t) s = s.done (s.now t)) ∧
     (s.m.clk.holdDown = false →
     (∀ c, s.m.boot.resetDue = some c → exec (.deviceFundamentalReset t) s = s.done ((s.now t).fundamental s.fuse c false)) ∧
     (s.m.boot.resetDue = none → (s.now t).voteHolds = true → s.m.boot.voteDone = false →
       ∃ m : Mach, exec (.deviceFundamentalReset t) s = s.done m ∧ m.boot.voteDone = true ∧
         m = ((s.now t).fundamental s.fuse 2 false).modBoot fun b => { b with voteDone := true }))) ∧
  (∀ (m : Mach) (f : Fuses) (cause : Nat), 0 < cause → cause < 8 →
     (m.fundamental f cause false).serial = m.serial ∧ (m.fundamental f cause false).tide = m.tide ∧
     (m.fundamental f cause false).commits = [] ∧ (m.fundamental f cause false).memActive = false ∧
     (m.fundamental f cause false).rd Reg.Mailbox.RESET_CAUSE = cause ∧ (m.fundamental f cause false).rd Reg.Mailbox.BOOT_STAGE = 1 ∧
     (∀ p, ((m.fundamental f cause false).port p).decoders = []) ∧
     (∀ c, m.boot.mb = some c → (m.fundamental f cause false).rd Reg.Mailbox.MB_STATUS = 2 ∧
       (m.fundamental f cause false).rd Reg.Mailbox.MB_RESULT = 7))

/-! ### Clocks, turns, what a host function reads -/

/-- An island that loses its clock: the loss is latched in `ISLAND_LOST`, recorded as event 0x4C10, the island runs no more and the loss has its
consequence. ISLAND_CLOCK_LOSS loses an island that runs, or with a PLL every running island that it clocks; one that does not run is not
lost. ISLAND_CLOCK_RETURN ends the loss, and the PLL is locked again; the last device-fatal one brings a device fundamental reset (R13,
R505). -/
def Obligations.IslandClockCompletes : Prop :=
  (∀ (m : Mach) (i : Fin 40), ∃ n : Mach, m.islandLost i = n.islandGone i ∧ (n.rd Reg.Clock.ISLAND_LOST).testBit i = true ∧
    n.clk.lost.testBit i = true ∧ n.islandRuns i = false ∧ n.told .clock 0 0x4C10) ∧
  (∀ (t : Nat) (i : Fin 40) (s : State), s.live →
    let w := s.now t
    (w.islandRuns i = true → exec (.islandClockLoss t i false) s = s.done (w.islandLost i)) ∧
    (w.islandRuns i = false → exec (.islandClockLoss t i false) s = s.done w) ∧
    exec (.islandClockLoss t i true) s = s.done ((w.wr (pllOf i) 0).each
      ((List.range 40).filter fun k => pllOf k = pllOf i && w.islandRuns k) fun m k => m.islandLost k) ∧
    (w.clk.lost.testBit i = false → exec (.islandClockReturn t i) s = s.done w) ∧
    (w.clk.lost.testBit i = true →
      w.clk.holdDown = false ∨ (∃ k : Fin 40, k ≠ i ∧ fatalIsland k = true ∧ w.clk.lost.testBit k = true) →
      s.yields (exec (.islandClockReturn t i) s) fun m => m.clk.lost.testBit i = false ∧ m.rd (pllOf i) = 1 ∧
        (w.islandPowered i = true → (w.rd Reg.Clock.ISLAND_PARKED).testBit i = false → w.pw.st ≠ 1 → m.islandRuns i = true)) ∧
    (w.clk.lost.testBit i = true → w.clk.holdDown = true →
      (∀ k : Fin 40, k ≠ i → fatalIsland k = true → w.clk.lost.testBit k = false) →
      ∃ m : Mach, exec (.islandClockReturn t i) s = s.done (m.fundamental s.fuse 4 false) ∧ m.rd (pllOf i) = 1))

/-- A turn boundary: the index counts up, the boundary's own tide is shown, the next boundary is one ACTIVE turn length of 250 ns units away,
and a beacon goes out to all 40 islands (R15). It completes the beacon before it; before its time nothing happens. The arrivals of a beacon:
each island takes it once, and the spread of the arrivals is measured from the first. An island that is not a host port's nor the last
applies its part of the commits that have passed, resumes what was halted and takes its snapshots; the last one's arrival posts the results,
and without a commit that applies nothing else but the spread and the count of snapshots (R16, R25, R38). The half-turn point and the
floor-hold point: what best effort and freeboard have not used becomes the remainder and open freeboard, and a port below its `CALL_KEEP`
gives what is left of its floors to the pools; before the point, or a second time in a turn, neither does anything (R136, R162, R163). -/
def Obligations.TurnsComplete : Prop :=
  (∀ (t : Nat) (s : State), s.live →
     (s.m.clk.running = false ∨ max s.m.tide t < s.m.clk.nextTurn → exec (.turnBoundary t) s = s.done (s.now t)) ∧
     (s.m.clk.running = true → s.m.clk.nextTurn ≤ max s.m.tide t →
     let w := (s.now t).finishBeacon.turnEnds.recheck
     ∃ m : Mach, exec (.turnBoundary t) s = s.done m.powerUpdate ∧
       m.rd Reg.Clock.TURN_INDEX = (w.rd Reg.Clock.TURN_INDEX + 1) % 2 ^ Reg.Clock.TURN_INDEX.width ∧
       m.rd Reg.Clock.TURN_START = w.clk.nextTurn % 2 ^ Reg.Clock.TURN_START.width ∧
       m.clk.nextTurn = w.clk.nextTurn + w.act Reg.Weir.TURN_LEN * 250 ∧ m.clk.beaconLeft = List.range 40)) ∧
  ((∀ (t : Nat) (i : Fin 40) (offset : Nat) (fails : List (Fin 40)) (s : State), s.live →
     (s.m.clk.beaconLeft.contains i.val = false → exec (.beaconArrival t i offset fails) s = s.done (s.now t)) ∧
     (s.m.clk.beaconLeft.contains i.val = true →
       exec (.beaconArrival t i offset fails) s =
         s.done (((s.now t).arrivalAt i offset).reach (fails.map fun k => k.val) i))) ∧
   (∀ (m : Mach) (i offset : Nat),
     (m.clk.beaconLeft.length = 40 → (m.arrivalAt i offset).clk.firstAt = offset ∧ (m.arrivalAt i offset).clk.lastAt = offset) ∧
     (m.clk.beaconLeft.length ≠ 40 → (m.arrivalAt i offset).clk.firstAt = min m.clk.firstAt offset ∧
       (m.arrivalAt i offset).clk.lastAt = max m.clk.lastAt offset)) ∧
   (∀ (m : Mach) (fails : List Nat) (i : Nat), m.clk.beaconLeft.contains i = true → 4 < i →
     let w : Mach := { m with clk := { m.clk with beaconLeft := m.clk.beaconLeft.filter fun k => k != i } }
     let n := (((w.ledgersAt i).applyAt fails i).resumeAt i).freezeAt i
     (n.clk.beaconLeft ≠ [] → m.reach fails i = n) ∧
     (n.clk.beaconLeft = [] → m.reach fails i = n.postApplied.showSkew.snapPosted)) ∧
   (∀ m : Mach, (∀ c ∈ m.commits, c.applying = false) → m.postApplied = m)) ∧
  (∀ (t : Nat) (p : Port) (s : State), s.live →
     let v := s.now t
     (s.m.weir.halfDone = false → v.pastPoint 8 = true →
       s.yields (exec (.halfTurnPoint t) s) fun m =>
         (∀ q < 4, m.beShare q = 0) ∧ (∀ k < 5, m.rd Reg.Weir.FB_LEFT 0 k = 0) ∧ m.weir.halfDone = true ∧
         m.rd Reg.Weir.BE_LEFT = (v.rd Reg.Weir.BE_LEFT + ((List.range 4).map fun q => v.beShare q).sum) % 2 ^ Reg.Weir.BE_LEFT.width ∧
         m.weir.fbOpen = v.weir.fbOpen + ((List.range 5).map fun k => v.rd Reg.Weir.FB_LEFT 0 k).sum) ∧
     (s.m.weir.halfDone = true ∨ v.pastPoint 8 = false → exec (.halfTurnPoint t) s = s.done v) ∧
     (s.m.weir.holdDone.contains p.val = true ∨ s.m.clk.running = false ∨ v.pastPoint (v.act Reg.Headgate.FLOOR_HOLD p) = false →
       exec (.floorHoldPoint t p) s = s.done v) ∧
     (s.m.clk.running = true → s.m.weir.holdDone.contains p.val = false → v.pastPoint (v.act Reg.Headgate.FLOOR_HOLD p) = true →
       (v.act Reg.Headgate.CALL_KEEP p ≤ v.call p →
         exec (.floorHoldPoint t p) s = s.done { v with weir := { v.weir with holdDone := v.weir.holdDone ++ [p.val] } }) ∧
       (v.call p < v.act Reg.Headgate.CALL_KEEP p →
         s.yields (exec (.floorHoldPoint t p) s) fun m => ∀ (w : Bool) (a : Nat), a < 16 →
           (m.port p).floor w a = 0 ∧
           m.rd (poolField w) a = (v.rd (poolField w) a + (v.port p).floor w a) % 2 ^ (poolField w).width)))

/-- Each command of a function's primary mailbox completes with its answer and vector 129, which waits in the PBA while it is masked (R68, R75;
opcodes and return codes are the model's, log entry 22). The DOE commands complete where no other request of the function is at work: with
their answer, or, not ready, as the request at work; DOE_ABORT discards it (R73). MCTP_SPDM_REQUEST is answered. `GEN` is odd while the
table is written and even once it is done, and the table then holds what the device has (R72). -/
def Obligations.FunctionReadsComplete : Prop :=
  ((∀ (m : Mach) (p op ret : Nat) (vals : List Nat), m.flag Reg.HostPort.DL_UP p = true → (m.port p).flrSince = none →
     (129 ∈ (m.port p).vecOpen → (m.mailboxDone p op ret vals).out = m.out ++ [.mailbox p op ret vals, .msix p 129]) ∧
     (129 ∉ (m.port p).vecOpen → (m.mailboxDone p op ret vals).out = m.out ++ [.mailbox p op ret vals] ∧
       129 ∈ ((m.mailboxDone p op ret vals).port p).vecPend)) ∧
   ∀ (t : Nat) (p : Port) (n : Nat) (v : BitVec 64) (op : BitVec 16) (s : State), s.live → (s.now t).functionUp p = true →
     let w := s.woken t
     exec (.identifyMemoryDevice t p) s = s.done (w.mailboxDone p 0x4000 0
       [4 * w.rd Reg.TractTable.SPAN_GB, 4 * w.rd Reg.TractTable.SPAN_GB, 0, 0, 256]) ∧
     exec (.getSupportedLogs t p) s = s.done (w.mailboxDone p 0x0400 0 [1]) ∧
     exec (.getLog t p true) s = s.done (w.mailboxDone p 0x0401 0 mailboxOps) ∧
     exec (.getLog t p false) s = s.done (w.mailboxDone p 0x0401 retInvalidLog []) ∧
     (∃ m, exec (.getHealthInfo t p) s = s.done m ∧ m.out = (w.mailboxDone p 0x4200 0 [(Config.freeValue w.free).toNat]).out) ∧
     exec (.getEventRecords t p) s = s.done (w.mailboxDone p 0x0100 0 ((w.port p).evtLog.flatMap eventVals)) ∧
     (s.yields (exec (.clearEventRecords t p n) s) fun m => (m.port p).evtLog = (w.port p).evtLog.drop n) ∧
     exec (.getPoisonList t p) s = s.done (w.mailboxDone p 0x4300 0 ((w.lev.prec.flatMap fun e => [e.line * 64, e.cause]) ++ w.poisonOvf)) ∧
     exec (.getFwInfo t p) s = s.done (w.mailboxDone p 0x0200 0
       [2, w.rd Reg.Mailbox.BOOT_SLOT, w.rd Reg.Mailbox.FW_RUNNING, w.rd Reg.Mailbox.FW_OTHER]) ∧
     exec (.getTimestamp t p) s = s.done (w.mailboxDone p 0x0300 0 [w.timestamp p]) ∧
     (s.yields (exec (.setTimestamp t p v) s) fun m => m.timestamp p = v.toNat) ∧
     (mailboxOps.contains op.toNat = false → exec (.mailboxUnsupported t p op) s = s.done (w.mailboxDone p op.toNat retUnsupported []))) ∧
  (∀ (t : Nat) (p : Port) (i : Fin 4) (len : Nat) (s : State), s.live →
     ((s.now t).functionUp p = true → ((s.woken t).port p).doeBusy = none → len ≤ 4096 →
       s.yields (exec (.doeDiscovery t p i true) s) (fun m => (m.port p).doeReady = true ∧
         ∃ l, m.out = s.m.out ++ .doe p 0 (doeProtocol i) :: l) ∧
       s.yields (exec (.cdatTableAccess t p true) s) (fun m => (m.port p).doeReady = true ∧
         ∃ l, m.out = s.m.out ++ .doe p 3 (((s.woken t).port p).cdatSeq :: (s.now t).cdatVals p) :: l) ∧
       ((s.now t).mgmtUp = true →
         s.yields (exec (.doeCmaSpdm t p len true) s) (fun m => ∃ v l, m.out = s.m.out ++ .doe p 1 [v] :: l) ∧
         s.yields (exec (.doeSecuredSpdm t p len true) s) (fun m => ∃ v l, m.out = s.m.out ++ .doe p 2 [v] :: l)) ∧
       s.yields (exec (.doeDiscovery t p i false) s) (fun m => (m.port p).doeBusy = some .discovery ∧ (m.port p).doeReady = false) ∧
       s.yields (exec (.cdatTableAccess t p false) s) (fun m => (m.port p).doeBusy = some .cdat ∧ (m.port p).doeReady = false) ∧
       s.yields (exec (.doeCmaSpdm t p len false) s) (fun m => (m.port p).doeBusy = some .cma ∧ (m.port p).doeReady = false) ∧
       s.yields (exec (.doeSecuredSpdm t p len false) s) fun m => (m.port p).doeBusy = some .secured ∧ (m.port p).doeReady = false) ∧
     ((s.now t).functionUp p = true →
       s.yields (exec (.doeAbort t p) s) fun m => (m.port p).doeBusy = none ∧ (m.port p).doeReady = false) ∧
     ((s.now t).mgmtUp = true → s.yields (exec (.mctpSpdmRequest t) s) fun m => ∃ v, m.out = s.m.out ++ [.mctp [v]]) ∧
     ((s.now t).ddtWith 0 0 0 ≠ s.m.boot.ddt ∨ s.m.ddtGen % 2 = 1 →
       s.yields (exec (.ddtRebuild t false) s) (fun m => m.ddtGen % 2 = 1) ∧
       s.yields (exec (.ddtRebuild t true) s) fun m => m.ddtGen % 2 = 0 ∧ m.boot.ddt = (s.now t).ddtWith 0 0 0))

/-! ### Requests, release, data, responses, the Data Mover -/

/-- A CXL.mem request that the port takes, with a tag free: it joins the queue of the allotment its decoder names, and holds its tag; one that
no committed decoder matches is answered at once, poisoned all-ones for a read and a completion for the rest, and is recorded (R64, R89,
R90, R91). MemSpecRd, BIConflict and a host's BIRsp complete: the hint promotes a plot that is raw or compressed, or does nothing (R90); the
conflict is acknowledged at once and counts as accepted, an unmapped one as unmapped (R64, R388, R537); the answer to a back-invalidate ends
the snoop of a HOME region (R386) or goes on to the home (R389). -/
def Obligations.RequestsComplete : Prop :=
  (∀ (c : Instr) (t hpa g : Nat) (p : Port) (x : Tag) (s : State), memRequest c = some (t, p, hpa, x) → s.live →
     (s.now t).takesReq p = true → (s.woken t).newTag p = some g →
     (∀ a d line, (s.woken t).decode p hpa = some (a, d, line) →
       s.yields (exec c s) fun m =>
         m.tag? p g = some { x with allot := a, line := line, hpa := hpa, bi := d.bi, arrived := max s.m.tide t } ∧
         m.queueOf p a = (s.woken t).queueOf p a ++ [g]) ∧
     ((s.woken t).decode p hpa = none →
       s.yields (exec c s) fun m =>
         m.tag? p g = some { x with st := .responding, hpa := hpa, arrived := max s.m.tide t
                                    resp := some (if x.op.reads then unmappedData else .cmp) } ∧
         m.told .hostPort p 0x0419 ∧ m.rd Reg.HostPort.LAST_UNMAPPED_HPA p = hpa % 2 ^ Reg.HostPort.LAST_UNMAPPED_HPA.width ∧
         m.rd Reg.HostPort.UNMAPPED_REQ p =
           min ((s.now t).rd Reg.HostPort.UNMAPPED_REQ p + 1) (2 ^ Reg.HostPort.UNMAPPED_REQ.width - 1))) ∧
  (∀ (t hpa hostTag line : Nat) (p : Port) (sh : Bool) (s : State), s.live → (s.now t).takesReq p = true →
     let w := s.woken t
     let r := tRegion (w.entryOf line)
     exec (.cxlMemspecrd t p hpa false) s = s.done w ∧
     (∀ a d l, w.decode p hpa = some (a, d, l) → tMode (w.entryOf l) = 2 → w.enabled .siphon = true →
       (w.plot (l / 64)).tier = 1 ∨ (w.plot (l / 64)).tier = 2 → (w.plot (l / 64)).migrating = false →
       exec (.cxlMemspecrd t p hpa true) s = s.done (w.wantAuto (l / 64) 1)) ∧
     ((w.decode p hpa).isSome = true →
       s.yields (exec (.cxlBiconflict t p hostTag hpa) s) fun m => m.out = s.m.out ++ [.biConflictAck p hostTag] ∧
         m.rd Reg.HostPort.REQ_ACCEPTED p =
           min (w.rd Reg.HostPort.REQ_ACCEPTED p + 1) (2 ^ Reg.HostPort.REQ_ACCEPTED.width - 1)) ∧
     (w.decode p hpa = none →
       s.yields (exec (.cxlBiconflict t p hostTag hpa) s) fun m => m.out.getLast? = some (.biConflictAck p hostTag) ∧
         m.told .hostPort p 0x0419) ∧
     (∀ k, (w.shared.proxy.find? fun x => x.line = line && x.port = p.val && x.sent) = none → tShared (w.entryOf line) = true →
       w.regRole r ≠ 2 → w.memberOf r (.local p) = some k → exec (.birspReceived t p line sh) s = s.done (w.snoopAnswer r k line sh)) ∧
     (∀ q, (w.shared.proxy.find? fun x => x.line = line && x.port = p.val && x.sent) = some q →
       ∃ m : Mach, exec (.birspReceived t p line sh) s =
         s.done (m.sendCoh q.src 0 4 (if sh then 1 else 2) p
           (if q.src = 64 then q.region else w.act Reg.Shared.HOME_REGION 0 q.region) q.hline q.xid 0 (if sh then 1 else 2) q.data)))

/-- A Headgate releases the head that its order chooses: it leaves its queue, its ledger is debited, it is counted and thereby accepted; with no
head that qualifies only FENCED heads are answered (R137, R138). The heads are decoded as the decoders then stand (the model's choice, log
entry 128). What a release debits: a floor or a pool grant loses the request's lines, 4 for a write to a striped tract of an allotment that
is not declared `STRIPE_WR`, else 1; no other floor or grant of the port changes (R135). POOL_GRANT gives the winner up to 8 of the lines
the pool has left, and counts a denial where it has none; of the ports that ask, the one that wins has the highest Call level (R139).
CALL_LEVEL_CHANGE shows the level at the pins (R142). -/
def Obligations.HeadgateReleaseCompletes : Prop :=
  (∀ (t : Nat) (p : Port) (s : State), s.live → (s.now t).flag Reg.HostPort.DL_UP p = true → ((s.now t).port p).draining = false →
     let w := (((s.now t).reseatAll p).each (List.range 16) fun m a => m.fenceHead p a).tellHeld p
     (w.pick p = none → exec (.headgateRelease t p) s = s.done w) ∧
     ∀ g x l, w.pick p = some (g, x, l) →
       let d := (w.setQueue p x.allot ((w.queueOf p x.allot).drop 1)).debit p x l
       exec (.headgateRelease t p) s =
         s.done ((d.1.countRelease p x l).accept p g x (l = .floor || l = .pool || l = .cut) d.2 (l != .floor && l != .pool))) ∧
  (∀ (m : Mach) (p : Nat) (x : Tag),
     (m.debitOf x = if x.op.writes && tStripe (m.entryOf x.line) && m.act Reg.Allotment.STRIPE_WR x.allot = 0 then 4 else 1) ∧
     (((m.debit p x .floor).1.port p).floor x.op.writes x.allot = (m.port p).floor x.op.writes x.allot - m.debitOf x) ∧
     (((m.debit p x .pool).1.port p).granted x.op.writes x.allot = (m.port p).granted x.op.writes x.allot - m.debitOf x) ∧
     ∀ (w : Bool) (a : Nat), (w, a) ≠ (x.op.writes, x.allot) → ∀ l,
       ((m.debit p x l).1.port p).floor w a = (m.port p).floor w a ∧ ((m.debit p x l).1.port p).granted w a = (m.port p).granted w a) ∧
  (∀ (t : Nat) (asks : List Port) (a : Fin 16) (w : Bool) (n p : Nat) (q : Port) (level : Fin 4) (s : State), s.live →
     ((s.now t).poolWinner (asks.map fun p => p.val) (a * 2 + w.toNat) = some p →
       let left := (s.now t).rd (poolField w) a
       (∀ r ∈ asks, (s.now t).call r ≤ (s.now t).call p) ∧
       (left = 0 → exec (.poolGrant t asks a w n) s = s.done ((s.now t).inc Reg.Headgate.POOL_DENIALS p)) ∧
       (0 < left → left < 2 ^ (poolField w).width →
         s.yields (exec (.poolGrant t asks a w n) s) fun m => m.rd (poolField w) a = left - grantSize n left ∧
           (m.port p).granted w a = ((s.now t).port p).granted w a + grantSize n left)) ∧
     s.yields (exec (.callLevelChange t q level) s) fun m => m.rd Reg.Headgate.CALL_PIN q = level ∧ (m.port q).callPin = level)

/-- The order of release: a best-effort head goes only when no guaranteed head has a budget or overflows, an overflow only when none has a
budget, and of the guaranteed heads with a budget the lowest-numbered allotment goes first (R138). -/
def Obligations.ReleaseOrder : Prop :=
  ∀ (m : Mach) (p g : Nat) (x : Tag) (l : Ledger), m.pick p = some (g, x, l) →
    (l = .be ∨ l = .overflow → ∀ a < 16, ∀ h y, m.guar a = true → m.headOf p a = some (h, y) → m.budgetFor p y = none) ∧
    (l = .be → ∀ a < 16, ∀ h y, m.guar a = true → m.headOf p a = some (h, y) → m.overflows p y = false) ∧
    (l ≠ .be → l ≠ .overflow → ∃ a < 16, m.guar a = true ∧ m.headOf p a = some (g, x) ∧ m.budgetFor p x = some l ∧
      ∀ b < a, ∀ h y, m.guar b = true → m.headOf p b = some (h, y) → m.budgetFor p y = none)

/-- The data of an accepted read: from the merge buffer or a rewrite's copy of its row, or from the line that is read and checked; a check that
fails begins the recovery of the line, and an internal check that fails is counted: at egress (row 7) the read is answered poisoned, before
it the read is recovered (R19, R105, R237, R243). A read still on its path at its egress limit is answered poisoned and counted Late in its
allotment; the last bit of a response frees its tag and is counted (R19, R20, R91). The Late FIFO holds 1,024 entries; what is pushed joins
its end where there is room, with what was lost before it (R102). -/
def Obligations.ResponsesComplete : Prop :=
  (∀ (t : Nat) (p : Fin 6) (g victim intl : Nat) (errs : List (BitVec 640)) (cisBad : Bool) (x : Tag) (s : State), s.live →
     (s.now t).tag? p g = some x → (s.now t).readWaits p g x = true →
     let w := s.now t
     (∀ v, w.mergedVal x.line x.order (w.stagedLine x.line) = some v → w.islandDown 5 = false →
       exec (.readDataReturn t p g errs cisBad victim 0) s = s.done (w.finishRead p g v 0 (if w.hasMerge x.line x.order then 8 else 5)) ∧
       exec (.readDataReturn t p g errs cisBad victim 7) s = s.done ((w.internalFail x.line 7 false).answer p g poisonData 2 7) ∧
       (intl ≠ 0 → intl ≠ 7 → exec (.readDataReturn t p g errs cisBad victim intl) s = s.done (w.failRead p g x intl))) ∧
     (w.mergedVal x.line x.order (w.stagedLine x.line) = none → w.translated x.line = true → w.inLzRow x.line = false →
       w.rowAway x.line = false →
       (w.rsRemote x.line = true → exec (.readDataReturn t p g errs cisBad victim intl) s = s.done (w.beginChain
         { who := .read p g, line := x.line, pl := (w.linePl x.line).getD 0, step := 2, order := x.order, oos := true })) ∧
       (w.rsRemote x.line = false →
         let n := if x.bestEff && w.cisHit x.line cisBad then w.backBe else w
         let r := (n.asClass x.readClass x.hint).tryRead x.line errs cisBad
         let k := r.1.asClass 2
         let st := w.readStage x.line
         (∀ v, r.2 = .ok v →
           exec (.readDataReturn t p g errs cisBad victim 0) s =
             s.done (if st = 3 ∨ st = 5 then (k.cacheFill x.line v victim x.fill).finishRead p g v 0 st else k.finishRead p g v 0 st) ∧
           exec (.readDataReturn t p g errs cisBad victim 7) s = s.done ((k.internalFail x.line 7 false).answer p g poisonData 2 7) ∧
           (intl ≠ 0 → intl ≠ 7 → exec (.readDataReturn t p g errs cisBad victim intl) s = s.done (k.failRead p g x intl))) ∧
         ((∀ v, r.2 ≠ .ok v) → exec (.readDataReturn t p g errs cisBad victim intl) s =
           s.done (k.takeTry (.read p g) x.line x.order r.2))))) ∧
  (∀ (t : Nat) (p : Port) (g : Fin 4096) (x : Tag) (s : State), s.live → (s.now t).tag? p g = some x → x.allot < 16 →
     (x.st = .accepted → x.op.reads = true → (s.now t).egressLimit p x ≤ max s.m.tide t →
       s.yields (exec (.readEgressLimit t p g) s) fun m =>
         m.tag? p g = some { x with st := .responding, resp := some (.memData 0 true 0) } ∧
         m.rd Reg.Allotment.LATE_COUNT x.allot =
           min ((s.now t).rd Reg.Allotment.LATE_COUNT x.allot + 1) (2 ^ Reg.Allotment.LATE_COUNT.width - 1)) ∧
     (∀ r, x.st = .responding → x.resp = some r →
       s.yields (exec (.responseSent t p g) s) fun m => m.tag? p g = none ∧ (∃ l, m.out = s.m.out ++ .resp p x.hostTag r :: l) ∧
         m.rd Reg.HostPort.RESP_SENT p =
           min ((s.now t).rd Reg.HostPort.RESP_SENT p + 1) (2 ^ Reg.HostPort.RESP_SENT.width - 1))) ∧
  (∀ (m : Mach) (p w0 : Nat) (w1 : Bool → Nat), (m.port p).late.length ≤ 1024 →
     ((m.pushLate p w0 w1).port p).late.length ≤ 1024 ∧
     ((m.port p).late.length < 1024 →
       ((m.pushLate p w0 w1).port p).late = (m.port p).late ++ [⟨w0, w1 (m.port p).lateLost⟩]))

/-- The Late FIFO of a port: a read of `LATE_W0` gives word 0 of the head and latches word 1 into `LATE_W1`, 0 where the FIFO is empty, whatever
`VIEW` says; a pop removes the head, and a pop of an empty FIFO changes nothing of it. -/
def Obligations.LateFifo : Prop :=
  ∀ (t : Nat) (src : Source) (p : Port) (s : State), s.live →
    (s.m.pw.st < 2 → (∀ e l, ((s.woken t).port p).late = e :: l →
      s.yields (exec (.lateW0Read t p) s) fun m =>
        m.rd Reg.Headgate.LATE_W0 p = e.w0 % 2 ^ 64 ∧ m.rd Reg.Headgate.LATE_W1 p = e.w1 % 2 ^ 64 ∧ (m.port p).late = e :: l) ∧
      (((s.woken t).port p).late = [] →
        s.yields (exec (.lateW0Read t p) s) fun m => m.rd Reg.Headgate.LATE_W0 p = 0 ∧ (m.port p).late = [])) ∧
    (s.canWrite src → s.yields (exec (.latePop t src p) s) fun m => (m.port p).late = ((s.woken t).port p).late.tail) ∧
    (s.canWrite src → ((s.woken t).port p).late = [] → exec (.latePop t src p) s = s.done (s.noted t .headgate p src)) ∧
    ∀ f ∈ [Reg.Headgate.LATE_W0, Reg.Headgate.LATE_W1], s.m.shown f p 0 = s.m.live f p 0

/-- The merge buffer: a write's line enters its reserved entry, poisoned where a check fails on the way, and is complete there on a line that is
not mirrored, while one that is mirrored goes to the peer; a drain stores the line at its place in DRAM; its completion frees the entry; and
a partial write's old line, read and checked, completes it, or its recovery begins (R21, R104, R106, R237, R250, R251). -/
def Obligations.MergeBufferCompletes : Prop :=
  ∀ (t : Nat) (e : Nat) (y : Merge) (s : State), s.live → (s.now t).merge? e = some y →
    let v := s.now t
    (∀ (p : Fin 6) (g : Nat) (x : Tag) (bad : Fin 3), v.tag? p g = some x → x.entry = e → x.st = .accepted → x.op.writes = true →
      x.fwd = false → x.point = false → y.st = .reserved → y.order = x.order →
      let w := (if bad.val ≠ 0 then v.internalFail x.line bad false else v).enterWrite e x.line
        { order := x.order, data := x.data, mask := x.be, poison := x.poison || bad.val != 0 } (if bad.val ≠ 0 then 5 else 4)
      (w.mirrored x.line = false →
        exec (.writeLocalCommit t p g bad) s = s.done ((w.setTag p g { x with point := true }).writePoint p g)) ∧
      (w.mirrored x.line = true →
        exec (.writeLocalCommit t p g bad) s = s.done (w.sendWrite false x.line x.data x.be x.poison (some (.write p g))))) ∧
    (∀ f pl bad, v.gather [e] = [e] → v.place y.line = .dram pl ∨ v.place y.line = .cis f pl →
      exec (.mergeDrain t [e] bad) s = s.done (v.drainLine e y pl (bad.contains e))) ∧
    (∀ fails lost, y.st = .drain →
      s.yields (exec (.drainComplete t [e] fails lost) s) fun m => m.merge? e = none ∧ m.fsm .levee = 0) ∧
    (∀ errs cisBad, y.st = .fetch → (v.lev.chains.any fun c => c.2.who = .fetch e) = false → v.translated y.line = true →
      v.rowAway y.line = false →
      (v.rsRemote y.line = true → exec (.partialFetchComplete t e errs cisBad) s = s.done (v.beginChain
        { who := .fetch e, line := y.line, pl := (v.linePl y.line).getD 0, step := 2, order := y.order, oos := true })) ∧
      (v.rsRemote y.line = false →
        let r := (v.asClass (if y.cls2 then 1 else 4) y.hint).tryRead y.line errs cisBad
        let k := r.1.asClass 2
        ((∀ z, r.2 ≠ .ok z) → exec (.partialFetchComplete t e errs cisBad) s = s.done (k.takeTry (.fetch e) y.line y.order r.2)) ∧
        ∀ z, r.2 = .ok z → exec (.partialFetchComplete t e errs cisBad) s =
          s.done ((if v.inLzRow y.line then k.inc Reg.Flume.ROWS_DECODED else k).finishFetch e z false)))

/-- The tracker and the Data Mover: an internal operation starts, or waits and is counted (R95, R116); a step past its deadline leaves the
tracker and is counted LATE, a read of the Data Mover is answered poisoned (R96); a job starts, ends with its event, is aborted with code
DOWN and released (R114, R117 to R120), and a read of host memory answers, fails or times out (R117). JOB_SUBMIT copies the descriptor into
the lowest free slot and shows it, or is ignored and recorded (R115). -/
def Obligations.MoverCompletes : Prop :=
  (∀ (t : Nat) (src : Source) (kind : Fin 5) (line : Nat) (slot : Fin 64) (s : State), s.live →
     (kind ≠ 4 →
       let dl := match (s.now t).stepNs kind with | some n => max s.m.tide t + n | none => 0
       (∀ m', (s.now t).track kind line dl = some m' → exec (.internalOpStart t kind line slot) s = s.done m') ∧
       ((s.now t).trackRoom kind = none →
         exec (.internalOpStart t kind line slot) s = s.done ((s.now t).inc Reg.DataMover.TRACK_WAITS))) ∧
     exec (.internalOpStart t 4 line slot) s = s.done ((s.now t).jobNext slot) ∧
     (∀ n k g x, Tbl.find s.m.mover.tracks n = some k → k.kind = 4 → k.deadline ≤ max s.m.tide t →
       ((s.now t).port 5).tags.find? (fun e => e.2.want = n && e.2.op.reads && e.2.st = .accepted) = some (g, x) →
       exec (.internalStepDeadline t n) s = s.done (((s.now t).dropWait 5 g).answer 5 g poisonData 1 x.stage)) ∧
     (∀ n k, Tbl.find s.m.mover.tracks n = some k → k.deadline ≤ max s.m.tide t → k.kind < 4 →
       0 < k.deadline ∨ k.kind ≠ 2 ∨ Tbl.find s.m.mover.steps 2 = some n →
       s.yields (exec (.internalStepDeadline t n) s) fun m => Tbl.find m.mover.tracks n = none ∧
         m.rd Reg.DataMover.LATE_STEPS 0 k.kind =
           min (s.m.rd Reg.DataMover.LATE_STEPS 0 k.kind + 1) (2 ^ Reg.DataMover.LATE_STEPS.width - 1)) ∧
     (∀ j b, (s.now t).enabled .dataMover = true → (s.now t).jobsRunning < (s.now t).act Reg.DataMover.MAX_ACTIVE →
       firstQueued s.m.mover.jobs = some (j, b) →
       s.yields (exec (.jobStart t) s) fun m => Tbl.find m.mover.jobs j = some { b with state := 2 }) ∧
     (∀ b, Tbl.find s.m.mover.jobs slot = some b →
       (b.readOut.isSome = true → ∀ data,
         s.yields (exec (.dmHostReadCompletion t slot false data) s) (fun m =>
           Tbl.find m.mover.jobs slot = some { b with readOut := none, code := if b.code = 0 then 2 else b.code }) ∧
         (b.code = 0 → s.yields (exec (.dmHostReadCompletion t slot true data) s) fun m =>
           Tbl.find m.mover.jobs slot = some { b with readOut := none } ∧ Tbl.find m.mover.waiting slot = some data.toNat) ∧
         s.yields (exec (.hostReadCompletionTimeout t (some slot)) s) fun m =>
           Tbl.find m.mover.jobs slot = some { b with readOut := none, code := if b.code = 0 then 2 else b.code }) ∧
       ((b.state = 2 ∧ (b.code ≠ 0 ∨ b.len ≤ b.done)) ∨ (b.state = 1 ∧ b.code ≠ 0) → (s.m.jobTags slot).any (fun e => e.2.op.writes) = false →
         s.yields (exec (.jobEnd t slot) s) fun m =>
           Tbl.find m.mover.jobs slot = some { b with state := 3, readOut := none } ∧
           m.told .dataMover 0 (if b.code = 0 then 0x4810 else 0x4811)) ∧
       (s.canWrite src → b.state = 1 ∨ b.state = 2 →
         s.yields (exec (.jobAbort t src slot) s) fun m => Tbl.find m.mover.jobs slot = some { b with code := 6 }) ∧
       (s.canWrite src → b.state = 3 → s.yields (exec (.jobRelease t src slot) s) fun m => Tbl.find m.mover.jobs slot = none)) ∧
     (s.m.mbPort.isSome = true → s.yields (exec (.hostReadCompletionTimeout t none) s) fun m => m.boot.dmaFail = true)) ∧
  (∀ (t : Nat) (src : Source) (dir : Fin 2) (port : Port) (allot : Fin 16) (intr : Bool) (tag : Nat) (s : State), s.canWrite src →
     let w := s.noted t .dataMover 0 src
     (∀ j, w.enabled .dataMover = true → w.jobSlot = some j →
       s.yields (exec (.jobSubmit t src dir port allot intr tag) s) fun m =>
         Tbl.find m.mover.jobs j = some
           { dpa := w.rd Reg.DataMover.JOB_DPA, hpa := w.rd Reg.DataMover.JOB_HPA * 64, len := w.rd Reg.DataMover.JOB_LEN + 1
             statusEn := w.flag Reg.DataMover.STATUS_EN, statusHpa := w.rd Reg.DataMover.JOB_STATUS_HPA * 16, dir := dir
             port := port, allot := allot, intr := intr, tag := tag % 2 ^ 16, state := 1, orderNo := s.m.mover.submitted } ∧
         m.rd Reg.DataMover.LAST_SLOT = j) ∧
     (w.enabled .dataMover = false ∨ w.jobSlot = none →
       s.yields (exec (.jobSubmit t src dir port allot intr tag) s) fun m =>
         m.mover.jobs = s.m.mover.jobs ∧ m.rd Reg.DataMover.LAST_SLOT = 0xFF ∧ m.told .dataMover 0 0x4812))

/-! ### Tracts, Siphon, Flume -/

/-- The Weir's recomputation, the last blank line of a released frame, which waits for the requests that are open, its freeboard line, a tracker
entry and the Siphon, and the translation cache complete (R166, R178, R190, R192). Flume's engines: a plot of zeros becomes ZERO, one that
would fill more than `KEEP_MAX` sectors stays as it is, another gets its run where its pool has one, and one that was written meanwhile or
fails a check is given up (R197, R211, R222, R236); a directory line comes in (R215); the reads of a decoded row are answered with their
lines, or fail with the boundary or the chain (R219, R237, R238). A rewrite of a row starts with the row's complete lines once its sectors
have been read, or with what its recovery chain has delivered; a sector that fails its checks runs the chain first (R223, R224, R229, R238).
An encoded rewrite, one of the 16 in the engines, is stored in place where its row fits, elsewhere where `KEEP_MAX` and the pool allow it; a
plot that is all zeros becomes ZERO, and the entries of one that is COMPRESSED no more go back (R221, R223, R225, R228). -/
def Obligations.TractsComplete : Prop :=
  (∀ (t plot ns f : Nat) (src : Source) (next : Bool) (s : State), s.live →
     (exec (.weirRecompute t) s = s.done
       ((((s.now t).recompute.each (List.range 16) fun m k => m.showPool k).each (List.range 8) fun m l => m.judgeCap l).recheck) ∧
       (s.now t).recompute.told .weir 0 0x0C10 ∧
       (s.now t).recompute.rd Reg.Weir.RECALC_TIDE = max s.m.tide t % 2 ^ Reg.Weir.RECALC_TIDE.width) ∧
     ((s.m.frame f).role = 7 → (s.now t).openBefore (s.m.frame f).order = false → (s.now t).hasFb 0 = true →
       (s.now t).trackRoom 0 ≠ none → (s.now t).quiet .siphon = false →
       s.yields (exec (.frameDrainComplete t f) s) fun m => (∀ e ∈ m.st.dram, e.1 / 2 ^ 24 ≠ f) ∧
         (m.frame f).role = ((s.m.frame f).next).getD 0 ∧ (m.frame f).next = none) ∧
     ((s.m.frame f).role ≠ 7 ∨ (s.now t).openBefore (s.m.frame f).order = true ∨ (s.now t).hasFb 0 = false ∨
       (s.now t).trackRoom 0 = none ∨ (s.now t).quiet .siphon = true →
       exec (.frameDrainComplete t f) s = s.done (s.now t)) ∧
     (tMode (s.m.tract (plot / 2 ^ 18)) = 2 → s.m.st.tc.contains plot = false → ∀ bad copyBad evict,
       s.yields (exec (.translationFetchDone t plot ns bad copyBad next evict) s) fun m => m.st.tc.contains plot = true ∧
         m.rd Reg.TransCache.MISSES = min (s.m.rd Reg.TransCache.MISSES + 1) (2 ^ Reg.TransCache.MISSES.width - 1)) ∧
     (s.canWrite src → exec (.tcFlush t src) s = s.done ((s.noted t .transCache 0 src).setFsm .transCache 1)) ∧
     ((s.now t).fsm .transCache = 1 →
       s.yields (exec (.tcFlushDone t) s) fun m => m.fsm .transCache = 0 ∧ ∀ q ∈ m.st.tc, (m.plot q).pinned = true)) ∧
  (∀ (t plot : Nat) (row : Fin 4) (enc : Encoded) (s : State), s.live → (s.now t).islandDown 5 = false →
     (∀ mv, s.m.sip.move = some mv → mv.op = 3 → mv.atLine = 64 → s.m.sip.rewrites.length < 16 →
       let w := s.now t
       let p := w.plot mv.plot
       let ls := mv.vals.map fun v => v.data
       let rows := encodePlot mv.plot ls enc.streams
       let n := (rows.map fun r => r.2.length).sum
       let k := w.poolOf (mv.plot / 2 ^ 18)
       let run := w.allocRun k n (w.act Reg.Flume.RESERVE_CH 0 k < w.freeChunks k)
       (enc.bad = true → exec (.compressDone t enc) s = s.done ((w.internalFail (mv.plot * 64) 5 false).abandon mv)) ∧
       (enc.bad = false → w.plotWritten mv.plot mv.firstOrder = true →
         exec (.compressDone t enc) s = s.done (w.abandon mv)) ∧
       (enc.bad = false → w.plotWritten mv.plot mv.firstOrder = false →
         ((∀ v ∈ ls, v = 0) → s.yields (exec (.compressDone t enc) s) fun m =>
           (m.plot mv.plot).tier = 0 ∧ (m.plot mv.plot).migrating = false ∧ m.sip.move = none) ∧
         ((∃ v ∈ ls, v ≠ 0) → (∃ v ∈ ls, v ≠ ls.headD 0) →
           (w.act Reg.Flume.KEEP_MAX < n →
             exec (.compressDone t enc) s = s.done ((w.inc Reg.Flume.INCOMPRESSIBLE).clearMove mv.plot)) ∧
           (n ≤ w.act Reg.Flume.KEEP_MAX → w.poolTakes k = false ∨ run = none →
             exec (.compressDone t enc) s = s.done ((w.clearMove mv.plot).noRoom mv.auto)) ∧
           (∀ v, n ≤ w.act Reg.Flume.KEEP_MAX → w.poolTakes k = true → run = some v →
             exec (.compressDone t enc) s = s.done
               ((((((w.cacheDirs [mv.plot]).putRows mv.plot k v rows ((p.version + 1) % 2 ^ 16)).blankPlotFrame p.loc).showFrames).inc
                 Reg.Flume.PLOTS_COMPRESSED).moveDone mv.plot)))) ) ∧
     (∀ bad copyBad, tMode ((s.now t).entryOf (plot * 64)) = 2 → s.m.st.dc.contains plot = false →
       exec (.dirFetchDone t plot bad copyBad) s = s.done ((s.now t).fetchDir plot bad copyBad) ∧
       (∀ m', (((s.now t).inc Reg.Flume.DIR_MISSES).asClass 0).readTable (plot / 2 ^ 18) (131072 + plot % 2 ^ 18 / 4) 0 = (m', true) →
         bad = false → (∀ p ∈ lineMates plot, (m'.asClass 2).dirAgrees p = true) →
         s.yields (exec (.dirFetchDone t plot bad copyBad) s) fun m => m.st.dc.contains plot = true)) ∧
     (∀ e l wait read victims m' r, (s.now t).rowReads plot row = e :: l → (s.now t).inLzRow (plot * 64 + 16 * row) = true →
       let w := ((s.now t).inc Reg.Flume.ROWS_DECODED).peak Reg.Flume.DE_WAIT_PEAK_NS wait
       (w.asClass e.2.2.readClass e.2.2.hint).readComp (plot * 64 + 16 * row) read.errs = (m', r) →
       (∀ v, r = .ok v → read.intl = 0 → ∃ n : Mach, exec (.rowDecodeDone t plot row wait read victims) s =
         s.done (n.each (e :: l) fun m e => m.finishRead e.1 e.2.1
           (((w.compLine e.2.2.line).map fun x => { x with poison := v.poison }).getD v) 0 5)) ∧
       (∀ v, r = .ok v → read.intl = 7 → exec (.rowDecodeDone t plot row wait read victims) s =
         s.done (((m'.asClass 2).internalFail e.2.2.line 7 false).answer e.1 e.2.1 poisonData 2 7)) ∧
       (∀ v, r = .ok v → read.intl ≠ 0 → read.intl ≠ 7 → exec (.rowDecodeDone t plot row wait read victims) s =
         s.done ((m'.asClass 2).failRead e.1 e.2.1 e.2.2 read.intl)) ∧
       ((∀ v, r ≠ .ok v) → exec (.rowDecodeDone t plot row wait read victims) s =
         s.done ((m'.asClass 2).takeTry (.read e.1 e.2.1) e.2.2.line e.2.2.order r)))) ∧
  (∀ (t : Nat) (e : EntryRead) (x : Merge) (s : State), s.live → (s.now t).islandDown 5 = false →
     (s.now t).merge? e.entry = some x → x.st = .held → (s.now t).place x.line = .comp → (s.now t).translated x.line = true →
     (s.now t).waitsOrder x = false →
     let w := s.now t
     let plot := x.line / 64
     let row := x.line % 64 / 16
     (∀ r ∈ s.m.sip.rewrites, ¬ (r.plot = plot ∧ r.row = row)) → (∀ c ∈ s.m.lev.chains, c.2.who ≠ .rewrite plot row) →
     (∀ d, (s.m.lev.done.find? fun d => d.who = .rewrite plot row) = some d → ∃ w : Mach, w.sip = s.m.sip ∧
       exec (.rewriteStart t e) s = s.done (w.beginRewrite plot row (w.rowCopy plot row (some d)))) ∧
     ((s.m.lev.done.find? fun d => d.who = .rewrite plot row) = none →
       ∀ m' r, w.rowFetch plot (if x.cls2 then 1 else 4) x.hint (w.rowPls plot row) e.errs = (m', r) →
         (∀ f, r = some f → exec (.rewriteStart t e) s = s.done ((m'.asClass 2).takeTry (.rewrite plot row) x.line x.order f)) ∧
         (r = none → (∀ f pl, ((m'.asClass 2).readComp (plot * 64 + 16 * row) []).2 ≠ .row f pl) →
           exec (.rewriteStart t e) s = s.done ((m'.asClass 2).beginRewrite plot row ((m'.asClass 2).rowCopy plot row none))) ∧
         (∀ f pl, r = none → ((m'.asClass 2).readComp (plot * 64 + 16 * row) []).2 = .row f pl →
           exec (.rewriteStart t e) s = s.done ((m'.asClass 2).takeTry (.rewrite plot row) x.line x.order (.row f pl))))) ∧
  (∀ (t plot : Nat) (row : Fin 4) (enc : Encoded) (r : Rewrite) (s : State), s.live → (s.now t).islandDown 5 = false →
     ((s.m.sip.rewrites.take 16).find? fun r => r.plot = plot && r.row = row.val) = some r →
     let w := s.now t
     let p := w.plot plot
     let d := w.dir plot
     let vals := w.rewritten r
     let rows := (w.asClass 4).newRows r (vals.map fun v => v.data) enc.streams
     let n := (rows.map fun q => q.2.length).sum
     let fits := (rows.getD row (0, [])).2.length ≤ d.cnt.getD row 0
     let finish := fun m : Mach => s.done (((m.debitRest (m.storesSince w)).asClass 2).endRewrite r)
     (p.tier ≠ 2 → exec (.rewriteStore t plot row enc) s = s.done (w.dropRewrite r)) ∧
     (p.tier = 2 → enc.bad = false → (∀ v ∈ vals, v.poison = false) →
       ((∀ v ∈ vals, v.data = 0) → exec (.rewriteStore t plot row enc) s =
         finish (((w.asClass 4).setPlot plot { p with tier := 0, loc := 0, sectors := 0, version := (p.version + 1) % 2 ^ 16, clean := 0 }).dropRun
           plot p.loc p.sectors d.pool)) ∧
       ((∃ v ∈ vals, v.data ≠ 0) → d.kind = 2 → fits → exec (.rewriteStore t plot row enc) s =
         finish (((((w.asClass 4).putRows plot d.pool p.loc rows p.version).blankSectors (p.loc + n) (p.sectors - n)).showPool
           d.pool).inc Reg.Flume.RW_INPLACE)) ∧
       (∀ v, (∃ v ∈ vals, v.data ≠ 0) → d.kind ≠ 2 ∨ ¬ fits → n ≤ (w.asClass 4).act Reg.Flume.KEEP_MAX →
         (w.asClass 4).allocRun ((w.asClass 4).poolOf (plot / 2 ^ 18)) n true = some v → exec (.rewriteStore t plot row enc) s =
         finish (((((w.asClass 4).blankSectors p.loc p.sectors).putRows plot ((w.asClass 4).poolOf (plot / 2 ^ 18)) v rows
           ((p.version + 1) % 2 ^ 16)).showPool d.pool).inc Reg.Flume.RW_MOVED))))

/-- Each Siphon command joins the queue with what its registers hold, a peer slot or a mode that the table does not list leaving its field as it
was (R4), or is ignored and counted: where 16 wait, where the page is disabled, and a tract move behind another (R201, R207). The Siphon at
work: a line of a compression is read as a step of kind 0 and the move goes on, or waits for its freeboard line or tracker entry; a line of
a tract move, a command's next plot, the end of a tract move whose lines are all copied; the page is disabled, an epoch of decay passes
(R94, R95, R163, R197, R200, R201, R206). -/
def Obligations.SiphonCompletes : Prop :=
  (∀ (i : Instr) (t : Nat) (src : Source) (c : SipCmd) (s : State), siphonCommand i = some (t, src, c) → s.canWrite src →
     let w := s.noted t .siphon 0 src
     (w.sip.queue.length < 16 → w.enabled .siphon = true → (8 ≤ c.op → ∀ q ∈ w.sip.queue, q.op < 8) →
       s.yields (exec i s) fun m => m.sip.queue = w.sip.queue ++
         [{ c with plot := w.rd Reg.Siphon.CMD_PLOT, count := w.rd Reg.Siphon.CMD_COUNT
                   slot := if c.slot = 0 then w.rd Reg.Siphon.CMD_PEER_SLOT else c.slot
                   mode := if c.mode = 1 ∨ c.mode = 2 then c.mode else w.rd Reg.Siphon.CMD_MODE
                   peer := c.peer % 2 ^ Reg.Siphon.CMD_PEER_TRACT.width, tag := c.tag % 2 ^ Reg.Siphon.CMD_TAG.width }]) ∧
     (16 ≤ w.sip.queue.length ∨ w.enabled .siphon = false ∨ (8 ≤ c.op ∧ ∃ q ∈ w.sip.queue, 8 ≤ q.op) →
       s.yields (exec i s) fun m => m.sip = s.m.sip ∧
         m.rd Reg.Siphon.CMD_REJECTS = min (w.rd Reg.Siphon.CMD_REJECTS + 1) (2 ^ Reg.Siphon.CMD_REJECTS.width - 1))) ∧
  (∀ (t : Nat) (src : Source) (errs : List (BitVec 640)) (cisBad : Bool) (s : State), s.live →
     ((s.now t).quiet .siphon = false →
       (∀ mv, s.m.sip.move = some mv → mv.op = 3 → mv.atLine < 64 → mv.expanded = false →
         let line := mv.plot * 64 + mv.atLine
         let mv := if mv.atLine = 0 && !(s.now t).stepOn 0 then { mv with firstOrder := (s.now t).order } else mv
         (∀ m₁ m₂ v, (s.now t).stepStart 0 line 0 1 = some m₁ →
           (m₁.modSip fun x => { x with move := some mv }).sipRead line errs cisBad = (m₂, some v) → v.poison = false →
           (m₂.stepFree 0).inLzRow line = false →
           exec (.siphonMoveStep t errs cisBad) s =
             s.done ((m₂.stepFree 0).moveTo { mv with vals := mv.vals ++ [v] } (mv.atLine + 1))) ∧
         ((s.now t).stepStart 0 line 0 1 = none →
           exec (.siphonMoveStep t errs cisBad) s = s.done ((s.now t).stepWait 0 1))) ∧
       (∀ c l, s.m.sip.move = none → s.m.sip.queue = c :: l →
         (c.op < 8 ∨ (s.now t).flag Reg.Siphon.TM_ACTIVE = false →
           exec (.siphonMoveStep t errs cisBad) s = s.done (s.now t).sipNext) ∧
         (8 ≤ c.op → (s.now t).flag Reg.Siphon.TM_ACTIVE = true →
           exec (.siphonMoveStep t errs cisBad) s = s.done ((s.now t).tractLine c errs cisBad))) ∧
       (s.m.sip.move = none → s.m.sip.queue = [] → exec (.siphonMoveStep t errs cisBad) s = s.done (s.now t).sipNext)) ∧
     ((s.now t).quiet .siphon = true → exec (.siphonMoveStep t errs cisBad) s = s.done (s.now t)) ∧
     ((s.now t).flag Reg.Siphon.TM_ACTIVE = true → s.m.sip.atEnd = true → s.m.sip.tmOut = [] → s.m.sip.tmAgain = [] →
       s.m.sip.tmRead = none → s.m.sip.tmEnd = none → (s.now t).quiet .siphon = false →
       s.yields (exec (.tractMoveEnd t) s) fun m => m.sip.tmEnd = some (if s.m.sip.tmPoison then 6 else 0)) ∧
     (s.canWrite src → s.yields (exec (.siphonDisable t src) s) fun m =>
       m.enabled .siphon = false ∧ m.sip.queue = [] ∧ m.sip.auto = []) ∧
     ((s.now t).act Reg.Siphon.DECAY_TURNS ≤ s.m.sip.decayTurns →
       s.yields (exec (.decayEpochAdvance t) s) fun m => m.sip.decayTurns = 0 ∧
         m.rd Reg.Siphon.DECAY_EPOCH = (s.m.rd Reg.Siphon.DECAY_EPOCH + 1) % 2 ^ 32))

/-! ### Levee, Furrow, Canals, encryption -/

/-- The recovery chain, the repairs and the flip facility complete (R238, R242, R255, R258): the reread of step 1 and the recomputation of step
4 hand on what they find or go to the next step, a queued repair is written, waits for its freeboard line or is dropped where a write has
overtaken it, the facility is armed with its fields. A scrub pass starts, one with an empty range ends at once, it stops, ends with the
page, counts the chains that have ended for it and takes its next line, of its range or of its retry list, or waits (R260 to R263, R266). -/
def Obligations.LeveeCompletes : Prop :=
  (∀ (t k : Nat) (src : Source) (errs : List (BitVec 640)) (c : Chain) (s : State), s.live →
     (Tbl.find s.m.lev.chains k = some c → c.step = 1 →
       let r := ((s.now t).asClass ((s.now t).chainClass c.who) ((s.now t).chainHint c.who)).homeRead c.line errs
       let m := r.1.asClass 2
       (∀ v, r.2 = .ok v → exec (.recoveryRereadDone t k errs) s = s.done (m.chainOk k c 1 v 0 0)) ∧
       (∀ pl e flip, r.2 = .bad pl e flip → exec (.recoveryRereadDone t k errs) s = s.done ((m.chainMac c.line pl e flip).chainFrom k
         { c with pl := pl, mac := c.mac || e.mac, flip := c.flip || flip } 2)) ∧
       (∀ f pl, r.2 = .row f pl → exec (.recoveryRereadDone t k errs) s = s.done (m.chainFrom k c 2)) ∧
       (∀ pl, r.2 = .away pl → exec (.recoveryRereadDone t k errs) s = s.done (m.chainFrom k { c with pl := pl } 2))) ∧
     (Tbl.find s.m.lev.chains k = some c → c.step = 4 → (s.now t).rowInDrain c.pl = false →
       let r := (s.now t).rowRead c errs
       (r.2 = none → exec (.stripeRecomputeDone t k errs) s = s.done (r.1.chainFrom k { c with mac := c.mac || r.1.lev.rowMac } 5)) ∧
       (∀ i, r.2 = some i → (∀ plot, r.1.holds c.pl ≠ .sector plot) →
         let o := r.1.openRebuilt c.line (dpaWord c.line) i
         (∀ v, o.1 = some v → exec (.stripeRecomputeDone t k errs) s =
           s.done (r.1.chainOk k c 4 v i.ver (if o.2.blank then 2 else 0))) ∧
         (o.1 = none → exec (.stripeRecomputeDone t k errs) s =
           s.done ((r.1.chainMac c.line c.pl o.2 c.flip).chainFrom k { c with mac := c.mac || o.2.mac } 5))) ∧
       (∀ i plot, r.2 = some i → r.1.holds c.pl = .sector plot →
         let o := r.1.openSector plot c.pl i
         (o.1 = none → exec (.stripeRecomputeDone t k errs) s =
           s.done ((r.1.chainMac c.line c.pl o.2 c.flip).chainFrom k { c with mac := c.mac || o.2.mac } 5)) ∧
         (∀ v img, o.1 = some (v, img) →
           let p := if c.row then r.1.rebuildRest c.line plot c.pl else (r.1, r.1)
           let x := (p.2.putImage c.pl img).homeRead c.line []
           (∀ w, x.2 = .ok w → exec (.stripeRecomputeDone t k errs) s =
             s.done ((if c.row then p.1 else p.1.queueSector c v img).chainOk k { c with noRep := true } 4 w 0 0)) ∧
           ((∀ w, x.2 ≠ .ok w) → exec (.stripeRecomputeDone t k errs) s = s.done (p.1.chainFrom k c 5))))) ∧
     (∀ q l, s.m.lev.repairs = q :: l → (s.now t).repairStale q = true →
       s.yields (exec (.repairWrite t) s) fun m => m.lev.repairs = l ∧ m.st = s.m.st) ∧
     (∀ q l, s.m.lev.repairs = q :: l → (s.now t).repairStale q = false → (s.now t).hasFb 1 = true →
       (s.now t).canalTakes q.pl = true →
       s.yields (exec (.repairWrite t) s) fun m =>
         m.rd Reg.Levee.REPAIRS = min (s.m.rd Reg.Levee.REPAIRS + 1) (2 ^ Reg.Levee.REPAIRS.width - 1)) ∧
     (∀ q l, s.m.lev.repairs = q :: l → (s.now t).repairStale q = false → (s.now t).hasFb 1 = false →
       exec (.repairWrite t) s = s.done (s.now t)) ∧
     (s.yields (exec (.repairTimeout t) s) fun m =>
       m.lev.repairs = s.m.lev.repairs.filter fun q => q.turns < s.m.rd Reg.Levee.REPAIR_TURNS) ∧
     (s.canWrite src →
       let w := s.noted t .levee 0 src
       (w.flag Reg.Levee.FLIP_EN = true → w.rd Reg.Levee.FLIP_MODE ≠ 3 → w.rd Reg.Levee.FLIP_COUNT ≠ 0 →
         w.rd Reg.Levee.FLIP_COUNT < 2 ^ Reg.Levee.FLIP_LEFT.width →
         s.yields (exec (.flipArm t src) s) fun m => m.flag Reg.Levee.FLIP_ARMED = true ∧
           m.rd Reg.Levee.FLIP_LEFT = w.rd Reg.Levee.FLIP_COUNT ∧ m.lev.flip.map (fun f => f.mask) = some w.flipMask) ∧
       s.yields (exec (.flipDisarm t src) s) fun m => m.lev.flip = none ∧ m.flag Reg.Levee.FLIP_ARMED = false)) ∧
  ((∀ (m : Mach) (r : Nat), (m.endPass r).rd Reg.Furrow.LAST_RESULT = r % 2 ^ Reg.Furrow.LAST_RESULT.width ∧
     (m.endPass r).rd Reg.Furrow.PASS_END_TIDE = m.tide % 2 ^ Reg.Furrow.PASS_END_TIDE.width ∧
     (m.endPass r).fsm .furrow = (if m.halted .furrow then 3 else 0) ∧ (m.endPass r).told .furrow 0 0x2011) ∧
   ∀ (t : Nat) (src : Source) (errs : List (BitVec 640)) (s : State), s.live →
     (s.canWrite src →
       let w := s.noted t .furrow 0 src
       (w.fsm .furrow = 0 → w.enabled .furrow = true →
         (w.rd Reg.Furrow.START_LINE ≤ w.rd Reg.Furrow.END_LINE → w.rd Reg.Furrow.START_LINE < 2 ^ Reg.Furrow.POSITION.width →
           s.yields (exec (.furrowPassGo t src) s) fun m => m.fsm .furrow = 1 ∧
             m.rd Reg.Furrow.POSITION = w.rd Reg.Furrow.START_LINE ∧ m.told .furrow 0 0x2010) ∧
         (w.rd Reg.Furrow.END_LINE < w.rd Reg.Furrow.START_LINE →
           ∃ m : Mach, exec (.furrowPassGo t src) s = s.done (m.endPass 3) ∧ m.told .furrow 0 0x2010)) ∧
       (w.fsm .furrow ≠ 0 ∨ w.enabled .furrow = false → exec (.furrowPassGo t src) s = s.done w) ∧
       (w.passOn = true → w.furrowBusy = false → exec (.furrowPassStop t src) s = s.done (w.countChains.endPass 1)) ∧
       (w.passOn = true → w.furrowBusy = true →
         s.yields (exec (.furrowPassStop t src) s) fun m => m.lev.stopWant = some 1) ∧
       (w.passOn = false → exec (.furrowPassStop t src) s = s.done w) ∧
       ((s.woken t).passOn = true →
         ∃ m : Mach, exec (.furrowDisable t src) s = s.done (m.endPass 2) ∧ m.enabled .furrow = false) ∧
       ((s.woken t).passOn = false → s.yields (exec (.furrowDisable t src) s) fun m => m.enabled .furrow = false)) ∧
     ((s.now t).furrowBusy = false →
       let w := (s.now t).countChains
       let line := w.rd Reg.Furrow.POSITION
       (∀ r, w.lev.stopWant = some r → exec (.furrowStepDone t errs) s = s.done (w.endPass r)) ∧
       (w.lev.stopWant = none → w.quiet .furrow = false → w.fsm .furrow = 1 →
         (w.rd Reg.Furrow.END_LINE < line → exec (.furrowStepDone t errs) s = s.done w.passEnd) ∧
         (line ≤ w.rd Reg.Furrow.END_LINE → w.furrowTake line = none →
           exec (.furrowStepDone t errs) s = s.done (w.furrowWait line)) ∧
         (∀ m, line ≤ w.rd Reg.Furrow.END_LINE → w.furrowTake line = some m →
           exec (.furrowStepDone t errs) s = s.done (if m.tablesDue line then (m.scrubTable (lineTract line) errs).furrowFree
             else (m.scrub line errs).1.furrowFree.passTo (m.scrub line errs).2))) ∧
       (w.lev.stopWant = none → w.quiet .furrow = false → w.fsm .furrow = 2 →
         (w.lev.retry = [] → exec (.furrowStepDone t errs) s = s.done w.passEnd) ∧
         (∀ late l, w.lev.retry = late :: l → w.furrowTake late = none →
           exec (.furrowStepDone t errs) s = s.done (w.furrowWait late)) ∧
         (∀ late l m, w.lev.retry = late :: l → w.furrowTake late = some m →
           let n := (((m.setRetry l).inc Reg.Furrow.RETRIED).scrub late errs).1.furrowFree
           exec (.furrowStepDone t errs) s = s.done (if l.isEmpty && !n.furrowBusy then n.passEnd else n)))))

/-- A Canal that leaves service at once: its cause, its tide, event 0x2412, and it is OUT_OF_SERVICE, or OFF without power-good (R282, R284,
R290). The Canals' commands complete (R268, R269, R272 to R287): training with its failure codes, the fill, refresh and the drift reading
taken inside, thermal readings, alerts, the request to leave and the return, a rebuilt line. That DIMMs of no listed kind fail with code 3
is the model's choice (log entry 135). -/
def Obligations.CanalCompletes : Prop :=
  (∀ (m : Mach) (c cause : Nat), c < 16 → 3 ≤ m.fsm .canal c → m.fsm .canal c ≤ 5 → (∀ e ∈ m.links, e.1 < 8) →
     (m.leaveNow c cause).rd Reg.Canal.OOS_CAUSE c = cause % 16 ∧ (m.leaveNow c cause).told .canal c 0x2412 ∧
     (m.leaveNow c cause).rd Reg.Canal.OOS_TIDE c = m.tide % 2 ^ Reg.Canal.OOS_TIDE.width ∧
     (m.leaveNow c cause).fsm .canal c = if m.flag Reg.Canal.RISER_PG c then 6 else 0) ∧
  (∀ (t : Nat) (src : Source) (c : Fin 16) (s : State), s.live →
     let w := s.now t
     (w.fsm .canal c = 0 → w.flag Reg.Canal.RISER_PG c = true → w.flag Reg.Clock.DDR_LOCK = true → w.enabled .canal c = true →
       w.memActive = false → s.yields (exec (.canalTrainingStart t c) s) fun m => m.fsm .canal c = 1 ∧ (m.canal c).trainStart = m.tide) ∧
     (∀ fail spd raw, w.fsm .canal c = 1 →
       let other := match w.st.refPop with
         | none => false
         | some (r, p) => p != spd && (w.memActive || r ≤ c.val)
       (trainCode fail spd other = 0 →
         s.yields (exec (.canalTrainingDone t c fail spd raw) s) fun m => m.fsm .canal c = 2 ∧ (m.canal c).fillStart = m.tide) ∧
       (trainCode fail spd other ≠ 0 → ∃ s', exec (.canalTrainingDone t c fail spd raw) s = .next s' ∧ s'.pending = s.pending ∧
         s'.m.fsm .canal c = 7 ∧ s'.m.rd Reg.Canal.TRAIN_FAIL c = trainCode fail spd other ∧ s'.m.told .canal c 0x2411)) ∧
     (w.fsm .canal c = 2 → ∃ s', exec (.canalFillComplete t c) s = .next s' ∧ s'.pending = s.pending ∧
       (∀ e ∈ s'.m.st.dram, canalOf e.1 ≠ c) ∧ s'.m.fsm .canal c = (if (w.canal c).returned then 3 else 4) ∧
       s'.m.told .canal c (if (w.canal c).returned then 0x2414 else 0x2410)) ∧
     (2 ≤ w.fsm .canal c → w.fsm .canal c ≤ 5 →
       (∀ rank, s.yields (exec (.refreshDue t c rank false false) s) fun m => Tbl.getD (m.canal c).owed rank 0 = 0) ∧
       (∀ rank, Tbl.getD (w.canal c).owed rank 0 + 1 < w.act Reg.Canal.REF_POSTPONE c →
         s.yields (exec (.refreshDue t c rank true false) s) fun m =>
           Tbl.getD (m.canal c).owed rank 0 = Tbl.getD (w.canal c).owed rank 0 + 1) ∧
       (3 ≤ w.fsm .canal c → ∀ rank, ∃ m : Mach, exec (.refreshDue t c rank false true) s = s.done (m.leaveNow c 7) ∧
         m.fsm .canal c = w.fsm .canal c) ∧
       (∀ t0 t1, s.yields (exec (.dimmThermalRead t c t0 t1) s) fun m => m.rd Reg.Canal.TEMP0 c = tempByte t0 ∧
         m.rd Reg.Canal.TEMP1 c = tempByte t1 ∧ ((w.temps c t0 t1).any (fun v => 85 < v) = true → m.flag Reg.Canal.REF_2X c = true)) ∧
       ((w.canal c).alerts.length < w.rd Reg.Canal.CAPAR_LIMIT c →
         s.yields (exec (.caParityAlert t c false) s) fun m => m.told .canal c 0x2416 ∧
           m.rd Reg.Canal.CAPAR_ERRS c = min (w.rd Reg.Canal.CAPAR_ERRS c + 1) (2 ^ Reg.Canal.CAPAR_ERRS.width - 1)) ∧
       (3 ≤ w.fsm .canal c → ∃ m : Mach, exec (.caParityAlert t c true) s = s.done (m.leaveNow c 2) ∧ m.fsm .canal c = w.fsm .canal c)) ∧
     exec (.rcdInternalError t c) s = s.done ((w.wr Reg.Canal.LAST_ALERT_TIDE w.tide c).leaveNow c 8) ∧
     (s.canWrite src →
       let v := s.noted t .canal c src
       (v.fsm .canal c = 3 ∨ v.fsm .canal c = 4 → s.yields (exec (.oosReq t src c true false) s) fun m =>
         m.fsm .canal c = 5 ∧ (m.canal c).leave = some ⟨1, true, v.fsm .canal c⟩) ∧
       (∀ f, v.fsm .canal c = 3 ∨ v.fsm .canal c = 4 → v.exposed (v.awaySet [c.val]) = some f →
         s.yields (exec (.oosReq t src c false false) s) fun m => m.fsm .canal c = v.fsm .canal c ∧ m.told .canal c 0x2413) ∧
       (v.fsm .canal c = 3 ∨ v.fsm .canal c = 4 → v.exposed (v.awaySet [c.val]) = none →
         s.yields (exec (.oosReq t src c false false) s) fun m => m.fsm .canal c = 5 ∧ (m.canal c).leave = some ⟨1, false, v.fsm .canal c⟩) ∧
       (v.mayReturn c = true → s.yields (exec (.returnGo t src c false) s) fun m =>
         m.fsm .canal c = 1 ∧ (m.canal c).returned = true)) ∧
     (w.fsm .canal c = 3 → (∀ k ∈ s.m.lev.chains, k.2.who ≠ .rebuild c) → w.canPay c 1 0 = true →
       exec (.rebuildLineDone t c) s = s.done (if w.flag Reg.Canal.PHASE c then w.rbPhase2 c else w.rbPhase1 c)))

/-- The key commands complete (R294, R295, R305): each judges the conditions of R295 in their order, acts at once where none refuses it, and
posts its result later; while one runs another is refused, a permitted ZEROISE excepted (R295; the model's reading, log entry 150). The
result of a key command, the alarm's causes and the Rekey engine complete (R294, R304, R309, R311, R312): a start is taken or refused, and a
step of the engine does its line or its plot, or waits for freeboard lines or a tracker entry. The IDE commands of a stream complete (R314,
R315): the query answers, a key set is programmed one direction at a time, a full set goes into use, and a stopped one is gone. -/
def Obligations.CryptoCompletes : Prop :=
  (∀ (i : Instr) (t op : Nat) (src : Source) (k : Fin 64) (lock : Bool) (s : State),
     keyCommand i = some (t, src, op, k, lock) → s.canWrite src →
     let w := s.noted t .crypto 0 src
     (s.m.cry.cmd.isSome = true → op ≠ 3 ∨ w.keyWriter src = false → s.yields (exec i s) fun m => m.cry = s.m.cry ∧ m.told .crypto 0 0x2816) ∧
     (s.m.cry.cmd = none → w.keyRefusal op k src ≠ 0 →
       s.yields (exec i s) fun m => m.cry.slots = s.m.cry.slots ∧ m.told .crypto 0 0x2816 ∧
         m.cry.cmd.map (fun c => c.code) = some (w.keyRefusal op k src)) ∧
     (s.m.cry.cmd = none ∨ op = 3 → w.keyRefusal op k src = 0 →
       s.yields (exec i s) fun m => m.cry.cmd.map (fun c => c.code) = some 0 ∧
         (m.slot k).state = (if op = 2 then 0 else if op = 3 then 2 else 1) ∧
         (op = 0 → (m.slot k).k1 = w.keyWord 0 ∧ (m.slot k).k2 = w.keyWord 4 ∧ (m.slot k).k3 = w.keyWord 8) ∧
         (op < 2 → (m.slot k).epoch = (w.slot k).epoch + 1 ∧ (m.slot k).lock = ((w.slot k).lock || lock) ∧ (m.slot k).writes = 0 ∧
           m.told .crypto 0 0x2811) ∧
         ∀ j, j ≠ k.val → m.slot j = w.slot j)) ∧
  (∀ (t mask : Nat) (src : Source) (n : Fin 65536) (k : Fin 64) (errs : List (BitVec 640)) (cisBad : Bool) (s : State), s.live →
     (s.m.cry.cmd = none → exec (.keyCmdDone t) s = s.done (s.now t)) ∧
     (∀ c, s.m.cry.cmd = some c → s.yields (exec (.keyCmdDone t) s) fun m => m.cry.cmd = none ∧
       m.rd Reg.Crypto.KEY_RESULT = c.code % 2 ^ Reg.Crypto.KEY_RESULT.width ∧
       m.rd Reg.Crypto.KEY_RESULT_SLOT = c.slot % 2 ^ Reg.Crypto.KEY_RESULT_SLOT.width ∧
       ∀ d < 12, m.rd Reg.Crypto.KEY_DATA 0 d = 0) ∧
     (s.canWrite src →
       s.yields (exec (.alarmCauseClear t src mask) s) (fun m =>
         m.rd Reg.Crypto.ALARM_CAUSE = (s.woken t).rd Reg.Crypto.ALARM_CAUSE &&& (31 - mask % 32)) ∧
       let w := s.noted t .rekey 0 src
       (w.rekeyRefusal n k src = 0 → s.yields (exec (.rekeyGo t src n k) s) fun m =>
         m.rd Reg.Rekey.RK_ACT_TRACT = n ∧ m.rd Reg.Rekey.RK_NEW = k ∧ m.rd Reg.Rekey.RK_BOUNDARY = 0 ∧
         m.fsm .rekey = (if w.quiet .rekey then 2 else 1) ∧ m.told .rekey 0 0x2820) ∧
       (w.rekeyRefusal n k src ≠ 0 → s.yields (exec (.rekeyGo t src n k) s) fun m => m.cry = s.m.cry ∧ m.told .rekey 0 0x2816 ∧
         m.rd Reg.Rekey.RK_REFUSE = w.rekeyRefusal n k src)) ∧
     ((s.now t).rkMay = true → s.m.cry.rkRead = none →
       let w := s.now t
       let n := w.rd Reg.Rekey.RK_ACT_TRACT
       let line := n * 2 ^ 24 + w.rd Reg.Rekey.RK_BOUNDARY
       let plot := n * 2 ^ 18 + w.rd Reg.Rekey.RK_BOUNDARY / 64
       (∀ pl, tMode (s.m.tract n) = 1 → w.linePl line = some pl →
         (w.rkHas (w.rkLineCost line pl) = false → exec (.rekeyStepDone t errs cisBad) s = s.done w) ∧
         (w.rkHas (w.rkLineCost line pl) = true → w.rkEntry line = none →
           exec (.rekeyStepDone t errs cisBad) s = s.done (w.inc Reg.DataMover.TRACK_WAITS)) ∧
         (∀ m, w.rkHas (w.rkLineCost line pl) = true → w.rkEntry line = some m →
           let r := (m.rkAdvance (line % 2 ^ 24 + 1)).rkLine line pl errs cisBad
           exec (.rekeyStepDone t errs cisBad) s = s.done (if r.2 then r.1.stepFree 3 else r.1))) ∧
       (tMode (s.m.tract n) ≠ 1 →
         (w.rkHas 1 = false → exec (.rekeyStepDone t errs cisBad) s = s.done w) ∧
         (w.rkHas 1 = true → w.rkEntry (plot * 64) = none →
           exec (.rekeyStepDone t errs cisBad) s = s.done (w.inc Reg.DataMover.TRACK_WAITS)) ∧
         (∀ m, w.rkHas 1 = true → w.rkEntry (plot * 64) = some m →
           exec (.rekeyStepDone t errs cisBad) s = s.done (m.rkPlot plot errs cisBad)))) ∧
     ((s.now t).rkMay = false → exec (.rekeyStepDone t errs cisBad) s = s.done (s.now t))) ∧
  (∀ (t : Nat) (p : Port) (mem tx : Bool) (k : Fin 2) (s : State), s.live →
     let w := s.now t
     (s.yields (exec (.ideQuery t p mem) s) fun m =>
       m.out = s.m.out ++ [.doe p 2 [0, mem.toNat, w.rd (ideState mem) 0 p, w.rd (ideSet mem) 0 p, 1]]) ∧
     (w.rd (ideState mem) 0 p < 2 → s.yields (exec (.ideKeyProg t p mem tx k) s) fun m =>
       (if tx then (m.ide p mem).tx else (m.ide p mem).rx).contains k.val = true) ∧
     ((w.ide p mem).full k = true → w.rd (ideState mem) 0 p = 1 ∨ w.rd (ideState mem) 0 p = 2 →
       s.yields (exec (.ideKSetGo t p mem k) s) fun m => m.rd (ideState mem) 0 p = 2 ∧ m.rd (ideSet mem) 0 p = k) ∧
     (w.rd (ideState mem) 0 p ≠ 3 → s.yields (exec (.ideKSetStop t p mem k) s) fun m =>
       (m.ide p mem).full k = false ∧ (m.rd (ideState mem) 0 p = 2 → m.rd (ideSet mem) 0 p ≠ k)))

/-! ### Culvert links and the fabric -/

/-- What leaves in a flit slot: a control flit that waits first, then a flit of a replay, then new data, which is numbered and held, and an IDLE
flit where nothing waits, at the cap and while the page halts; only control flits leave while the lanes train (R329, R330, R334). A new DATA
flit takes the next sequence and is held until it is acknowledged (R330). -/
def Obligations.FlitSlotCompletes : Prop :=
  (∀ (t : Nat) (l : Fin 8) (lost : Bool) (s : State), s.live →
     let w := s.now t
     (∀ c rest, w.fsm .culvert l ≠ 0 → w.fsm .culvert l ≠ 5 → (w.link l).ctrlQ = c :: rest →
       s.yields (exec (.flitSlotSend t l lost) s) fun m => (m.link l).ctrlQ = rest ∧ ∃ hdr, m.out = s.m.out ++ [.flit l hdr (.ctrl c)]) ∧
     (w.fsm .culvert l = 1 ∨ w.fsm .culvert l = 4 → (w.link l).ctrlQ = [] → exec (.flitSlotSend t l lost) s = s.done w) ∧
     (w.fsm .culvert l = 2 ∨ w.fsm .culvert l = 3 → (w.link l).ctrlQ = [] →
       (w.flag Reg.Culvert.REPLAYING l = true → exec (.flitSlotSend t l lost) s = s.done (w.replayOne l lost)) ∧
       (w.flag Reg.Culvert.REPLAYING l = false → (w.judgeCap l).flag Reg.Culvert.AT_CAP l = false → w.quiet .culvert l = false →
         (∀ n b, (w.judgeCap l).newBody l = (n, some b) → exec (.flitSlotSend t l lost) s = s.done (n.sendData l b)) ∧
         (∀ n, (w.judgeCap l).newBody l = (n, none) → exec (.flitSlotSend t l lost) s = s.done (n.putCtrl l 0 0 .idle))) ∧
       (w.flag Reg.Culvert.REPLAYING l = false → (w.judgeCap l).flag Reg.Culvert.AT_CAP l = true ∨ w.quiet .culvert l = true →
         s.yields (exec (.flitSlotSend t l lost) s) fun m => ∃ o hdr, m.out = s.m.out ++ o ++ [.flit l hdr .idle]))) ∧
  (∀ (m : Mach) (l : Nat) (b : FlitBody), l < 8 →
     (m.sendData l b).rd Reg.Culvert.NEXT_TX l = (m.rd Reg.Culvert.NEXT_TX l + 1) % 2 ^ 20 ∧
     ((m.sendData l b).link l).held.length = (m.link l).held.length + 1 ∧
     ∃ f, ((m.sendData l b).link l).held.getLast? = some f ∧ f.seq = m.rd Reg.Culvert.NEXT_TX l ∧ f.body = b)

/-- What arrives on a link: a failing tag breaks it (R317), a DATA flit is taken in order, discarded as a duplicate or answered with a NAK
(R331, R333), an IDLE flit brings its acknowledgement alone (R326), a codeword that cannot be corrected is counted (R326, R333). -/
def Obligations.FlitsReceived : Prop :=
  ∀ (t : Nat) (l : Fin 8) (h : FlitHdr) (b : FlitBody) (fec : Bool) (s : State), s.live →
    (takesFlit ((s.now t).fsm .culvert l) false = true → h.gcm = false →
      ∃ m : Mach, exec (.idleFlitReceived t l h) s = s.done (m.linkBroken l 3) ∧ m.told .crypto 0 0x2818) ∧
    (takesFlit ((s.now t).fsm .culvert l) true = true → h.gcm = false →
      ∃ m : Mach, exec (.dataFlitReceived t l h b) s = s.done (m.linkBroken l 3) ∧ m.told .crypto 0 0x2818) ∧
    (s.hears t l h false → exec (.idleFlitReceived t l h) s = s.done (s.heard t l h false)) ∧
    (s.hears t l h true →
      let w := s.heard t l h true
      exec (.dataFlitReceived t l h b) s = s.done (w.dataIn l h b) ∧
      (h.seq % 2 ^ 20 = w.rd Reg.Culvert.NEXT_RX l →
        (w.dataIn l h b).rd Reg.Culvert.NEXT_RX l = (w.rd Reg.Culvert.NEXT_RX l + 1) % 2 ^ 20 ∧
        (w.dataIn l h b).rd Reg.Culvert.FLITS_RX l =
          min (w.rd Reg.Culvert.FLITS_RX l + 1) (2 ^ Reg.Culvert.FLITS_RX.width - 1)) ∧
      (h.seq % 2 ^ 20 ≠ w.rd Reg.Culvert.NEXT_RX l → seqDist (h.seq % 2 ^ 20) (w.rd Reg.Culvert.NEXT_RX l) ≤ 2 ^ 18 →
        w.dataIn l h b = w.inc Reg.Culvert.DUP_DISCARD l) ∧
      (h.seq % 2 ^ 20 ≠ w.rd Reg.Culvert.NEXT_RX l → 2 ^ 18 < seqDist (h.seq % 2 ^ 20) (w.rd Reg.Culvert.NEXT_RX l) →
        w.dataIn l h b = (w.inc Reg.Culvert.GAP_DISCARD l).wantNak l)) ∧
    ((s.now t).fsm .culvert l = 2 ∨ (s.now t).fsm .culvert l = 3 → exec (.failedFlit t l fec) s =
      s.done (((s.now t).inc (if fec then Reg.Culvert.FEC_UNCORR else Reg.Culvert.CRC_ERRS) l).wantNak l)) ∧
    ((s.now t).fsm .culvert l = 1 ∨ (s.now t).fsm .culvert l = 4 → exec (.failedFlit t l fec) s =
      s.done ((s.now t).inc (if fec then Reg.Culvert.FEC_UNCORR else Reg.Culvert.CRC_ERRS) l))

/-- The control flits complete (R328, R334, R338 to R344), each on the device as it is once the flit has passed its checks. -/
def Obligations.ControlFlitsComplete : Prop :=
  ∀ (t k p seq : Nat) (l : Fin 8) (h : FlitHdr) (s : State), s.hears t l h false →
    let w := s.heard t l h false
    (w.fsm .culvert l = 2 ∨ w.fsm .culvert l = 3 →
      exec (.ctrlNak t l h seq) s = s.done ((w.inc Reg.Culvert.NAKS_RCVD l).takeNak l seq)) ∧
    (w.fsm .culvert l = 1 ∨ w.fsm .culvert l = 4 → exec (.ctrlNak t l h seq) s = s.done w) ∧
    (w.fsm .culvert l = 4 → (w.link l).ready = true → p < 2 ^ 44 → ∀ phase < 2,
      exec (.ctrlResume t l h seq p phase) s = s.done (w.resume l seq)) ∧
    (w.fsm .culvert l = 3 → s.yields (exec (.ctrlRetrainReq t l h k) s) fun m => m.fsm .culvert l = 4 ∧ m.told .culvert l 0x2C11) ∧
    (w.fsm .culvert l = 3 → w.flag Reg.Culvert.SPARE_USED_TX l = false → k < 4 →
      s.yields (exec (.ctrlSpareReq t l h k) s) fun m => (m.link l).txSwitch = some ⟨k, w.switchPair l, false⟩ ∧
        (m.link l).ctrlQ = (w.link l).ctrlQ ++ [{ op := 0x05, a := k, b := w.switchPair l }]) ∧
    (w.fsm .culvert l = 3 → w.flag Reg.Culvert.SPARE_USED_TX l = true → k < 4 →
      s.yields (exec (.ctrlSparebackReq t l h k) s) fun m => (m.link l).txSwitch = some ⟨k, max 1 (w.switchPair l), true⟩ ∧
        (m.link l).ctrlQ = (w.link l).ctrlQ ++ [{ op := 0x08, a := k, b := max 1 (w.switchPair l) }]) ∧
    (∀ q, (w.link l).rxSwitch = some ⟨k, q, false⟩ →
      s.yields (exec (.ctrlSpareAck t l h k p) s) fun m => (m.link l).rxSwitch = some ⟨k, p, false⟩) ∧
    (∀ q, (w.link l).rxSwitch = some ⟨k, q, true⟩ →
      s.yields (exec (.ctrlSparebackAck t l h k p) s) fun m => (m.link l).rxSwitch = some ⟨k, p, true⟩) ∧
    (∀ q, (w.link l).txSwitch = some ⟨k, q, false⟩ → w.flag Reg.Culvert.SPARE_USED_TX l = true →
      s.yields (exec (.ctrlSpareDone t l h k) s) fun m => (m.link l).txSwitch = none ∧ m.told .culvert l 0x2C12) ∧
    (∀ phase, w.fsm .culvert l = 3 → phase % 2 ≠ w.rd Reg.Culvert.KEY_PHASE_RX l →
      s.yields (exec (.ctrlKeySwitch t l h seq phase) s) fun m => m.rd Reg.Culvert.KEY_PHASE_RX l = phase % 2 ∧
        (m.link l).switchRx = some (seq % 2 ^ 20) ∧ m.told .culvert l 0x2C19) ∧
    exec (.ctrlBroken t l h k) s = s.done (w.linkBroken l k) ∧
    (∀ serial spare, w.fsm .culvert l = 1 → k < 8 → s.yields (exec (.ctrlHello t l h serial k spare) s) fun m =>
      (m.link l).peerSerial = serial ∧ (m.link l).peerSpare = spare)

/-- A link that is declared broken: its state, its cause, its tide and event 0x2C17, before the transport and the Twin learn of it (R344). The
timers, lanes and life of a link complete (R333, R336, R338 to R345, R353). -/
def Obligations.LinksComplete : Prop :=
  (∀ (m : Mach) (l cause : Nat), l < 8 → m.fsm .culvert l ≠ 0 → m.fsm .culvert l ≠ 5 →
     ∃ n : Mach, m.linkBroken l cause = n.linkDown l (m.fabricLink l) ∧ n.fsm .culvert l = 5 ∧ n.told .culvert l 0x2C17 ∧
       n.rd Reg.Culvert.BROKEN_CAUSE l = cause % 2 ^ Reg.Culvert.BROKEN_CAUSE.width ∧
       n.rd Reg.Culvert.BROKEN_TIDE l = m.tide % 2 ^ Reg.Culvert.BROKEN_TIDE.width ∧
       n.rd Reg.Culvert.PAYLOAD_MBPS l = 0 ∧ (n.link l).held = []) ∧
  (∀ (t : Nat) (src : Source) (l : Fin 8) (k : Fin 5) (corr : Nat) (tx rx : List Nat) (s : State), s.live →
     let w := s.now t
     (∀ u, (w.link l).nak = some u → u + w.rd Reg.Culvert.NAK_RETRY_NS l ≤ w.tide → w.fsm .culvert l = 3 →
       exec (.nakRetryTimeout t l) s = s.done (w.sendNak l)) ∧
     (w.flag Reg.Culvert.AT_CAP l = true → (w.link l).capAt + w.act Reg.Turnout.CRED_TIMEOUT_US * 1000 < w.tide →
       exec (.atCapTimeout t l) s = s.done (w.linkBroken l 2)) ∧
     (w.fsm .culvert l = 3 → corr ≤ w.rd Reg.Culvert.SPARE_THRESH l → corr < 2 ^ 24 →
       s.yields (exec (.laneDegraded t l k corr false) s) fun m => m.rd Reg.Culvert.LANE_CORR l k = corr) ∧
     (w.fsm .culvert l = 3 → w.rd Reg.Culvert.SPARE_THRESH l < corr →
       ¬ (mapLanes (w.rd Reg.Culvert.WIDTH l) (w.rd Reg.Culvert.RX_MAP l)).contains k.val → (w.link l).rxSwitch = none →
       (∀ j : Fin 5, w.flag Reg.Culvert.LANE_LOCK l j = true) → (∀ j ∈ mapLanes (w.rd Reg.Culvert.WIDTH l) (w.rd Reg.Culvert.RX_MAP l), j < 5) →
       s.yields (exec (.laneDegraded t l k corr false) s) fun m => m.flag Reg.Culvert.LANE_DEGRADED l k = true ∧ m.fsm .culvert l = 3) ∧
     (w.fsm .culvert l = 3 → w.rd Reg.Culvert.SPARE_THRESH l < corr → k.val < 4 →
       (mapLanes (w.rd Reg.Culvert.WIDTH l) (w.rd Reg.Culvert.RX_MAP l)).contains k.val → (w.link l).rxSwitch = none →
       (∀ j : Fin 5, w.flag Reg.Culvert.LANE_LOCK l j = true) → (∀ j ∈ mapLanes (w.rd Reg.Culvert.WIDTH l) (w.rd Reg.Culvert.RX_MAP l), j < 5) →
       w.flag Reg.Culvert.SPARE_EN l = true → w.flag Reg.Culvert.SPARE_USED_RX l = false → (w.link l).peerSpare = true →
       w.rd Reg.Culvert.WIDTH l = 4 → w.flag Reg.Culvert.LANE_DEGRADED l 4 = false →
       s.yields (exec (.laneDegraded t l k corr false) s) fun m =>
         (m.link l).rxSwitch = some ⟨k, 0, false⟩ ∧ (m.link l).ctrlQ = (w.link l).ctrlQ ++ [{ op := 0x04, a := k }]) ∧
     (∀ v, w.fsm .culvert l = 3 → (w.link l).rxSwitch = some v → (v.back && v.pair = 0) = false →
       exec (.spareSwitch t l true) s = s.done (w.switchRx l v)) ∧
     (∀ v, w.fsm .culvert l = 3 → (w.link l).txSwitch = some v → v.back = w.flag Reg.Culvert.SPARE_USED_TX l →
       exec (.spareSwitch t l false) s = s.done (w.switchTx l v)) ∧
     (w.fsm .culvert l = 3 → w.flag Reg.Culvert.SPAREBACK_EN l = true → w.rd Reg.Culvert.WIDTH l = 4 →
       w.flag Reg.Culvert.SPARE_USED_RX l = true → w.flag Reg.Culvert.LANE_RETIRED l k = true → (w.link l).rxSwitch = none →
       s.yields (exec (.sparebackQualified t l k) s) fun m => (m.link l).rxSwitch = some ⟨k, 0, true⟩) ∧
     (w.fsm .culvert l = 3 → s.yields (exec (.pairAlignmentLoss t l) s) fun m => m.fsm .culvert l = 4 ∧ m.told .culvert l 0x2C11) ∧
     (∀ n, w.fsm .culvert l = 4 → (w.link l).ready = false → w.chooseLanes l tx rx = (n, true) →
       s.yields (exec (.retrainLanesReady t l tx rx) s) fun m => (m.link l).ready = true) ∧
     (∀ n, w.fsm .culvert l = 4 → (w.link l).ready = false → w.chooseLanes l tx rx = (n, false) →
       exec (.retrainLanesReady t l tx rx) s = s.done (n.linkBroken l 6)) ∧
     (w.fsm .culvert l = 4 → (w.link l).retrainAt + 2000000 ≤ w.tide →
       w.rd Reg.Culvert.RETRAIN_FAIL_RUN l + 1 < w.rd Reg.Culvert.RETRAIN_MAX l →
       s.yields (exec (.retrainTimeout t l) s) fun m => m.fsm .culvert l = 4 ∧ (m.link l).retrainAt = m.tide ∧ m.told .culvert l 0x2C11) ∧
     (w.fsm .culvert l = 4 → (w.link l).retrainAt + 2000000 ≤ w.tide →
       w.rd Reg.Culvert.RETRAIN_MAX l ≤ (w.inc Reg.Culvert.RETRAIN_FAIL_RUN l).rd Reg.Culvert.RETRAIN_FAIL_RUN l →
       exec (.retrainTimeout t l) s = s.done ((w.inc Reg.Culvert.RETRAIN_FAIL_RUN l).linkBroken l 1)) ∧
     (w.fsm .culvert l = 5 → w.rd Reg.Culvert.RESTART_MS l ≠ 0 →
       (w.link l).brokenAt + w.rd Reg.Culvert.RESTART_MS l * 1000000 ≤ w.tide →
       exec (.restartTimer t l) s = s.done (w.startLink l)) ∧
     (∀ n, w.fsm .culvert l = 1 → w.chooseLanes l tx rx = (n, true) →
       ∃ m : Mach, exec (.culvertTrainingDone t l tx rx) s = s.done (m.startSpdm l) ∧ m.fsm .culvert l = 2 ∧
         m.rd Reg.Culvert.NEXT_TX l = 0 ∧ m.rd Reg.Culvert.NEXT_RX l = 0) ∧
     (∀ n, w.fsm .culvert l = 1 → w.chooseLanes l tx rx = (n, false) →
       exec (.culvertTrainingDone t l tx rx) s = s.done (n.linkBroken l 6)) ∧
     (w.fsm .culvert l = 2 → (w.link l).keyed = true → s.yields (exec (.culvertKeyingDone t l) s) fun m =>
       m.fsm .culvert l = 3 ∧ m.rd Reg.Culvert.PAYLOAD_MBPS l = widthMbps (w.rd Reg.Culvert.WIDTH l)) ∧
     ((w.link l).rekeyRun = true → w.fsm .culvert l = 3 ∨ w.fsm .culvert l = 4 →
       ∃ m : Mach, exec (.linkKeyReady t l) s = s.done (m.tryKeySwitch l) ∧ (m.link l).newKey = true) ∧
     (w.fsm .culvert l = 3 → w.coreAway = false → (w.link l).keyAt + w.act Reg.Turnout.LINK_REKEY_S * 1000000000 ≤ w.tide ∨
         2 ^ 20 - 1 ≤ max (w.rd Reg.Culvert.WRAP_TX l) (w.rd Reg.Culvert.WRAP_RX l) →
       exec (.linkRekeyDue t l) s = s.done (w.mgmtSend l (.keyUpdate false))) ∧
     (s.canWrite src →
       ((s.noted t .culvert l src).fsm .culvert l = 3 → s.yields (exec (.culvertRetrain t src l) s) fun m =>
         m.fsm .culvert l = 4 ∧ m.told .culvert l 0x2C11) ∧
       ((s.noted t .culvert l src).fsm .culvert l = 5 → (s.noted t .culvert l src).enabled .culvert l = true →
         s.yields (exec (.culvertRestart t src l) s) fun m => m.fsm .culvert l = 1 ∧ (m.link l).helloSent = true) ∧
       ((s.woken t).halted .culvert l = false → ∃ m : Mach, exec (.culvertDisable t src l) s = s.done (m.linkBroken l 7) ∧
         m.enabled .culvert l = false) ∧
       ((s.woken t).halted .culvert l = true → (s.woken t).fsm .culvert l ≠ 5 →
         ∃ m : Mach, exec (.culvertDisable t src l) s = s.done (m.linkDown l ((s.woken t).fabricLink l)) ∧ m.fsm .culvert l = 0)))

/-- The management messages complete (R349 to R353, R372): the message at the head of the queue is taken; a flooded one is acted on once; a
request for an ID is granted at the root and passed on elsewhere, and the grant goes back along its path. A device that becomes root: its
state, the epoch it announces, event 0x3011 (R349). The fabric's own events complete (R348 to R355, R372). -/
def Obligations.FabricCompletes : Prop :=
  (∀ (t l sn n : Nat) (rest : List (Nat × Mgmt × Nat × Nat)) (s : State), s.live → (s.now t).coreAway = false →
     let w := (s.now t).modTurn fun x => { x with mgmt := rest }
     let news := s.m.turn.seen.contains (sn, n) = false
     let head := fun (msg : Mgmt) => s.m.turn.mgmt = (l, msg, sn, n) :: rest
     (∀ serial prio epoch, head (.claim serial prio epoch) → news → w.fsm .turnout ≠ 0 →
       s.yields (exec (.mgmtClaim t) s) fun m => m.turn.mgmt = rest ∧ m.turn.seen = s.m.turn.seen ++ [(sn, n)] ∧
         (s.m.turn.best = none → m.turn.best = some ⟨serial, prio, epoch, some l⟩) ∧
         (∀ b, s.m.turn.best = some b → (⟨serial, prio, epoch, some l⟩ : Claim).better b = true →
           m.turn.best = some ⟨serial, prio, epoch, some l⟩)) ∧
     (∀ serial prio epoch, head (.claim serial prio epoch) → news → w.fsm .turnout = 0 →
       s.yields (exec (.mgmtClaim t) s) fun m => m.turn.mgmt = rest ∧ (sn, n) ∈ m.turn.seen) ∧
     (∀ serial prio epoch, head (.claim serial prio epoch) → s.m.turn.seen.contains (sn, n) = true →
       exec (.mgmtClaim t) s = s.done w) ∧
     (∀ serial pref d, head (.idReq serial pref) → w.flag Reg.Turnout.IS_ROOT = true → w.grantFor serial (pref % 64) = some d →
       exec (.mgmtIdReq t) s =
         s.done (((w.listId d serial).floodTable).mgmtSend l (.idGrant serial d (w.rd Reg.Turnout.FAB_EPOCH)))) ∧
     (∀ serial pref, head (.idReq serial pref) → w.flag Reg.Turnout.IS_ROOT = true → w.grantFor serial (pref % 64) = none →
       exec (.mgmtIdReq t) s = s.done w) ∧
     (∀ serial pref out, head (.idReq serial pref) → w.flag Reg.Turnout.IS_ROOT = false →
       (w.turn.best.bind fun b => b.link) = some out →
       exec (.mgmtIdReq t) s = s.done ((w.modTurn fun x => { x with back := (x.back.filter fun e => e.1 != serial) ++ [(serial, l)] }).mgmtTo
         out (.idReq serial pref) sn n)) ∧
     (∀ serial d epoch out, head (.idGrant serial d epoch) → serial ≠ s.m.serial →
       (w.turn.back.find? fun e => e.1 = serial) = some (serial, out) →
       exec (.mgmtIdGrant t) s = s.done ((w.modTurn fun x => { x with back := x.back.filter fun e => e.1 != serial }).mgmtTo
         out (.idGrant serial d epoch) sn n)) ∧
     (∀ d epoch, head (.idGrant s.m.serial d epoch) → w.fsm .turnout = 1 →
       s.yields (exec (.mgmtIdGrant t) s) fun m => m.rd Reg.Turnout.MY_ID = d % 64 ∧ m.flag Reg.Turnout.ID_VALID = true ∧
         m.fsm .turnout = 2 ∧ m.told .turnout 0 0x3010) ∧
     (∀ es, head (.idTable es) → news →
       (∀ e ∈ es, ¬ (w.flag Reg.Turnout.ID_VALID = true ∧ e.id = w.rd Reg.Turnout.MY_ID ∧ e.serial ≠ w.serial)) →
       s.yields (exec (.mgmtIdTable t) s) fun m => m.turn.table =
         (s.m.turn.table.filter fun e => !(es.any fun f => f.id = e.id || f.serial = e.serial)) ++ es.take 7) ∧
     (∀ es e, head (.idTable es) → news → w.flag Reg.Turnout.IS_ROOT = false →
       (es.find? fun e => w.flag Reg.Turnout.ID_VALID && e.id = w.rd Reg.Turnout.MY_ID && e.serial != w.serial) = some e →
       s.yields (exec (.mgmtIdTable t) s) fun m => m.fsm .turnout = 4 ∧ m.told .turnout 0 0x3017 ∧ m.flag Reg.Turnout.ID_VALID = false) ∧
     (∀ d links, head (.linkState d links) → news →
       ∃ (m : Mach) (was : List Nat), exec (.mgmtLinkState t) s = s.done (m.lostMembers was) ∧ Tbl.find m.turn.lsdb (d % 64) = some links) ∧
     (∀ d why, head (.leave d why) → news → ∃ m : Mach, exec (.mgmtLeave t) s = s.done (m.memberGone (d % 64) sn) ∧
       m.turn.seen = s.m.turn.seen ++ [(sn, n)]) ∧
     (∀ err, w.fsm .culvert l = 2 →
       (head (.spdm true true err) → w.boot.anchorBad.contains 1 = false →
         s.yields (exec (.mgmtSpdm t) s) fun m => (m.link l).keyed = true) ∧
       (head (.spdm false true err) → w.boot.anchorBad.contains 1 = false →
         exec (.mgmtSpdm t) s = s.done (w.mgmtSend l (.spdm true true 0))) ∧
       (head (.spdm true false err) → s.yields (exec (.mgmtSpdm t) s) fun m => m.told .turnout 0 0x301C ∧
         Tbl.find m.turn.keyFail l = some m.tide)) ∧
     (∀ last, head (.keyUpdate last) → w.fsm .culvert l = 3 ∨ w.fsm .culvert l = 4 →
       s.yields (exec (.mgmtKeyUpdate t) s) fun m => (m.link l).rekeyRun = true)) ∧
  (∀ m : Mach, m.becomeRoot.flag Reg.Turnout.IS_ROOT = true ∧ m.becomeRoot.fsm .turnout = 3 ∧ m.becomeRoot.told .turnout 0 0x3011 ∧
     m.becomeRoot.rd Reg.Turnout.FAB_EPOCH = (m.turn.topEpoch + 1) % 2 ^ Reg.Turnout.FAB_EPOCH.width) ∧
  (∀ (t : Nat) (src : Source) (d : Fin 64) (l : Fin 8) (s : State), s.live →
     let w := s.now t
     (w.fsm .turnout ≠ 0 → exec (.claimPeriodic t) s = s.done w.renewClaim.floodClaim) ∧
     (w.fsm .turnout ≠ 0 → w.fsm .turnout ≠ 4 → w.turn.settled = false → w.turn.bestAt + 20000000 ≤ w.tide →
       (∀ b, w.turn.best = some b → b.serial = w.serial → ∃ m : Mach, exec (.electionSettle t) s = s.done m.becomeRoot) ∧
       (∀ b, w.turn.best = some b → b.serial ≠ w.serial → w.flag Reg.Turnout.ID_VALID = true →
         s.yields (exec (.electionSettle t) s) fun m => m.fsm .turnout = 2 ∧ m.flag Reg.Turnout.IS_ROOT = false ∧
           m.rd Reg.Turnout.FAB_EPOCH = b.epoch % 2 ^ Reg.Turnout.FAB_EPOCH.width) ∧
       (∀ b, w.turn.best = some b → b.serial ≠ w.serial → w.flag Reg.Turnout.ID_VALID = false →
         s.yields (exec (.electionSettle t) s) fun m => m.fsm .turnout = 1 ∧ m.flag Reg.Turnout.IS_ROOT = false) ∧
       (w.turn.best = none → s.yields (exec (.electionSettle t) s) fun m => m.told .turnout 0 0x3016)) ∧
     (w.fsm .turnout = 2 ∨ w.fsm .turnout = 3 → exec (.linkStatePeriodic t) s = s.done w.floodLinks) ∧
     (∀ h, (w.turn.holds.find? fun h => h.id = d.val) = some h → h.end_ ≤ w.tide →
       s.yields (exec (.idHoldExpiry t d) s) fun m => (∀ e ∈ m.turn.table, e.id ≠ d) ∧ ∀ h ∈ m.turn.holds, h.id ≠ d) ∧
     (∀ u, Tbl.find w.turn.keyFail l = some u → w.fsm .culvert l = 2 → w.coreAway = false → u + 1000000000 ≤ w.tide →
       s.yields (exec (.keyingRetry t l) s) fun m => Tbl.find m.turn.keyFail l = none) ∧
     (w.coreAway = false → w.flag Reg.Turnout.AUTO_ROUTE = true → w.flag Reg.Turnout.ID_VALID = true →
       w.pagePending ⟨.turnout, 0⟩ = false → s.yields (exec (.routeRecompute t) s) fun m => m.told .turnout 0 0x301B) ∧
     (s.canWrite src → s.yields (exec (.fabricLeave t src) s) fun m => m.enabled .turnout = false ∧ m.fsm .turnout = 0))

/-- Flows number their units: each sequenced unit that is sent takes the next sequence modulo 2^32; of those received the next one is accepted
and the sequence moves on, one of the 2^31 before it is a duplicate, which is discarded, counted and acknowledged again, any other is a gap,
which is discarded and counted. -/
def Obligations.SequencesJudged : Prop :=
  (∀ (m : Mach) (u : FUnit), let r := m.rxFlow u.src u.allot
    r.known = true →
    (u.fseq = r.next → (m.acceptSeq u).2 = true ∧
      ((m.acceptSeq u).1.rxFlow u.src u.allot).next = (r.next + 1) % 2 ^ 32 ∧
      ((m.acceptSeq u).1.rxFlow u.src u.allot).due = some (r.due.getD m.tide)) ∧
    (u.fseq ≠ r.next → (r.next + 2 ^ 32 - u.fseq % 2 ^ 32) % 2 ^ 32 ≤ 2 ^ 31 →
      m.acceptSeq u = ((m.inc Reg.Turnout.DUP_UNITS).sendFack u.src u.allot, false)) ∧
    (u.fseq ≠ r.next → 2 ^ 31 < (r.next + 2 ^ 32 - u.fseq % 2 ^ 32) % 2 ^ 32 →
      m.acceptSeq u = (m.inc Reg.Turnout.GAP_UNITS, false))) ∧
  (∀ (m : Mach) (d a : Nat) (u : FUnit) (rest : List FUnit), let f := m.txFlow d a
    f.wait = u :: rest → f.st = 1 → credUnit u = false ∨ (f.cred ≠ 0 ∧ m.quiet .turnout = false) →
      ((m.pump d a 1).txFlow d a).next = (f.next + 1) % 2 ^ 32 ∧
      ∃ v, ((m.pump d a 1).txFlow d a).held.getLast? = some v ∧ v.fseq = f.next)

/-- The units that arrive complete (R357, R359, R361 to R368): a request unit waits in the receive buffer, a response ends its transaction, a
unit for another device goes on to the next link or is dropped; a RESYNC is answered with the credits of the source's slot, and its answer
opens the flow again. The owner's side and the timers of the transport complete (R362, R364, R365, R367): a unit is released to its tract,
or to the directory, or answered FENCED where a shared region does not take the write (R99). -/
def Obligations.UnitsComplete : Prop :=
  (∀ (t : Nat) (l : Fin 8) (m : Mach) (u : FUnit) (s : State), s.live →
     let w := s.now t
     let next := fun k => w.takeSeq l (fun v => v.utype = k) = (m, some u)
     let q := m.takeFack u
     (next 1 → s.yields (exec (.unitRd t l) s) fun n => n.turn.buf = w.turn.buf ++ [⟨u, w.tide⟩]) ∧
     (next 2 → s.yields (exec (.unitWr t l) s) fun n => n.turn.buf = w.turn.buf ++ [⟨u, w.tide⟩]) ∧
     (next 3 → s.yields (exec (.unitWrp t l) s) fun n => n.turn.buf = w.turn.buf ++ [⟨u, w.tide⟩]) ∧
     (∀ k, next 4 → u.xid / 2 ^ 14 = 1 → m.sip.tmRead = some k → k % 2 ^ 13 = u.xid - 2 ^ 14 →
       exec (.unitRdrsp t l) s =
         s.done ((m.untrack k).tmArrive { data := u.data, poison := u.code != 0 || u.lc != unitLc u.data u.line })) ∧
     (∀ p g x, next 4 → u.xid / 2 ^ 14 ≠ 1 ∨ m.sip.tmRead = none → (m.paid u).2 = true → (m.paid u).1.xidTag u.xid = some (p, g, x) →
       x.st = .accepted → x.op.reads = true →
       (u.code = 0 → u.lc = unitLc u.data u.line →
         exec (.unitRdrsp t l) s = s.done ((m.paid u).1.answer p g (.memData u.data false 0) 0 6)) ∧
       (u.code ≠ 0 → exec (.unitRdrsp t l) s = s.done ((m.paid u).1.answer p g (.memData u.data true 0) u.code 6)) ∧
       (u.code = 0 → u.lc ≠ unitLc u.data u.line →
         exec (.unitRdrsp t l) s = s.done (((m.paid u).1.inc Reg.Levee.INTERNAL_FAILS).answer p g poisonData 2 6))) ∧
     (∀ p g x, next 4 → u.xid / 2 ^ 14 ≠ 1 ∨ m.sip.tmRead = none → (m.paid u).1.xidTag u.xid = some (p, g, x) →
       (m.paid u).2 = false ∨ x.st ≠ .accepted ∨ x.op.reads = false →
       exec (.unitRdrsp t l) s = s.done ((m.paid u).1.inc Reg.Turnout.LATE_RESP)) ∧
     (∀ p g x, next 5 → (m.paid u).2 = true → (m.paid u).1.xidTag u.xid = some (p, g, x) → x.st = .accepted → x.op.writes = true → p ≠ 5 →
       exec (.unitWrcmp t l) s = s.done ((((m.paid u).1.setTag p g { x with point := true }).writePoint p g).showWrWait)) ∧
     (∀ g x, next 5 → (m.paid u).2 = true → (m.paid u).1.xidTag u.xid = some (5, g, x) → x.st = .accepted → x.op.writes = true →
       exec (.unitWrcmp t l) s = s.done ((m.paid u).1.answer 5 g .cmp u.code 6)) ∧
     (next 5 → (m.paid u).1.xidTag u.xid = none → s.yields (exec (.unitWrcmp t l) s) fun n =>
       n.sip.tmOut = m.sip.tmOut.filter fun k => k % 2 ^ 13 != u.xid % 2 ^ 13) ∧
     (∀ p g x, next 6 → m.xidTag u.xid = some (p, g, x) → x.st = .accepted → p < 4 → m.tide ≤ m.egressLimit p x →
       exec (.unitDemote t l) s = s.done (m.demoteAt p g x)) ∧
     (w.takeUnit l (fun v => v.utype = 7) = some (m, u) → exec (.unitFack t l) s = s.done (m.takeFack u)) ∧
     (w.takeUnit l (fun v => v.utype = 8) = some (m, u) → q.turn.slots.contains u.src = true →
       s.yields (exec (.unitResync t l) s) fun n => (n.rxFlow u.src u.allot).known = true ∧
         (n.rxFlow u.src u.allot).granted = q.act Reg.Turnout.CRED 0 u.allot ∧
         (n.rxFlow u.src u.allot).next = if (q.rxFlow u.src u.allot).known then (q.rxFlow u.src u.allot).next else u.fseq) ∧
     (w.takeUnit l (fun v => v.utype = 8) = some (m, u) → q.turn.slots.contains u.src = false →
       q.turn.slots.length < q.act Reg.Turnout.SRC_MAX → s.yields (exec (.unitResync t l) s) fun n =>
         n.turn.slots = q.turn.slots ++ [u.src] ∧ (n.rxFlow u.src u.allot).granted = q.act Reg.Turnout.CRED 0 u.allot) ∧
     (w.takeUnit l (fun v => v.utype = 8) = some (m, u) → q.turn.slots.contains u.src = false →
       q.act Reg.Turnout.SRC_MAX ≤ q.turn.slots.length → s.yields (exec (.unitResync t l) s) fun n =>
         (n.rxFlow u.src u.allot).granted = 0 ∧ n.told .turnout 0 0x3018) ∧
     (w.takeUnit l (fun v => v.utype = 9) = some (m, u) →
       (m.txFlow u.src u.allot).st ≠ 2 ∨ unitEpoch u ≠ (m.txFlow u.src u.allot).epoch →
       exec (.unitResyncAck t l) s = s.done m) ∧
     (w.takeUnit l (fun v => v.utype = 9) = some (m, u) → (m.txFlow u.src u.allot).st = 2 →
       unitEpoch u = (m.txFlow u.src u.allot).epoch → u.credRet ≠ 0 →
       s.yields (exec (.unitResyncAck t l) s) fun n => (n.txFlow u.src u.allot).st = 1 ∧
         (n.txFlow u.src u.allot).lastTide = n.tide ∧ (n.txFlow u.src u.allot).refused = false) ∧
     (w.takeUnit l (fun v => 13 ≤ v.utype || v.utype = 11 || v.utype = 0) = some (m, u) →
       exec (.unitBad t l) s = s.done (m.inc Reg.Turnout.BAD_UNITS)) ∧
     (∀ rest o, (w.link l).arr = u :: rest → w.forMe u = false → u.hops ≠ 15 → w.pathLink (u.dst % 64) = some o →
       (w.link o).transit.length < 1024 →
       s.yields (exec (.unitTransit t l) s) fun n => (n.link o).transit = (w.link o).transit ++ [{ u with hops := u.hops + 1 }]) ∧
     (∀ rest, (w.link l).arr = u :: rest → w.forMe u = false → u.hops ≠ 15 → w.pathLink (u.dst % 64) = none →
       exec (.unitTransit t l) s = s.done ((w.modLink l fun x => { x with arr := rest }).transitDrop l)) ∧
     (∀ rest, (w.link l).arr = u :: rest → w.forMe u = false → u.hops = 15 →
       s.yields (exec (.unitTransit t l) s) fun n => (n.link l).arr = rest ∧ n.told .turnout 0 0x301A)) ∧
  (∀ (t : Nat) (d : Fin 64) (a : Fin 16) (g : Fin 4096) (s : State), s.live →
     let w := s.now t
     (∀ r, (w.turn.buf.find? fun q => q.unit.src = d.val && q.unit.allot = a.val) = some r →
       (w.fencedWrite (unitTag r.unit r.arrived) = true → w.tractHeld (r.unit.line % 2 ^ 40) = false → (w.newTag 4).isSome = true →
         ∃ (m : Mach) (k : Nat), m.turn.buf = w.turn.buf.erase r ∧
           exec (.fabricRelease t d a) s = s.done (m.fenceReq 4 k (tRegion (w.entryOf (r.unit.line % 2 ^ 40))))) ∧
       (w.fencedWrite (unitTag r.unit r.arrived) = false → w.poolOpen (unitTag r.unit r.arrived) = true → (w.newTag 4).isSome = true → w.tractHeld (r.unit.line % 2 ^ 40) = false →
       (r.unit.utype = 2 ∨ r.unit.utype = 3 → w.writeBlocked 4 (r.unit.line % 2 ^ 40) = false) →
       (r.unit.utype ≠ 12 → ∃ (m : Mach) (k : Nat) (x : Tag), m.turn.buf = w.turn.buf.erase r ∧ m.tag? 4 k = some x ∧ x.st = .accepted ∧
         x.op = (unitTag r.unit r.arrived).op ∧ x.line = r.unit.line % 2 ^ 40 ∧ x.src = r.unit.src ∧ x.xid = r.unit.xid ∧
         exec (.fabricRelease t d a) s = s.done ((m.route 4 k).peakQueue x.line)) ∧
       (r.unit.utype = 12 → ∃ (m : Mach) (dl : Nat), m.turn.buf = w.turn.buf.erase r ∧
         exec (.fabricRelease t d a) s = s.done (m.cohCrdBy (unitCoh r.unit) dl)))) ∧
     (∀ x, w.tag? 4 g = some x → x.op.reads = true → x.st = .accepted → x.deadline ≤ w.tide →
       exec (.ownerDeadline t g) s = s.done ((w.dropWait 4 g).answer 4 g poisonData 1 x.stage)) ∧
     (∀ v, (w.rxFlow d a).due = some v → v + w.rd Reg.Turnout.FACK_NS ≤ w.tide →
       exec (.fackTimer t d a) s = s.done (w.sendFack d a)) ∧
     ((w.txFlow d a).st = 1 → (w.txFlow d a).out ≠ 0 → (w.txFlow d a).moved + w.act Reg.Turnout.CRED_TIMEOUT_US * 1000 ≤ w.tide →
       ∃ m : Mach, exec (.credTimeout t d a) s = s.done (m.pathFails d 2) ∧ m.told .turnout 0 0x3015 ∧
         (m.txFlow d a).timeouts = min ((w.txFlow d a).timeouts + 1) (2 ^ 32 - 1)) ∧
     ((w.txFlow d a).st = 2 → (w.txFlow d a).resyncAt + w.act Reg.Turnout.CRED_TIMEOUT_US * 1000 ≤ w.tide →
       exec (.resyncAckTimeout t d a) s = s.done (w.pathFails d 2)))

/-- The coherence operations that arrive on a link complete: each acts as its operation is defined (R389 to R392). The directory's holds, sweeps
and timers and the life of a region complete (R382, R385, R391 to R394). -/
def Obligations.SharedRegionsComplete : Prop :=
  (∀ (t : Nat) (l : Fin 8) (m : Mach) (u : FUnit) (s : State), s.live →
     let w := s.now t
     let next := fun k => w.takeSeq l (fun v => v.utype = 12 && v.be % 256 = k) = (m, some u)
     (next 1 → s.yields (exec (.cohCrd t l) s) fun n => n.turn.buf = w.turn.buf ++ [⟨u, w.tide⟩]) ∧
     (next 2 → exec (.cohEvict t l) s = s.done ((m.quickCredit u).cohEvict (unitCoh u))) ∧
     (next 3 → exec (.cohBisnp t l) s = s.done ((m.quickCredit u).cohBisnp (unitCoh u))) ∧
     (next 4 → exec (.cohBirsp t l) s = s.done (m.cohBirsp (unitCoh u))) ∧
     (∀ p g x, next 5 → m.xidTag u.xid = some (p, g, x) → x.st = .accepted → x.coh ≠ none → u.code = 0 → u.lc = unitLc u.data u.line →
       (x.op = .memRd → exec (.cohGrant t l) s =
         s.done (m.answer p g (.memData (if u.be.testBit 32 then u.data else 0) false (u.be / 2 ^ 8 % 4)) 0 6)) ∧
       (x.op = .memInv → exec (.cohGrant t l) s = s.done (m.answer p g .cmpE 0 6)) ∧
       (x.op = .memWr → exec (.cohGrant t l) s = s.done (m.rightGranted p g))) ∧
     (next 5 → exec (.cohGrant t l) s = s.done (m.cohGranted (unitCoh u))) ∧
     (next 6 → exec (.cohAgentDown t l) s = s.done (m.cohAgentDown (unitCoh u))) ∧
     (next 7 → exec (.cohFence t l) s = s.done (m.cohFence (unitCoh u))) ∧
     (next 8 → exec (.cohReady t l) s = s.done (m.cohReady (unitCoh u))) ∧
     (∀ k, next 6 → m.cohMember (unitCoh u) = some k → exec (.cohAgentDown t l) s = s.done (m.tear (u.be / 2 ^ 24 % 32) 4 (some k))) ∧
     (∀ r, next 7 → m.proxyRegion u.src (u.be / 2 ^ 24 % 32) = some r → m.regRole r = 2 →
       exec (.cohFence t l) s = s.done (m.tear r 7 none)) ∧
     (∀ r, next 8 → m.regRole (u.be / 2 ^ 24 % 32) ≠ 1 → m.proxyRegion u.src (u.be / 2 ^ 24 % 32) = some r → m.regRole r = 2 →
       m.regState r = 1 → r < 32 → ∃ n : Mach, n.regState r = 2 ∧ n.told .shared 0 0x3410 ∧
         exec (.cohReady t l) s = s.done (n.sendCoh u.src 0 8 0 0 (u.be / 2 ^ 24 % 32) 0 0 0 0 none))) ∧
  (∀ (t line : Nat) (src : Source) (r : Fin 32) (k : Fin 8) (s : State), s.live →
     let w := s.now t
     let n := s.noted t .shared 0 src
     (∀ e, w.dirEnt line = some e → e.state = 2 → w.inHold e = false →
       ∃ ls : List Nat, exec (.holdEnd t line) s = s.done ((w.serve line).each ls fun m x => m.serve x)) ∧
     s.yields (exec (.dirSweep t) s) (fun m => m.shared.dir = w.shared.dir.map fun e =>
       if e.2.state = 2 && !w.inHold e.2 then (e.1, { e.2 with aged := true }) else e) ∧
     (∀ q, (w.shared.snoops.find? fun x => x.line = line && x.member = k.val) = some q → q.sent = true →
       q.tide + w.act Reg.Shared.BI_TIMEOUT_US 0 q.region * 1000 ≤ w.tide →
       ∃ m : Mach, exec (.biTimeout t line k) s = s.done (m.tear q.region 2 (some k)) ∧ m.told .shared 0 0x3413) ∧
     (w.regState r = 1 → w.regRole r = 1 → (w.reg r).readyAt + 1000000 ≤ w.tide →
       s.yields (exec (.readyResend t r) s) fun m => (m.reg r).readyAt = m.tide) ∧
     (s.canWrite src → exec (.regionTear t src r) s = s.done (n.tear r 5 none) ∧
       (n.regState r = 4 → exec (.regionReform t src r) s = s.done (n.form r)) ∧
       (n.regState r ≠ 4 → exec (.regionReform t src r) s = s.done n)))

/-! ### The Twin -/

/-- The records of the stream complete (R402 to R409, R422 to R426, R428, R429): each is taken from its place in the sequence and acts as its
operation is defined. -/
def Obligations.StreamRecordsComplete : Prop :=
  ∀ (t : Nat) (m : Mach) (r : TwRec) (s : State), s.live →
    let w := s.now t
    let next := fun op => w.takeS op = some (m, r)
    (∀ n, w.mirrorOn = true → m.peerWrite r.line r.data (BitVec.allOnes 64) (recOk r) = some n →
      (next 0x01 → exec (.twinMirror t) s = s.done n) ∧
      (next 0x03 → exec (.twinFwd t) s = s.done ((n.inc Reg.Twin.FWD_WRITES).twSend { op := 0x06, line := r.line }))) ∧
    (w.mirrorOn = true → m.peerWrite r.line r.data (BitVec.allOnes 64) (recOk r) = none →
      (next 0x01 → exec (.twinMirror t) s = s.done w) ∧ (next 0x03 → exec (.twinFwd t) s = s.done w)) ∧
    (w.mirrorOn = false → (next 0x01 → exec (.twinMirror t) s = s.done m) ∧ (next 0x03 → exec (.twinFwd t) s = s.done m)) ∧
    (next 0x02 → s.yields (exec (.twinMirrorP t) s) fun n => n.twin.pend = some r) ∧
    (next 0x04 → s.yields (exec (.twinFwdP t) s) fun n => n.twin.pend = some r) ∧
    (∀ n q, next 0x05 → w.mirrorOn = true → w.twin.pend = some q →
      (m.modTwin fun x => { x with pend := none }).peerWrite q.line q.data (r.data.setWidth 64) (recOk q && recOk r) = some n →
      (q.op ≠ 4 → exec (.twinMask t) s = s.done n) ∧
      (q.op = 4 → exec (.twinMask t) s = s.done ((n.inc Reg.Twin.FWD_WRITES).twSend { op := 0x06, line := q.line }))) ∧
    (∀ f rest, next 0x06 → m.twin.fwd = f :: rest →
      exec (.twinOrdered t) s = s.done (((m.modTwin fun x => { x with fwd := rest }).orderFwd f).detachCheck)) ∧
    (next 0x0B → m.fsm .twin = 3 → m.flag Reg.Twin.RS_SOURCE = false →
      let n := (m.takeFb 2).wr Reg.Twin.RS_BOUNDARY (r.line + 1)
      let q := n.copySeen r.line
      let same := lc32 (lineBytes q.val.data) (dpaWord r.line) = r.lc
      (q.ok = true → q.blank = false → q.ver = r.arg → q.val.poison = false → same →
        exec (.twinCopy t) s = s.done (n.inc Reg.Twin.RS_SKIPPED)) ∧
      (q.ok = false ∨ q.blank = true ∨ q.ver ≠ r.arg ∨ q.val.poison = true ∨ ¬ same →
        exec (.twinCopy t) s = s.done (n.rsStore r.line (freshVal r.line r.data (!recOk r)) r.arg))) ∧
    (next 0x0C → m.fsm .twin = 3 → m.flag Reg.Twin.RS_SOURCE = false →
      let n := (m.takeFb 2).wr Reg.Twin.RS_BOUNDARY (r.line + 1)
      let q := n.copySeen r.line
      let same := lc32 (lineBytes q.val.data) (dpaWord r.line) = r.lc
      (q.ok = true → q.ver = r.arg → q.blank = false → q.val.poison = true → same →
        exec (.twinCopyPoison t) s = s.done (n.inc Reg.Twin.RS_SKIPPED)) ∧
      (q.ok = true → q.ver = r.arg → q.val.poison = false → q.blank = false → exec (.twinCopyPoison t) s = s.done
        (n.twSend { op := 0x11, line := r.line, arg := r.arg, data := q.val.data, lc := unitLc q.val.data r.line })) ∧
      (q.ok = false ∨ q.ver ≠ r.arg ∨ q.blank = true ∨ (q.val.poison = true ∧ ¬ same) → exec (.twinCopyPoison t) s =
        s.done ((n.rsStore r.line { data := r.data, poison := true } r.arg).recordPoison r.line 1))) ∧
    (next 0x0D → m.fsm .twin = 3 → m.flag Reg.Twin.RS_SOURCE = false →
      let n := (m.takeFb 2).wr Reg.Twin.RS_BOUNDARY (r.line + 1)
      let q := n.copySeen r.line
      (q.ok = true → q.blank = true → q.val.poison = false → exec (.twinCopyBlank t) s = s.done (n.inc Reg.Twin.RS_SKIPPED)) ∧
      (q.ok = false ∨ q.blank = false ∨ q.val.poison = true →
        (∀ pl, n.linePl r.line = some pl → exec (.twinCopyBlank t) s =
          s.done (((((n.takeFb 2).putImage pl (blankImage pl)).fixParity pl).updateCistern r.line (freshVal r.line 0 false)).inc
            Reg.Twin.RS_COPIED)) ∧
        (n.linePl r.line = none → exec (.twinCopyBlank t) s = s.done (n.rsStore r.line (freshVal r.line 0 false) 0)))) ∧
    (m.fsm .twin ≠ 3 ∨ m.flag Reg.Twin.RS_SOURCE = true → (next 0x0B → exec (.twinCopy t) s = s.done m) ∧
      (next 0x0C → exec (.twinCopyPoison t) s = s.done m) ∧ (next 0x0D → exec (.twinCopyBlank t) s = s.done m)) ∧
    (∀ w64, next 0x0E → r.data.toNat % 2 ^ 64 = w64 →
      (w64 = 0 → s.yields (exec (.twinDir t) s) fun n => n.dirEnt r.line = none) ∧
      (w64 ≠ 0 → s.yields (exec (.twinDir t) s) fun n => ∃ e, n.dirEnt r.line = some e ∧ e.state = bits w64 24 23 ∧
        e.region = bits w64 29 25 ∧ e.holders = bits w64 37 30 ∧ e.aged = w64.testBit 38)) ∧
    (∀ pl, next 0x11 → m.fsm .twin = 3 → m.flag Reg.Twin.RS_SOURCE = true → recOk r = true →
      let n := (m.takeFb 2).inc Reg.Twin.RS_REVERSE
      n.linePl r.line = some pl → exec (.twinReverse t) s =
        s.done (((n.storeInternal r.line pl (freshVal r.line r.data false) r.arg).updateCistern r.line
          (freshVal r.line r.data false)).clearPrec r.line)) ∧
    (next 0x12 → s.yields (exec (.twinMap t) s) fun n => n.twin.peerAway = addPlots m.twin.peerAway
      (((List.range 512).filter fun k => r.data.getLsbD k).map fun k => (r.line * 2 ^ 16 + r.arg) * 64 + k)) ∧
    (next 0x13 → m.fsm .twin = 3 → s.yields (exec (.twinPaired t) s) fun n => n.twin.handover = true) ∧
    (next 0x14 → recOk r = true →
      (r.data.toNat / 2 ^ 24 % 2 = 0 → exec (.twinCoh t) s = s.done (m.peerCoh (recCoh r none))) ∧
      (r.data.toNat / 2 ^ 24 % 2 = 1 → s.yields (exec (.twinCoh t) s) fun n => n.twin.pend = some r)) ∧
    (∀ q, next 0x15 → m.twin.pend = some q → q.op = 0x14 → recOk r = true →
      exec (.twinCohData t) s = s.done ((m.modTwin fun x => { x with pend := none }).peerCoh (recCoh q (some r.data))))

/-- The records outside the sequence complete (R402 to R405, R411, R413, R416, R421, R422). Detaching, fencing and the resilver complete (R415,
R418, R419, R422 to R426). -/
def Obligations.TwinCompletes : Prop :=
  (∀ (t n : Nat) (errs : List (BitVec 640)) (bad : Bool) (m : Mach) (r : TwRec) (s : State), s.live →
     let w := s.now t
     let has := fun op => w.takeU op = some (m, r)
     (has 0x07 → ∃ (k : Mach) (acts : List TokAct), exec (.twinAck t) s = s.done ((k.each acts fun m a => m.tokDone a).detachCheck) ∧
       k.twin.held = (m.twin.held.filter fun h => !seqLe h.seq (r.data.toNat % 2 ^ 32)) ∧
       k.rd Reg.Twin.TX_CRED = min (m.rd Reg.Twin.TX_CRED + r.data.toNat / 2 ^ 32 % 2 ^ 16) (m.act Reg.Twin.CREDITS) %
         2 ^ Reg.Twin.TX_CRED.width) ∧
     (∀ v l, has 0x08 → let k := (m.inc Reg.Twin.REFETCH_SERVED).takeFb 2
       k.mergedVal r.line k.order none = some v → k.twinUp.head? = some l →
       (v.poison = false → exec (.twinRefetchReq t errs bad) s =
         s.done (k.twNow l { op := 0x09, line := r.line, arg := r.arg, data := v.data, lc := unitLc v.data r.line })) ∧
       (v.poison = true → exec (.twinRefetchReq t errs bad) s = s.done (k.twNow l { op := 0x0A, line := r.line, arg := r.arg }))) ∧
     (∀ k₂ v l, has 0x08 → let k := (m.inc Reg.Twin.REFETCH_SERVED).takeFb 2
       k.mergedVal r.line k.order none = none → k.tryRead r.line errs bad = (k₂, .ok v) → k₂.twinUp.head? = some l →
       let u := (k₂.mergedVal r.line k₂.order (some v)).getD v
       (r.came + 140 < m.tide ∨ u.poison = true → exec (.twinRefetchReq t errs bad) s =
         s.done (k₂.twNow l { op := 0x0A, line := r.line, arg := r.arg })) ∧
       (m.tide ≤ r.came + 140 → u.poison = false → exec (.twinRefetchReq t errs bad) s =
         s.done (k₂.twNow l { op := 0x09, line := r.line, arg := r.arg, data := u.data, lc := unitLc u.data r.line }))) ∧
     (∀ q, (m.twin.refetch.find? fun y => y.num = r.arg) = some q →
       (∀ c, has 0x09 → recOk r = true → Tbl.find m.lev.chains q.chain = some c →
         ∃ k : Mach, exec (.twinRefetchRsp t) s =
             s.done (k.chainOk q.chain c 3 (freshVal c.line r.data false) (k.image c.pl).ver ((k.image c.pl).flg / 4 % 2 * 4)) ∧
           k.twin.refetch = m.twin.refetch.filter fun y => y.num != q.num) ∧
       (has 0x09 → recOk r = false → exec (.twinRefetchRsp t) s = s.done (m.refetchEnd q 0)) ∧
       (has 0x0A → q.left ≤ 1 → exec (.twinRefetchFail t) s = s.done (m.refetchEnd q 0)) ∧
       (has 0x0A → 1 < q.left → s.yields (exec (.twinRefetchFail t) s) fun k => k.twin.refetch =
         m.twin.refetch.map fun y => if y.num = q.num then { y with left := y.left - 1 } else y)) ∧
     (∀ h, has 0x0F → r.hello = some h →
       let k := m.helloSeen h
       (k.fsm .twin = 4 → h.adm = k.admDigest → h.mir = k.mirrorDigest → exec (.twinHello t) s = s.done (k.wb Reg.Twin.ADM_MISMATCH false)) ∧
       (k.fsm .twin = 1 ∨ k.fsm .twin = 5 ∨ k.fsm .twin = 7 → h.st % 8 ≠ 6 → k.pairRefuse h ≠ 0 →
         s.yields (exec (.twinHello t) s) fun n => n.fsm .twin = k.fsm .twin ∧ n.told .twin 0 0x3814) ∧
       (k.fsm .twin = 2 → h.st % 8 ≠ 6 → k.pairRefuse h ≠ 0 →
         s.yields (exec (.twinHello t) s) fun n => n.fsm .twin = (if k.twin.soloEpoch.isSome then 5 else 1) ∧ n.told .twin 0 0x3814) ∧
       (k.fsm .twin = 1 ∨ k.fsm .twin = 5 → h.st % 8 ≠ 6 → k.pairRefuse h = 0 → h.st < 8 →
         s.yields (exec (.twinHello t) s) fun n => n.fsm .twin = 2 ∧ n.twin.hello = some h) ∧
       (k.fsm .twin = 1 ∨ k.fsm .twin = 5 → h.st % 8 ≠ 6 → k.pairRefuse h = 0 → 8 ≤ h.st → ∃ n : Mach, n.twin.peerLink = h.content ∧
         exec (.twinHello t) s = s.done (n.beginPair ((k.wr Reg.Twin.PAIR_REFUSE 0).decidePair h))) ∧
       (k.fsm .twin = 2 → h.st % 8 ≠ 6 → k.pairRefuse h = 0 → ∃ n : Mach, n.twin.peerLink = h.content ∧
         exec (.twinHello t) s = s.done (n.beginPair ((k.wr Reg.Twin.PAIR_REFUSE 0).decidePair h)))) ∧
     (has 0x10 → exec (.twinLeave t) s = s.done (m.peerLost 3)) ∧
     (∀ q, (w.twin.urx.find? fun y => 0x15 < y.op) = some q → s.yields (exec (.twinBadRecord t) s) fun k =>
       k.twin.urx = w.twin.urx.erase q ∧
       k.rd Reg.Turnout.BAD_UNITS = min (w.rd Reg.Turnout.BAD_UNITS + 1) (2 ^ Reg.Turnout.BAD_UNITS.width - 1)) ∧
     (∀ q, (w.twin.refetch.find? fun y => y.num = n) = some q → q.tide + 300 ≤ w.tide →
       exec (.refetchBudgetExpiry t n) s = s.done (w.refetchEnd q 1)) ∧
     (∀ q rest, (w.twin.held.filter fun y => y.tide + y.diverse ≤ w.tide) = q :: rest →
       exec (.diverseTimeout t) s = s.done (w.divertAll q.link (q :: rest))) ∧
     (w.mirrorOn = true → w.rd Reg.Twin.LAST_RX_TIDE + w.act Reg.Twin.LOSS_US * 1000 ≤ w.tide →
       exec (.lossTimeout t) s = s.done (w.peerLost 1)) ∧
     (w.coreAway = false → w.fsm .twin = 1 ∨ w.fsm .twin = 5 ∨ w.fsm .twin = 6 →
       exec (.twinHelloPeriodic t) s = s.done w.showDigests.sendHello)) ∧
  (∀ (t : Nat) (src : Source) (errs : List (BitVec 640)) (bad : Bool) (s : State), s.live →
     let w := s.now t
     let n := s.noted t .twin 0 src
     (s.canWrite src →
       (n.mirrorOn = false → exec (.twinDetach t src 0) s = s.done n) ∧
       (n.mirrorOn = true → exec (.twinDetach t src 0) s = s.done ((n.modTwin fun x => { x with detaching := some 1 }).detachCheck)) ∧
       (∀ m, m = (s.woken t).wr (Reg.Hdr.HALT .twin) 1 →
         (m.mirrorOn = false → exec (.twinDetach t src 1) s = s.done (m.reachHalted .twin 0)) ∧
         (m.mirrorOn = true → exec (.twinDetach t src 1) s = s.done ((m.modTwin fun x => { x with detaching := some 2 }).detachCheck))) ∧
       (∀ m, m = (s.woken t).wr (Reg.Hdr.ENABLE .twin) 0 →
         (m.mirrorOn = false → exec (.twinDetach t src 2) s = s.done (m.setFsm .twin 0)) ∧
         (m.mirrorOn = true → exec (.twinDetach t src 2) s = s.done ((m.modTwin fun x => { x with detaching := some 3 }).detachCheck))) ∧
       exec (.resilverGo t src) s = s.done n.startResilver ∧
       s.yields (exec (.resilverFull t src) s) (fun m => m.twin.full = true) ∧
       (n.fsm .twin = 7 → s.yields (exec (.twinUnfence t src) s) fun m => m.fsm .twin = 5 ∧
         m.twin.soloEpoch = some (n.rd Reg.Twin.PAIR_EPOCH))) ∧
     (w.fsm .twin = 3 → w.flag Reg.Twin.RS_SOURCE = true → w.twin.started = true → w.twin.handover = false → w.hasFb 2 = true →
       w.rd Reg.Twin.RS_RATE_LINES = 0 ∨ w.twin.rsUsed < w.rd Reg.Twin.RS_RATE_LINES →
       (w.nextMirrored (w.rd Reg.Twin.RS_BOUNDARY) = none →
         s.yields (exec (.resilverLineSend t errs bad) s) fun m => m.twin.handover = true) ∧
       (∀ line, w.nextMirrored (w.rd Reg.Twin.RS_BOUNDARY) = some line → w.tractHeld line = false →
         (w.lev.chains.any fun c => c.2.line = line) = false →
         (w.stepStart 2 line 0 1 = none → exec (.resilverLineSend t errs bad) s = s.done (w.stepWait 2 1)) ∧
         ∀ m₁ m x, w.stepStart 2 line 0 1 = some m₁ → m₁.rsRead line errs bad = (m, x) →
         let sent := fun (op arg : Nat) (d : Line) => s.yields (exec (.resilverLineSend t errs bad) s) fun k =>
           k.rd Reg.Twin.RS_BOUNDARY = (line + 1) % 2 ^ Reg.Twin.RS_BOUNDARY.width ∧
           ∃ q, k.twin.want.getLast? = some q ∧ q.r.op = op ∧ q.r.line = line ∧ q.r.arg = arg ∧ q.r.data = d
         (x = .blank → sent 0x0D 0 0) ∧
         (∀ v ver, x = .val v ver → v.poison = true → sent 0x0C (ver % 2 ^ 16) v.data) ∧
         (∀ v ver, x = .val v ver → v.poison = false → sent 0x0B (ver % 2 ^ 16) v.data) ∧
         (∀ f, x = .bad f → exec (.resilverLineSend t errs bad) s = s.done (m.takeTry .repair line m.order f)))) ∧
     (w.fsm .twin = 3 → w.twin.handover = true → w.twin.fwd = [] → w.twin.toks = [] → w.twin.want = [] → w.twin.held = [] →
       s.yields (exec (.pairedHandoverDone t) s) fun m => m.fsm .twin = 4 ∧ m.mirrorOn = true ∧ m.twin.away = [] ∧
         m.told .twin 0 0x3810 ∧ m.rd Reg.Twin.PAIR_EPOCH =
           (max (w.rd Reg.Twin.PAIR_EPOCH) (w.rd Reg.Twin.PEER_EPOCH) + 1) % 2 ^ Reg.Twin.PAIR_EPOCH.width))

/-! ### Sluices and power states -/

/-- A decision cycle takes its sample in and acts on it, after a waiting exchange of curves; the sample shows presence and voltage and runs the
fault timer: it runs while the gate is on and the current is above the first point of the curve in force, and is 0 at its start (R436, R438,
R439, R455). -/
def Obligations.SampleCompletes : Prop :=
  ∀ (t : Nat) (c : Fin 10) (prsnt : Bool) (code v vin : Nat) (tj : Int) (reg : Bool) (s : State), s.live →
    (s.now t).islandDown 38 = false →
    let w := if ((s.now t).slu c).swapWant then (s.now t).swapCurves c else s.now t
    let n := (s.now t).sampleIn c prsnt code v vin tj reg
    let i := if c.val < 8 then senseMa (code % 2 ^ 14) (w.act Reg.Sluice.RSENSE_UOHM c) else code
    exec (.sluiceSample t c prsnt code v vin tj reg) s = s.done (n.sampleActs c) ∧
    n.flag Reg.Sluice.PRSNT c = prsnt ∧ n.rd Reg.Sluice.V_CODE c = min v 16383 ∧ (n.slu c).i = i ∧
    (w.flag Reg.Sluice.GATE_ON c = true → w.act Reg.Sluice.CURVE_MA c 0 < i → w.flag Reg.Sluice.FAULT_RUN c = true →
      n.rd Reg.Sluice.FAULT_US c = min (w.rd Reg.Sluice.FAULT_US c + 1) (2 ^ Reg.Sluice.FAULT_US.width - 1)) ∧
    (w.flag Reg.Sluice.GATE_ON c = true → w.act Reg.Sluice.CURVE_MA c 0 < i → w.flag Reg.Sluice.FAULT_RUN c = false →
      n.flag Reg.Sluice.FAULT_RUN c = true ∧ n.rd Reg.Sluice.FAULT_US c = 0) ∧
    (w.flag Reg.Sluice.GATE_ON c = false ∨ i ≤ w.act Reg.Sluice.CURVE_MA c 0 →
      n.flag Reg.Sluice.FAULT_RUN c = false ∧ n.rd Reg.Sluice.FAULT_US c = 0)

/-- What a trip leaves: its reason, event 0x3C11, a cool-down, and RETRY_WAIT, or LATCHED with event 0x3C12 once the count is past `RETRY_MAX`
(R447, R448). The channels' own events complete (R438, R441 to R443, R446 to R450, R436); while island 38 is down they wait (R455). The
requests to a channel complete (R437, R439, R445, R449, R451, R452); channels 8 and 9 turn a host port's away, and count them (R435). -/
def Obligations.SluicesComplete : Prop :=
  (∀ (m : Mach) (c : Fin 10) (reason a : Nat), 1 ≤ reason → reason ≤ 6 →
     let n := m.trip c reason a
     n.rd Reg.Sluice.TRIP_REASON c = reason ∧ n.told .sluice c 0x3C11 ∧ (n.slu c).cdOn = true ∧
     (n.rd Reg.Sluice.TRIP_COUNT c ≤ n.act Reg.Sluice.RETRY_MAX c → n.fsm .sluice c = 5 ∧ n.flag Reg.Sluice.RETRY_PENDING c = true) ∧
     (n.act Reg.Sluice.RETRY_MAX c < n.rd Reg.Sluice.TRIP_COUNT c → n.fsm .sluice c = 6 ∧ n.flag Reg.Sluice.RETRY_PENDING c = false ∧
       n.flag Reg.Sluice.ON_WANTED c = false ∧ n.told .sluice c 0x3C12)) ∧
  (∀ (t : Nat) (c : Fin 10) (s : State), s.live →
     let w := s.now t
     (w.islandDown 38 = true → ∀ i ∈ [Instr.curveTrip t c, .uvTrip t c, .debounceComplete t c, .inrushTimeout t c, .pgTimeout t c,
       .cooldownEnd t c, .removalDeclared t c, .presenceDetected t c, .goodOnTime10s t c, .sluiceMeanUpdate t c], exec i s = s.done w) ∧
     (w.flag Reg.Sluice.GATE_ON c = true →
       (w.islandDown 38 = false → exec (.scComparator t c) s = s.done (w.trip c 2 (w.attemptUs c 2))) ∧
       (w.islandDown 38 = true → s.yields (exec (.scComparator t c) s) fun m => (m.slu c).scPend = true ∧ m.flag Reg.Sluice.GATE_ON c = false)) ∧
     (w.islandDown 38 = false →
     (w.tripDue c = some 1 → exec (.curveTrip t c) s = s.done (w.takeDue c)) ∧
     (w.tripDue c = some 5 → exec (.uvTrip t c) s = s.done (w.takeDue c)) ∧
     (w.fsm .sluice c = 2 → (w.slu c).debStart + w.act Reg.Sluice.DEBOUNCE_MS c * 1000000 ≤ w.tide → w.coolEnough c = true →
       s.yields (exec (.debounceComplete t c) s) fun m => m.fsm .sluice c = 3 ∧ m.flag Reg.Sluice.GATE_ON c = true ∧
         (m.slu c).gateTide = m.tide ∧ m.told .sluice c 0x3C14) ∧
     (w.fsm .sluice c = 3 → w.act Reg.Sluice.INRUSH_MS c * 1000 < (w.slu c).regUs →
       exec (.inrushTimeout t c) s = s.done (w.trip c 3 (w.attemptUs c 3))) ∧
     (w.fsm .sluice c = 3 → (w.slu c).gateTide + w.act Reg.Sluice.PG_TIMEOUT_MS c * 1000000 ≤ w.tide →
       exec (.pgTimeout t c) s = s.done (w.trip c 4 (w.attemptUs c 4))) ∧
     ((w.slu c).cdOn = true → (w.slu c).cdEnd ≤ w.tide →
       (w.fsm .sluice c = 5 → w.coolEnough c = true →
         exec (.cooldownEnd t c) s = s.done ((w.modSlu c fun x => { x with cdOn := false }).gateOn c)) ∧
       (w.fsm .sluice c = 7 → exec (.cooldownEnd t c) s = s.done ((w.modSlu c fun x => { x with cdOn := false }).insert c)) ∧
       (w.fsm .sluice c ≠ 5 → w.fsm .sluice c ≠ 7 →
         exec (.cooldownEnd t c) s = s.done (w.modSlu c fun x => { x with cdOn := false }))) ∧
     (w.act Reg.Sluice.REMOVE_US c ≤ (w.slu c).gone → 3 ≤ w.fsm .sluice c → w.fsm .sluice c ≤ 5 →
       s.yields (exec (.removalDeclared t c) s) fun m => m.told .sluice c 0x3C13 ∧
         ((w.takeDue c).fsm .sluice c ≠ 6 → m.fsm .sluice c = 1)) ∧
     (w.fsm .sluice c = 1 → w.flag Reg.Sluice.PRSNT c = true → exec (.presenceDetected t c) s = s.done (w.insert c)) ∧
     (w.flag Reg.Sluice.PG c = true → (w.slu c).goodTide + 10000000000 ≤ w.tide → w.tripDue c = none →
       w.rd Reg.Sluice.TRIP_COUNT c ≠ 0 →
       s.yields (exec (.goodOnTime10s t c) s) fun m => m.rd Reg.Sluice.TRIP_COUNT c = 0 ∧ m.told .sluice c 0x3C18) ∧
     ((w.slu c).n ≠ 0 → s.yields (exec (.sluiceMeanUpdate t c) s) fun m => (m.slu c).n = 0 ∧
       m.rd Reg.Sluice.I_MA c = (w.slu c).sumI / (w.slu c).n % 2 ^ Reg.Sluice.I_MA.width ∧
       m.rd Reg.Sluice.V_MV c = (w.slu c).sumV / (w.slu c).n % 2 ^ Reg.Sluice.V_MV.width ∧
       m.rd Reg.Sluice.P_MW c = (w.slu c).sumP / (w.slu c).n % 2 ^ Reg.Sluice.P_MW.width ∧
       m.rd Reg.Sluice.VIN_MV c = (w.slu c).sumVin / (w.slu c).n % 2 ^ Reg.Sluice.VIN_MV.width ∧
       (8 ≤ c.val → m.rd Reg.Sluice.TJ c = tjCode ((w.slu c).sumTj / ((w.slu c).n : Int)))))) ∧
  (∀ (t : Nat) (src : Source) (c : Fin 10) (force : Bool) (s : State),
     let n := s.noted t .sluice c src
     (s.canWrite src → c.val < 8 ∨ 4 ≤ src.val →
       exec (.sluiceOnReq t src c) s = s.done (n.onReq c) ∧
       exec (.sluiceOffReq t src c force) s = s.done ((n.wb Reg.Sluice.OFF_FORCE force c).offReq c force) ∧
       exec (.sluiceUnlatch t src c) s = s.done (n.unlatch c) ∧
       exec (.curveSwap t src c) s = s.done (n.curveSwap c) ∧
       exec (.energyClr t src c) s = s.done (n.energyClr c) ∧
       exec (.sluiceDisable t src c) s = s.done (((s.woken t).wr (Reg.Hdr.ENABLE .sluice) 0 c).offAccepted c)) ∧
     (s.live → s.m.pw.st < 2 → 8 ≤ c.val → src.val < 4 →
       ∀ i ∈ [Instr.sluiceOnReq t src c, .sluiceOffReq t src c force, .sluiceUnlatch t src c, .curveSwap t src c, .energyClr t src c,
         .sluiceDisable t src c], exec i s = s.done ((s.woken t).blocked src)) ∧
     (∀ (m : Mach) (k : Nat), m.busyCanal c = some k →
       m.offReq c false = (m.inc Reg.Sluice.OFF_REFUSALS c).event .sluice c 0x3C17 c k) ∧
     (∀ m : Mach, m.fsm .sluice c = 6 → (m.unlatch c).fsm .sluice c = 0 ∧ (m.unlatch c).rd Reg.Sluice.TRIP_COUNT c = 0) ∧
     (∀ m : Mach, (m.curveSwap c).rd Reg.Sluice.SWAP_RESULT c = m.swapResult c ∧
       (m.swapResult c = 0 → ((m.curveSwap c).slu c).swapWant = true) ∧
       (m.swapResult c ≠ 0 → (m.curveSwap c).told .sluice c 0x3C16)))

/-- Votes, the entry into SLACK, FALLOW and DORMANT, and the exit complete (R460 to R471). -/
def Obligations.PowerCompletes : Prop :=
  ∀ (t mask : Nat) (src : Source) (target : Fin 4) (code : Fin 16) (s : State), s.live →
    let w := s.now t
    let n := s.noted t .power 0 src
    (s.canWrite src → exec (.voteSet t src mask) s = s.done (n.voteSet src (mask % 2 ^ 14)) ∧
      exec (.voteClr t src mask) s = s.done ((n.vote src (mask % 2 ^ 14) false).powerUpdate)) ∧
    (w.pw.st = 0 → w.pw.prep = none → w.pw.exitAt = none → 1 ≤ w.rd Reg.Power.DEEPEST →
      (∀ c ∈ [6, 7, 8, 9, 10, 11, 16, 17, 18, 19, 20, 21, 22, 23, 24, 25, 27], w.client c = false) →
      s.yields (exec (.slackEnter t) s) fun m => m.pw.st = 1 ∧ m.pw.since = m.tide) ∧
    (∀ c, w.pw.st = 0 → 1 ≤ w.rd Reg.Power.DEEPEST →
      [6, 7, 8, 9, 10, 11, 16, 17, 18, 19, 20, 21, 22, 23, 24, 25, 27].find? (fun k => w.client k) = some c →
      exec (.slackEnter t) s = s.done (w.wr Reg.Power.ENTRY_CLIENT c)) ∧
    (w.pw.st < 2 → w.pw.prep = none → w.pw.exitAt = none → 2 ≤ target.val → target.val ≤ w.rd Reg.Power.DEEPEST →
      (w.blocker target = none → target.val = 3 ∨ w.rd Reg.Power.DEEPEST ≠ 3 ∨ w.blocker 3 ≠ none →
        s.yields (exec (.stateEntryPrep t target) s) fun m => m.pw.prep = some target.val) ∧
      (target.val = 2 → w.rd Reg.Power.DEEPEST = 3 → w.blocker 3 = none → w.blocker 2 = none →
        exec (.stateEntryPrep t target) s = s.done w) ∧
      (∀ c, w.blocker target = some c → exec (.stateEntryPrep t target) s = s.done (w.wr Reg.Power.ENTRY_CLIENT c))) ∧
    (∀ k, w.pw.prep = some k → w.pw.commit = none →
      (w.blocker k = none → s.yields (exec (.voteCommit t) s) fun m => m.pw.commit = some m.tide ∧
        m.rd Reg.Power.PADS_HELD = w.padMask k) ∧
      (∀ c, w.blocker k = some c →
        exec (.voteCommit t) s = s.done ((w.wr Reg.Power.ENTRY_CLIENT c).abortEntry (16 + c)))) ∧
    (∀ k c, w.pw.prep = some k → w.pw.commit = some c → c + 240 ≤ w.tide →
      s.yields (exec (.isolation t) s) fun m => m.pw.st = k ∧ m.pw.prep = none ∧ m.pw.commit = none ∧ m.told .power 0 0x4010) ∧
    (w.pw.st = 1 → exec (.wake t code) s = s.done w.awake) ∧
    (w.wakeActs code = true → w.pw.exitAt = none →
      (w.pw.st = 0 → w.pw.commit = none → exec (.wake t code) s = s.done (w.abortEntry code)) ∧
      (w.pw.st = 0 → ∀ c, w.pw.commit = some c → levelSource code = true →
        s.yields (exec (.wake t code) s) fun m => m.pw.latched = some (w.pw.latched.getD code)) ∧
      (2 ≤ w.pw.st → exec (.wake t code) s = s.done (w.startExit code))) ∧
    (∀ k, w.pw.exitAt = some k →
      (k ≠ 2 → k ≠ 15 → s.yields (exec (.wakeSeqEntry t) s) fun m => m.pw.exitAt = some (k + 1)) ∧
      (k = 2 → ∃ m : Mach, m.pw.exitAt = some 3 ∧
        exec (.wakeSeqEntry t) s = s.done (m.each (List.range 10) fun m c => m.sluiceWake c)) ∧
      (k = 15 → s.yields (exec (.wakeSeqEntry t) s) fun m => m.pw.exitAt = none ∧ m.pw.st = 0 ∧
        m.pw.holdEnd = some (m.tide + m.rd Reg.Power.WAKE_HOLD_MS * 1000000))) ∧
    (∀ e, w.pw.holdEnd = some e → e ≤ w.tide → exec (.wakeHoldExpiry t) s =
      s.done { w with pw := { w.pw with holdEnd := none } }.powerUpdate)

/-! ### The Gauge Book -/

/-- The recorder queue has 512 entries, the last 32 for severities 5 and 6: an offer never takes it past its end, and an event of a lower
severity that finds 480 waiting is dropped and counted (R481). An event is recorded once: it merges into the open record of the same code,
instance, parameter 0 and parameter 1 within the window, which keeps its sequence and counts the repeat, at most 65,535 of them, or it takes
the next sequence in a record of its own, with its code and its parameters (R478, R482). -/
def Obligations.EventsRecorded : Prop :=
  (∀ (m : Mach) (e : Event), (m.gb.queue.length ≤ 512 → (m.offer e).gb.queue.length ≤ 512) ∧
     (severity e.code < 5 → m.gb.queue.length < 480 → (m.offer e).gb.queue = m.gb.queue ++ [e]) ∧
     (severity e.code < 5 → 480 ≤ m.gb.queue.length → (m.offer e).gb.queue = m.gb.queue ∧
       (m.offer e).rd Reg.Gauge.OFFER_DROPS = min (m.rd Reg.Gauge.OFFER_DROPS + 1) (2 ^ Reg.Gauge.OFFER_DROPS.width - 1)) ∧
     (5 ≤ severity e.code → m.gb.queue.length < 512 → (m.offer e).gb.queue = m.gb.queue ++ [e])) ∧
  (∀ (m : Mach) (e : Event),
     (∀ r, m.mergeInto e = some r ↔ m.gb.isOpen = true ∧ e.tide ≤ m.gb.lastOcc + m.rd Reg.Gauge.REPEAT_WINDOW_MS * 1000000 ∧
       Tbl.find m.gb.ring (m.rd Reg.Gauge.SEQ_HEAD) = some r ∧ r.rep < 65535 ∧ r.code = e.code ∧ r.inst = e.inst ∧ r.p0 = e.p0 ∧
       r.p1 = e.p1) ∧
     (∀ r, m.mergeInto e = some r → (m.record e).rd Reg.Gauge.SEQ_HEAD = m.rd Reg.Gauge.SEQ_HEAD ∧
       Tbl.find (m.record e).gb.ring r.seq = some { r with rep := r.rep + 1, p2 := e.p2 } ∧
       (m.record e).gb.isOpen = decide (r.rep + 1 ≠ 65535) ∧ (m.record e).gb.lastOcc = e.tide) ∧
     (m.mergeInto e = none →
       (m.record e).rd Reg.Gauge.SEQ_HEAD = (m.rd Reg.Gauge.SEQ_HEAD + 1) % 2 ^ 64 ∧ (m.record e).gb.isOpen = true ∧
       ∃ r, Tbl.find (m.record e).gb.ring ((m.rd Reg.Gauge.SEQ_HEAD + 1) % 2 ^ 64) = some r ∧
         r.seq = (m.rd Reg.Gauge.SEQ_HEAD + 1) % 2 ^ 64 ∧ r.code = e.code ∧ r.inst = e.inst ∧ r.p0 = e.p0 ∧ r.p1 = e.p1 ∧ r.p2 = e.p2 ∧
         r.rep = 0 ∧ r.sev = severity e.code ∧ r.ops = m.opsAt e.tide))

/-- A write of `READ_SEQ` copies the record of that sequence into `REC_W0` to `REC_W3`: status 1 for a record in the ring, 2 for one still open,
3 below the floor or no longer held and 4 above the newest, the words then 0; 0 while flash is read, whose end shows the record with status
1. -/
def Obligations.ReadSeqAnswers : Prop :=
  (∀ (t : Nat) (src : Source) (seq : Nat) (s : State), s.canWrite src →
    exec (.readSeq t src seq) s = s.done ((s.noted t .gauge 0 src).readSeq (seq % 2 ^ 64))) ∧
  (∀ (t q : Nat) (r : Rec) (s : State), s.live → (s.now t).gb.readWait = some q → (s.now t).gb.inFlash q = some r →
    (s.now t).rd Reg.Gauge.SEQ_FLOOR ≤ q →
    exec (.flashReadDone t) s = s.done (((s.now t).modGb fun g => { g with readWait := none }).showRec (some r) 1)) ∧
  (∀ (m : Mach) (r : Option Rec) (k : Nat), k < 5 →
    let w := fun n => match r with | some r => recWord r n % 2 ^ 64 | none => 0
    (m.showRec r k).rd Reg.Gauge.READ_STATUS = k ∧ (m.showRec r k).rd Reg.Gauge.REC_W0 = w 0 ∧ (m.showRec r k).rd Reg.Gauge.REC_W1 = w 1 ∧
    (m.showRec r k).rd Reg.Gauge.REC_W2 = w 2 ∧ (m.showRec r k).rd Reg.Gauge.REC_W3 = w 3) ∧
  (∀ (m : Mach) (seq : Nat), let n := (m.wr Reg.Gauge.READ_SEQ seq).modGb fun g => { g with readWait := none }
    (m.rd Reg.Gauge.SEQ_HEAD < seq → m.readSeq seq = n.showRec none 4) ∧
    (seq ≤ m.rd Reg.Gauge.SEQ_HEAD → seq < m.rd Reg.Gauge.SEQ_FLOOR → m.readSeq seq = n.showRec none 3) ∧
    (seq ≤ m.rd Reg.Gauge.SEQ_HEAD → m.rd Reg.Gauge.SEQ_FLOOR ≤ seq →
      (∀ r, Tbl.find m.gb.ring seq = some r →
        (m.gb.isOpen = true → seq = m.rd Reg.Gauge.SEQ_HEAD → m.readSeq seq = n.showRec (some r) 2) ∧
        (m.gb.isOpen = false ∨ seq ≠ m.rd Reg.Gauge.SEQ_HEAD → m.readSeq seq = n.showRec (some r) 1)) ∧
      (Tbl.find m.gb.ring seq = none → (m.gb.inFlash seq).isSome = true → (m.readSeq seq).rd Reg.Gauge.READ_STATUS = 0 ∧
        (m.readSeq seq).gb.readWait = some seq) ∧
      (Tbl.find m.gb.ring seq = none → m.gb.inFlash seq = none → m.readSeq seq = n.showRec none 3))) ∧
  (∀ f ∈ [Reg.Gauge.REC_W0, Reg.Gauge.REC_W1, Reg.Gauge.REC_W2, Reg.Gauge.REC_W3, Reg.Gauge.READ_STATUS, Reg.Gauge.CHALLENGE],
    ∀ m : Mach, m.shown f 0 0 = m.live f 0 0)

/-- The recorder, the flash, the reads and the clears complete (R479 to R490). -/
def Obligations.GaugeCompletes : Prop :=
  ∀ (t v : Nat) (src : Source) (p : PageId) (ok : Bool) (s : State), s.live →
    let w := s.now t
    let n := s.noted t .gauge 0 src
    s.yields (exec (.tokenRefill t p v) s) (fun m =>
      Tbl.getD m.gb.bucketUsed (bucketKey p v) 0 = Tbl.getD w.gb.bucketUsed (bucketKey p v) 0 - 1) ∧
    (∀ e q m, w.gb.queue = e :: q → w.boot.restoreDue = false → w.islandDown 37 = false → m = ((w.modGb fun g => { g with queue := q }).record e).joinDropped →
      exec (.recordWrite t) s = s.done (if m.gb.queue = [] then m.modGb fun g => { g with dropSeen := false } else m)) ∧
    (w.gb.isOpen = true → w.islandDown 37 = false → w.gb.lastOcc + w.repeatNs ≤ w.tide → exec (.repeatWindowExpiry t) s = s.done w.closeRec) ∧
    (∀ r, w.gb.live ≠ [] → w.coreAway = false → w.islandDown 37 = false → w.rd Reg.Mailbox.BOOT_STAGE ≠ 7 → w.nextForFlash = some r →
      s.yields (exec (.flashRecordWrite t true) s) (fun m => m.rd Reg.Gauge.SEQ_FLASH = r.seq % 2 ^ Reg.Gauge.SEQ_FLASH.width) ∧
      exec (.flashRecordWrite t false) s =
        s.done ((w.retireBlk w.gb.curBlk 0x4417 0).modGb fun g => { g with curBlk := g.nextBlk w.gb.curBlk })) ∧
    (∀ b, w.gb.eraseDue = some b → exec (.flashEraseDone t ok) s =
      s.done (if ok then (w.modGb fun g => { g with eraseDue := none }).eraseBlk b
        else (w.modGb fun g => { g with eraseDue := none }).retireBlk b 0x4417 1)) ∧
    (w.gb.lastCheck + 3600 ≤ w.opSeconds →
      s.yields (exec (.checkpoint t) s) fun m => m.gb.lastCheck = w.opSeconds ∧ m.told .gauge 0 0x4412) ∧
    (s.canWrite src →
      exec (.clearResp t src v) s = s.done (n.clearResp s.fuse src (v % 2 ^ 64)) ∧
      (n.rd Reg.Gauge.CLEAR_STATE < 2 → s.yields (exec (.clearReq t src) s) fun m => m.rd Reg.Gauge.CLEAR_STATE = 1 ∧
        m.rd Reg.Gauge.CLEAR_FAILS = 0 ∧ m.gb.chalEnd = m.tide + 300000000000)) ∧
    (∀ sec auth chain : Bool,
      (sec = true → auth = true → chain = true → w.boot.anchorBad.contains 0 = false → w.rd Reg.Gauge.CLEAR_STATE ≠ 3 →
        exec (.gbClear t src sec auth chain) s = s.done (w.acceptClear src)) ∧
      ((sec && auth && chain) = false ∨ w.boot.anchorBad.contains 0 = true →
        exec (.gbClear t src sec auth chain) s = s.done (w.refuseClear src 4))) ∧
    (w.rd Reg.Gauge.CLEAR_STATE = 1 → w.gb.chalEnd ≤ w.tide → s.yields (exec (.challengeExpiry t) s) fun m =>
      m.rd Reg.Gauge.CHALLENGE = 0 ∧ m.rd Reg.Gauge.CLEAR_STATE = 0 ∧ m.rd Reg.Gauge.CLEAR_FAILS = 0) ∧
    (w.rd Reg.Gauge.CLEAR_STATE = 2 → w.gb.lockEnd ≤ w.tide → s.yields (exec (.challengeExpiry t) s) fun m =>
      m.rd Reg.Gauge.CLEAR_STATE = 0 ∧ m.rd Reg.Gauge.CLEAR_FAILS = 0) ∧
    (w.rd Reg.Gauge.CLEAR_STATE = 3 → (w.belowFloor = [] → s.yields (exec (.clearBlockErase t) s) fun m =>
        m.rd Reg.Gauge.CLEAR_STATE = 0) ∧
      (∀ b rest, w.belowFloor = b :: rest → (w.eraseBlk b).belowFloor ≠ [] →
        exec (.clearBlockErase t) s = s.done (w.eraseBlk b)) ∧
      (∀ b rest, w.belowFloor = b :: rest → (w.eraseBlk b).belowFloor = [] → s.yields (exec (.clearBlockErase t) s) fun m =>
        m.rd Reg.Gauge.CLEAR_STATE = 0))

/-! ### Bring-up, the mailbox, firmware update -/

/-- Power, rails and straps complete, whether or not the rails are present (R14, R479, R496, R503, R525). Why a firmware slot does not pass, the
first reason that applies: a read error, a blank slot, the signature or the header, the digest, a security version below `SEC_MIN` (R498,
R501). Firmware authentication and the risers complete (R498, R499, R503, R504): the preferred slot runs where it passes, the other one
where it does not, and recovery mode is entered where neither does or the strap asks for it. -/
def Obligations.BringUpCompletes : Prop :=
  (∀ (t uefi : Nat) (straps : Fin 16) (a b : Option FwImage) (s : State),
     let w := s.now t
     (w.boot.vaon = true → w.boot.powered = false ∨ w.rd Reg.Mailbox.BOOT_STAGE = 0 → exec (.powerOn t) s = s.done ((w.fundamental s.fuse 1 true).autoOn)) ∧
     (w.boot.powered = true → s.yields (exec (.railLoss t) s) fun m => m.boot.powered = false ∧ m.memActive = false ∧
       (∀ c < 10, m.flag Reg.Sluice.GATE_ON c = false ∧ m.flag Reg.Sluice.PG c = false) ∧
       ∀ p < 4, m.flag Reg.HostPort.DL_UP p = false) ∧
     (w.boot.vaon = true → s.yields (exec (.vaonLoss t) s) fun m => m.boot.vaon = false ∧ m.boot.powered = false ∧ m.regs = [] ∧
       m.gb.ring = [] ∧ m.gb.queue = [] ∧ m.gb.flash = w.gb.flash ∧ m.serial = w.serial) ∧
     (w.boot.vaon = false ∨ w.rd Reg.Mailbox.BOOT_STAGE = 0 → s.yields (exec (.alwaysOnPowerUp t straps a b uefi) s) fun m => m.boot.vaon = true ∧ m.boot.powered = false ∧
       m.tide = 0 ∧ m.straps = straps ∧ m.boot.restoreDue = true ∧ (∀ i, a = some i → m.boot.slotA.img = some i) ∧
       (∀ i, b = some i → m.boot.slotB.img = some i))) ∧
  (∀ (sec : Nat) (x : Slot) (i : FwImage),
     authCode sec x true = 5 ∧ (x.img = none → authCode sec x false = 4) ∧
     (x.img = some i →
       (i.sigOk = false → authCode sec x false = 1) ∧
       (i.sigOk = true → i.security ≤ 63 → i.length ≤ 2 ^ 23 - 512 → i.digestOk = false → authCode sec x false = 2) ∧
       (i.sigOk = true → i.security ≤ 63 → i.length ≤ 2 ^ 23 - 512 → i.digestOk = true → i.security < sec → authCode sec x false = 3) ∧
       (i.sigOk = true → i.security ≤ 63 → i.length ≤ 2 ^ 23 - 512 → i.digestOk = true → sec ≤ i.security → authCode sec x false = 0))) ∧
  (∀ (t : Nat) (errA errB : Bool) (bad : List (Fin 2)) (r : Fin 8) (s : State), s.live →
     let w := s.now t
     (w.rd Reg.Mailbox.BOOT_STAGE = 1 →
       let m := w.modBoot fun b => { b with anchorBad := bad.map fun k => k.val }
       let code := fun k => authCode s.fuse.secMin (w.boot.slot k) (if k = 0 then errA else errB)
       let p := w.boot.preferred
       (w.straps.testBit 0 = true → exec (.fwAuthDone t errA errB bad) s = s.done (m.recovery s.fuse 0)) ∧
       (w.straps.testBit 0 = false → code p = 0 → exec (.fwAuthDone t errA errB bad) s = s.done (m.bootSlot s.fuse p 0)) ∧
       (w.straps.testBit 0 = false → code p ≠ 0 → code (1 - p) = 0 →
         exec (.fwAuthDone t errA errB bad) s = s.done ((m.authFailed p (code p)).bootSlot s.fuse (1 - p) (code p))) ∧
       (w.straps.testBit 0 = false → code p ≠ 0 → code (1 - p) ≠ 0 → exec (.fwAuthDone t errA errB bad) s =
         s.done (((m.authFailed p (code p)).authFailed (1 - p) (code (1 - p))).recovery s.fuse (code 1)))) ∧
     (Tbl.find w.boot.riserAt r = none → w.boot.startTide + (260 + 25 * r.val) * 1000000 ≤ w.tide →
       (w.rd Reg.Mailbox.BOOT_STAGE = 3 → s.yields (exec (.riserOnSchedule t r) s) fun m => Tbl.find m.boot.riserAt r = some m.tide ∧
         m.rd Reg.Mailbox.BOOT_STAGE = 4 ∧ m.flag Reg.Clock.DDR_LOCK = true) ∧
       (w.rd Reg.Mailbox.BOOT_STAGE = 4 → s.yields (exec (.riserOnSchedule t r) s) fun m =>
         Tbl.find m.boot.riserAt r = some m.tide)) ∧
     (∀ t0, Tbl.find w.boot.riserAt r = some t0 → t0 + 2000000000 ≤ w.tide → w.flag Reg.Sluice.PG r = false → w.memActive = false →
       let n := w.each [2 * r.val, 2 * r.val + 1] fun m c => if m.fsm .canal c = 0 then m.canalFail c 1 else m
       exec (.riserPgTimeout t r) s = .next { s with fuse := (n.bringupCheck s.fuse).1, m := (n.bringupCheck s.fuse).2 }))

/-- The mailbox takes a command of each op: `MB_STATUS` is BUSY with the source and the op, or, while one runs, the write is counted in
`MB_REFUSED` (R508). A mailbox command ends with its result (R502, R508, R509): refused ops at once, PING with OK, a staged image in the
slot that does not run, a provisioning op in the fuses; a restart of the management core ends on the image that passes (R507). -/
def Obligations.MailboxCompletes : Prop :=
  (∀ (t : Nat) (src : Source) (s : State), s.canWrite src →
     let n := s.noted t .mailbox 0 src
     ∀ e ∈ [(1, Instr.mbPing t src), (2, .mbFwStage t src), (3, .mbFwActivate t src), (4, .mbDeviceReset t src), (5, .mbProvisionAnchor t src),
       (6, .mbProvisionClearKey t src), (7, .mbProvisionLock t src), (8, .mbMgmtRestart t src), (9, .mbFwRevert t src)],
       (n.rd Reg.Mailbox.MB_STATUS ≠ 1 → s.yields (exec e.2 s) fun m => m.rd Reg.Mailbox.MB_STATUS = 1 ∧ m.rd Reg.Mailbox.MB_SRC = src ∧
         m.boot.mb = some { op := e.1, src := src, arg0 := n.rd Reg.Mailbox.MB_ARG0, arg1 := n.rd Reg.Mailbox.MB_ARG1,
                            arg2 := n.rd Reg.Mailbox.MB_ARG2 }) ∧
       (n.rd Reg.Mailbox.MB_STATUS = 1 → exec e.2 s = s.done ((n.wr Reg.Mailbox.MB_OP e.1).inc Reg.Mailbox.MB_REFUSED))) ∧
  (∀ (t data : Nat) (ok : Bool) (img : FwImage) (c : MbCmd) (s : State), s.live → s.m.boot.mb = some c →
     let w := s.now t
     (w.coreAway = false →
       (w.mbEarly s.fuse c ≠ 0 → exec (.mbCmdDone t ok img data) s = s.done (w.mbPost c (w.mbEarly s.fuse c))) ∧
       (w.mbEarly s.fuse c = 0 →
         (c.op = 1 → exec (.mbCmdDone t ok img data) s = s.done (w.mbPost c 0)) ∧
         (c.op = 2 → exec (.mbCmdDone t ok img data) s = s.done (w.stageDone s.fuse c (ok && !w.boot.dmaFail) img)) ∧
         (c.op = 5 ∨ c.op = 6 → (ok && !w.boot.dmaFail) = false → exec (.mbCmdDone t ok img data) s = s.done (w.mbPost c 5)) ∧
         (c.op = 7 ∨ ((c.op = 5 ∨ c.op = 6) ∧ (ok && !w.boot.dmaFail) = true) →
           ∃ m : Mach, exec (.mbCmdDone t ok img data) s = .next { s with fuse := provision s.fuse c data, m := m.mbPost c 0 } ∧
             m.told .mailbox 0 0x4C15))) ∧
     (∀ op, s.m.boot.restart = some op →
       (op = 8 → exec (.mgmtRestartDone t) s = s.done (w.coreBack.mbPost c 0)) ∧
       (op ≠ 8 → authCode s.fuse.secMin (w.coreBack.boot.slot w.coreBack.idleSlot) false = 0 →
         ∃ m : Mach, exec (.mgmtRestartDone t) s = s.done (m.mbPost c 0) ∧ m.told .mailbox 0 0x4C12 ∧
           m.boot.running = some w.coreBack.idleSlot) ∧
       (∀ code, op ≠ 8 → code ≠ 0 → authCode s.fuse.secMin (w.coreBack.boot.slot w.coreBack.idleSlot) false = code →
         exec (.mgmtRestartDone t) s = s.done
           (((w.coreBack.wr Reg.Mailbox.BOOT_FAIL code).authFailed w.coreBack.idleSlot code).mbPost c (authResult code)))))

/-- In recovery mode the boot ROM answers the PLDM commands of a firmware update, from state to state, and writes slot A (R500; codes as log
entry 20 says). -/
def Obligations.PldmCompletes : Prop :=
  ∀ (t size : Nat) (img : FwImage) (s : State), s.live → (s.now t).rd Reg.Mailbox.BOOT_STAGE = 7 →
    let w := s.now t
    let answers := fun (i : Instr) (P : Mach → Prop) (o : OutMsg) => s.yields (exec i s) fun m => P m ∧ m.out = w.out ++ [o]
    let st := fun (k : Nat) (m : Mach) => m.boot.pldm.st = k
    (∃ v, s.yields (exec (.pldmQueryDeviceIdentifiers t) s) fun m => m.out = w.out ++ [.pldm 0x01 0 [v, 0x6416, 0xB0, w.serial]]) ∧
    s.yields (exec (.pldmGetFirmwareParameters t) s) (fun m => ∃ v, m.out = w.out ++ [.pldm 0x02 0 [1, v]]) ∧
    (w.boot.pldm.st = 0 → answers (.pldmRequestUpdate t) (st 1) (.pldm 0x10 0 [])) ∧
    (w.boot.pldm.st = 1 → answers (.pldmPassComponentTable t true) (st 2) (.pldm 0x13 0 [0])) ∧
    (w.boot.pldm.st = 2 → 0 < size → size ≤ 2 ^ 23 → s.yields (exec (.pldmUpdateComponent t true size) s) fun m =>
      m.boot.pldm = { st := 3, size := size, asked := m.tide } ∧
      m.out = w.out ++ [.pldm 0x14 0 [0], .pldm 0x15 0 [0, min 1024 size]]) ∧
    (w.boot.pldm.st = 3 → w.boot.pldm.next + 1024 < w.boot.pldm.size → s.yields (exec (.pldmFirmwareData t img) s) fun m =>
      m.boot.pldm.next = w.boot.pldm.next + 1024 ∧ m.boot.slotA.img = some { img with digestOk := false }) ∧
    (w.boot.pldm.st = 3 → w.boot.pldm.size ≤ w.boot.pldm.next + 1024 → authCode s.fuse.secMin { img := some img } false = 0 →
      s.yields (exec (.pldmFirmwareData t img) s) fun m => m.boot.pldm.st = 6 ∧ m.boot.slotA.img = some img ∧ m.boot.preferred = 0) ∧
    (w.boot.pldm.st = 3 → w.boot.pldm.size ≤ w.boot.pldm.next + 1024 → authCode s.fuse.secMin { img := some img } false ≠ 0 →
      s.yields (exec (.pldmFirmwareData t img) s) fun m => m.boot.pldm.st = 4 ∧ m.boot.slotA.img = some img ∧ m.told .mailbox 0 0x4C11) ∧
    (w.boot.pldm.st = 6 → answers (.pldmActivateFirmware t) (st 0) (.pldm 0x1A 0 [1])) ∧
    answers (.pldmGetStatus t) (fun m => m.boot = w.boot) (.pldm 0x1B 0 [w.boot.pldm.st, w.boot.pldm.next, w.boot.pldm.size]) ∧
    (w.boot.pldm.st = 3 ∨ w.boot.pldm.st = 4 → answers (.pldmCancelUpdateComponent t) (st 2) (.pldm 0x1C 0 [])) ∧
    (w.boot.pldm.st ≠ 0 → answers (.pldmCancelUpdate t) (st 0) (.pldm 0x1D 0 [])) ∧
    (w.boot.pldm.st = 3 → w.boot.pldm.asked + 60000000000 ≤ w.tide → s.yields (exec (.pldmDataTimeout t) s) fun m => m.boot.pldm = {})
end

