-- ==== Sys2Proof/Laws/State.lean ====
section
/-! SUPPORT. What each small update leaves as it was: one lemma a field, by rfl. -/

namespace Sys2Proof.Machine

variable (m : Mach)

/-! `wr` -/

@[simp] theorem wr_tide (f : Field) (v i n : Nat) : (m.wr f v i n).tide = m.tide := rfl
@[simp] theorem wr_free (f : Field) (v i n : Nat) : (m.wr f v i n).free = m.free := rfl
@[simp] theorem wr_blkEvt (f : Field) (v i n : Nat) : (m.wr f v i n).blkEvt = m.blkEvt := rfl
@[simp] theorem wr_frozen (f : Field) (v i n : Nat) : (m.wr f v i n).frozen = m.frozen := rfl
@[simp] theorem wr_snapDev (f : Field) (v i n : Nat) : (m.wr f v i n).snapDev = m.snapDev := rfl
@[simp] theorem wr_out (f : Field) (v i n : Nat) : (m.wr f v i n).out = m.out := rfl
@[simp] theorem wr_clk (f : Field) (v i n : Nat) : (m.wr f v i n).clk = m.clk := rfl
@[simp] theorem wr_commits (f : Field) (v i n : Nat) : (m.wr f v i n).commits = m.commits := rfl
@[simp] theorem wr_gb (f : Field) (v i n : Nat) : (m.wr f v i n).gb = m.gb := rfl
@[simp] theorem wr_ports (f : Field) (v i n : Nat) : (m.wr f v i n).ports = m.ports := rfl
@[simp] theorem wr_memActive (f : Field) (v i n : Nat) : (m.wr f v i n).memActive = m.memActive := rfl
@[simp] theorem wr_ddtGen (f : Field) (v i n : Nat) : (m.wr f v i n).ddtGen = m.ddtGen := rfl
@[simp] theorem wr_mover (f : Field) (v i n : Nat) : (m.wr f v i n).mover = m.mover := rfl
@[simp] theorem wr_st (f : Field) (v i n : Nat) : (m.wr f v i n).st = m.st := rfl
@[simp] theorem wr_lev (f : Field) (v i n : Nat) : (m.wr f v i n).lev = m.lev := rfl
@[simp] theorem wr_sip (f : Field) (v i n : Nat) : (m.wr f v i n).sip = m.sip := rfl
@[simp] theorem wr_canals (f : Field) (v i n : Nat) : (m.wr f v i n).canals = m.canals := rfl
@[simp] theorem wr_rows (f : Field) (v i n : Nat) : (m.wr f v i n).rows = m.rows := rfl
@[simp] theorem wr_wire (f : Field) (v i n : Nat) : (m.wr f v i n).wire = m.wire := rfl
@[simp] theorem wr_weir (f : Field) (v i n : Nat) : (m.wr f v i n).weir = m.weir := rfl
@[simp] theorem wr_pw (f : Field) (v i n : Nat) : (m.wr f v i n).pw = m.pw := rfl
@[simp] theorem wr_cry (f : Field) (v i n : Nat) : (m.wr f v i n).cry = m.cry := rfl
@[simp] theorem wr_sluices (f : Field) (v i n : Nat) : (m.wr f v i n).sluices = m.sluices := rfl
@[simp] theorem wr_links (f : Field) (v i n : Nat) : (m.wr f v i n).links = m.links := rfl
@[simp] theorem wr_turn (f : Field) (v i n : Nat) : (m.wr f v i n).turn = m.turn := rfl
@[simp] theorem wr_shared (f : Field) (v i n : Nat) : (m.wr f v i n).shared = m.shared := rfl
@[simp] theorem wr_twin (f : Field) (v i n : Nat) : (m.wr f v i n).twin = m.twin := rfl
@[simp] theorem wr_boot (f : Field) (v i n : Nat) : (m.wr f v i n).boot = m.boot := rfl
@[simp] theorem wr_straps (f : Field) (v i n : Nat) : (m.wr f v i n).straps = m.straps := rfl
@[simp] theorem wr_serial (f : Field) (v i n : Nat) : (m.wr f v i n).serial = m.serial := rfl
@[simp] theorem wr_order (f : Field) (v i n : Nat) : (m.wr f v i n).order = m.order := rfl

/-! `wb` -/

@[simp] theorem wb_tide (f : Field) (b : Bool) (i n : Nat) : (m.wb f b i n).tide = m.tide := rfl
@[simp] theorem wb_free (f : Field) (b : Bool) (i n : Nat) : (m.wb f b i n).free = m.free := rfl
@[simp] theorem wb_blkEvt (f : Field) (b : Bool) (i n : Nat) : (m.wb f b i n).blkEvt = m.blkEvt := rfl
@[simp] theorem wb_frozen (f : Field) (b : Bool) (i n : Nat) : (m.wb f b i n).frozen = m.frozen := rfl
@[simp] theorem wb_snapDev (f : Field) (b : Bool) (i n : Nat) : (m.wb f b i n).snapDev = m.snapDev := rfl
@[simp] theorem wb_out (f : Field) (b : Bool) (i n : Nat) : (m.wb f b i n).out = m.out := rfl
@[simp] theorem wb_clk (f : Field) (b : Bool) (i n : Nat) : (m.wb f b i n).clk = m.clk := rfl
@[simp] theorem wb_commits (f : Field) (b : Bool) (i n : Nat) : (m.wb f b i n).commits = m.commits := rfl
@[simp] theorem wb_gb (f : Field) (b : Bool) (i n : Nat) : (m.wb f b i n).gb = m.gb := rfl
@[simp] theorem wb_ports (f : Field) (b : Bool) (i n : Nat) : (m.wb f b i n).ports = m.ports := rfl
@[simp] theorem wb_memActive (f : Field) (b : Bool) (i n : Nat) : (m.wb f b i n).memActive = m.memActive := rfl
@[simp] theorem wb_ddtGen (f : Field) (b : Bool) (i n : Nat) : (m.wb f b i n).ddtGen = m.ddtGen := rfl
@[simp] theorem wb_mover (f : Field) (b : Bool) (i n : Nat) : (m.wb f b i n).mover = m.mover := rfl
@[simp] theorem wb_st (f : Field) (b : Bool) (i n : Nat) : (m.wb f b i n).st = m.st := rfl
@[simp] theorem wb_lev (f : Field) (b : Bool) (i n : Nat) : (m.wb f b i n).lev = m.lev := rfl
@[simp] theorem wb_sip (f : Field) (b : Bool) (i n : Nat) : (m.wb f b i n).sip = m.sip := rfl
@[simp] theorem wb_canals (f : Field) (b : Bool) (i n : Nat) : (m.wb f b i n).canals = m.canals := rfl
@[simp] theorem wb_rows (f : Field) (b : Bool) (i n : Nat) : (m.wb f b i n).rows = m.rows := rfl
@[simp] theorem wb_wire (f : Field) (b : Bool) (i n : Nat) : (m.wb f b i n).wire = m.wire := rfl
@[simp] theorem wb_weir (f : Field) (b : Bool) (i n : Nat) : (m.wb f b i n).weir = m.weir := rfl
@[simp] theorem wb_pw (f : Field) (b : Bool) (i n : Nat) : (m.wb f b i n).pw = m.pw := rfl
@[simp] theorem wb_cry (f : Field) (b : Bool) (i n : Nat) : (m.wb f b i n).cry = m.cry := rfl
@[simp] theorem wb_sluices (f : Field) (b : Bool) (i n : Nat) : (m.wb f b i n).sluices = m.sluices := rfl
@[simp] theorem wb_links (f : Field) (b : Bool) (i n : Nat) : (m.wb f b i n).links = m.links := rfl
@[simp] theorem wb_turn (f : Field) (b : Bool) (i n : Nat) : (m.wb f b i n).turn = m.turn := rfl
@[simp] theorem wb_shared (f : Field) (b : Bool) (i n : Nat) : (m.wb f b i n).shared = m.shared := rfl
@[simp] theorem wb_twin (f : Field) (b : Bool) (i n : Nat) : (m.wb f b i n).twin = m.twin := rfl
@[simp] theorem wb_boot (f : Field) (b : Bool) (i n : Nat) : (m.wb f b i n).boot = m.boot := rfl
@[simp] theorem wb_straps (f : Field) (b : Bool) (i n : Nat) : (m.wb f b i n).straps = m.straps := rfl
@[simp] theorem wb_serial (f : Field) (b : Bool) (i n : Nat) : (m.wb f b i n).serial = m.serial := rfl
@[simp] theorem wb_order (f : Field) (b : Bool) (i n : Nat) : (m.wb f b i n).order = m.order := rfl

/-! `inc` -/

@[simp] theorem inc_tide (f : Field) (i n d : Nat) : (m.inc f i n d).tide = m.tide := rfl
@[simp] theorem inc_free (f : Field) (i n d : Nat) : (m.inc f i n d).free = m.free := rfl
@[simp] theorem inc_blkEvt (f : Field) (i n d : Nat) : (m.inc f i n d).blkEvt = m.blkEvt := rfl
@[simp] theorem inc_frozen (f : Field) (i n d : Nat) : (m.inc f i n d).frozen = m.frozen := rfl
@[simp] theorem inc_snapDev (f : Field) (i n d : Nat) : (m.inc f i n d).snapDev = m.snapDev := rfl
@[simp] theorem inc_out (f : Field) (i n d : Nat) : (m.inc f i n d).out = m.out := rfl
@[simp] theorem inc_clk (f : Field) (i n d : Nat) : (m.inc f i n d).clk = m.clk := rfl
@[simp] theorem inc_commits (f : Field) (i n d : Nat) : (m.inc f i n d).commits = m.commits := rfl
@[simp] theorem inc_gb (f : Field) (i n d : Nat) : (m.inc f i n d).gb = m.gb := rfl
@[simp] theorem inc_ports (f : Field) (i n d : Nat) : (m.inc f i n d).ports = m.ports := rfl
@[simp] theorem inc_memActive (f : Field) (i n d : Nat) : (m.inc f i n d).memActive = m.memActive := rfl
@[simp] theorem inc_ddtGen (f : Field) (i n d : Nat) : (m.inc f i n d).ddtGen = m.ddtGen := rfl
@[simp] theorem inc_mover (f : Field) (i n d : Nat) : (m.inc f i n d).mover = m.mover := rfl
@[simp] theorem inc_st (f : Field) (i n d : Nat) : (m.inc f i n d).st = m.st := rfl
@[simp] theorem inc_lev (f : Field) (i n d : Nat) : (m.inc f i n d).lev = m.lev := rfl
@[simp] theorem inc_sip (f : Field) (i n d : Nat) : (m.inc f i n d).sip = m.sip := rfl
@[simp] theorem inc_canals (f : Field) (i n d : Nat) : (m.inc f i n d).canals = m.canals := rfl
@[simp] theorem inc_rows (f : Field) (i n d : Nat) : (m.inc f i n d).rows = m.rows := rfl
@[simp] theorem inc_wire (f : Field) (i n d : Nat) : (m.inc f i n d).wire = m.wire := rfl
@[simp] theorem inc_weir (f : Field) (i n d : Nat) : (m.inc f i n d).weir = m.weir := rfl
@[simp] theorem inc_pw (f : Field) (i n d : Nat) : (m.inc f i n d).pw = m.pw := rfl
@[simp] theorem inc_cry (f : Field) (i n d : Nat) : (m.inc f i n d).cry = m.cry := rfl
@[simp] theorem inc_sluices (f : Field) (i n d : Nat) : (m.inc f i n d).sluices = m.sluices := rfl
@[simp] theorem inc_links (f : Field) (i n d : Nat) : (m.inc f i n d).links = m.links := rfl
@[simp] theorem inc_turn (f : Field) (i n d : Nat) : (m.inc f i n d).turn = m.turn := rfl
@[simp] theorem inc_shared (f : Field) (i n d : Nat) : (m.inc f i n d).shared = m.shared := rfl
@[simp] theorem inc_twin (f : Field) (i n d : Nat) : (m.inc f i n d).twin = m.twin := rfl
@[simp] theorem inc_boot (f : Field) (i n d : Nat) : (m.inc f i n d).boot = m.boot := rfl
@[simp] theorem inc_straps (f : Field) (i n d : Nat) : (m.inc f i n d).straps = m.straps := rfl
@[simp] theorem inc_serial (f : Field) (i n d : Nat) : (m.inc f i n d).serial = m.serial := rfl
@[simp] theorem inc_order (f : Field) (i n d : Nat) : (m.inc f i n d).order = m.order := rfl

/-! `setFsm` -/

@[simp] theorem setFsm_tide (k : PageKind) (v i : Nat) : (m.setFsm k v i).tide = m.tide := rfl
@[simp] theorem setFsm_free (k : PageKind) (v i : Nat) : (m.setFsm k v i).free = m.free := rfl
@[simp] theorem setFsm_blkEvt (k : PageKind) (v i : Nat) : (m.setFsm k v i).blkEvt = m.blkEvt := rfl
@[simp] theorem setFsm_frozen (k : PageKind) (v i : Nat) : (m.setFsm k v i).frozen = m.frozen := rfl
@[simp] theorem setFsm_snapDev (k : PageKind) (v i : Nat) : (m.setFsm k v i).snapDev = m.snapDev := rfl
@[simp] theorem setFsm_out (k : PageKind) (v i : Nat) : (m.setFsm k v i).out = m.out := rfl
@[simp] theorem setFsm_clk (k : PageKind) (v i : Nat) : (m.setFsm k v i).clk = m.clk := rfl
@[simp] theorem setFsm_commits (k : PageKind) (v i : Nat) : (m.setFsm k v i).commits = m.commits := rfl
@[simp] theorem setFsm_gb (k : PageKind) (v i : Nat) : (m.setFsm k v i).gb = m.gb := rfl
@[simp] theorem setFsm_ports (k : PageKind) (v i : Nat) : (m.setFsm k v i).ports = m.ports := rfl
@[simp] theorem setFsm_memActive (k : PageKind) (v i : Nat) : (m.setFsm k v i).memActive = m.memActive := rfl
@[simp] theorem setFsm_ddtGen (k : PageKind) (v i : Nat) : (m.setFsm k v i).ddtGen = m.ddtGen := rfl
@[simp] theorem setFsm_mover (k : PageKind) (v i : Nat) : (m.setFsm k v i).mover = m.mover := rfl
@[simp] theorem setFsm_st (k : PageKind) (v i : Nat) : (m.setFsm k v i).st = m.st := rfl
@[simp] theorem setFsm_lev (k : PageKind) (v i : Nat) : (m.setFsm k v i).lev = m.lev := rfl
@[simp] theorem setFsm_sip (k : PageKind) (v i : Nat) : (m.setFsm k v i).sip = m.sip := rfl
@[simp] theorem setFsm_canals (k : PageKind) (v i : Nat) : (m.setFsm k v i).canals = m.canals := rfl
@[simp] theorem setFsm_rows (k : PageKind) (v i : Nat) : (m.setFsm k v i).rows = m.rows := rfl
@[simp] theorem setFsm_wire (k : PageKind) (v i : Nat) : (m.setFsm k v i).wire = m.wire := rfl
@[simp] theorem setFsm_weir (k : PageKind) (v i : Nat) : (m.setFsm k v i).weir = m.weir := rfl
@[simp] theorem setFsm_pw (k : PageKind) (v i : Nat) : (m.setFsm k v i).pw = m.pw := rfl
@[simp] theorem setFsm_cry (k : PageKind) (v i : Nat) : (m.setFsm k v i).cry = m.cry := rfl
@[simp] theorem setFsm_sluices (k : PageKind) (v i : Nat) : (m.setFsm k v i).sluices = m.sluices := rfl
@[simp] theorem setFsm_links (k : PageKind) (v i : Nat) : (m.setFsm k v i).links = m.links := rfl
@[simp] theorem setFsm_turn (k : PageKind) (v i : Nat) : (m.setFsm k v i).turn = m.turn := rfl
@[simp] theorem setFsm_shared (k : PageKind) (v i : Nat) : (m.setFsm k v i).shared = m.shared := rfl
@[simp] theorem setFsm_twin (k : PageKind) (v i : Nat) : (m.setFsm k v i).twin = m.twin := rfl
@[simp] theorem setFsm_boot (k : PageKind) (v i : Nat) : (m.setFsm k v i).boot = m.boot := rfl
@[simp] theorem setFsm_straps (k : PageKind) (v i : Nat) : (m.setFsm k v i).straps = m.straps := rfl
@[simp] theorem setFsm_serial (k : PageKind) (v i : Nat) : (m.setFsm k v i).serial = m.serial := rfl
@[simp] theorem setFsm_order (k : PageKind) (v i : Nat) : (m.setFsm k v i).order = m.order := rfl

/-! `at` -/

@[simp] theorem at_regs (t : Nat) : (m.at t).regs = m.regs := rfl
@[simp] theorem at_free (t : Nat) : (m.at t).free = m.free := rfl
@[simp] theorem at_blkEvt (t : Nat) : (m.at t).blkEvt = m.blkEvt := rfl
@[simp] theorem at_frozen (t : Nat) : (m.at t).frozen = m.frozen := rfl
@[simp] theorem at_snapDev (t : Nat) : (m.at t).snapDev = m.snapDev := rfl
@[simp] theorem at_out (t : Nat) : (m.at t).out = m.out := rfl
@[simp] theorem at_clk (t : Nat) : (m.at t).clk = m.clk := rfl
@[simp] theorem at_commits (t : Nat) : (m.at t).commits = m.commits := rfl
@[simp] theorem at_gb (t : Nat) : (m.at t).gb = m.gb := rfl
@[simp] theorem at_ports (t : Nat) : (m.at t).ports = m.ports := rfl
@[simp] theorem at_memActive (t : Nat) : (m.at t).memActive = m.memActive := rfl
@[simp] theorem at_ddtGen (t : Nat) : (m.at t).ddtGen = m.ddtGen := rfl
@[simp] theorem at_mover (t : Nat) : (m.at t).mover = m.mover := rfl
@[simp] theorem at_st (t : Nat) : (m.at t).st = m.st := rfl
@[simp] theorem at_lev (t : Nat) : (m.at t).lev = m.lev := rfl
@[simp] theorem at_sip (t : Nat) : (m.at t).sip = m.sip := rfl
@[simp] theorem at_canals (t : Nat) : (m.at t).canals = m.canals := rfl
@[simp] theorem at_rows (t : Nat) : (m.at t).rows = m.rows := rfl
@[simp] theorem at_wire (t : Nat) : (m.at t).wire = m.wire := rfl
@[simp] theorem at_weir (t : Nat) : (m.at t).weir = m.weir := rfl
@[simp] theorem at_pw (t : Nat) : (m.at t).pw = m.pw := rfl
@[simp] theorem at_cry (t : Nat) : (m.at t).cry = m.cry := rfl
@[simp] theorem at_sluices (t : Nat) : (m.at t).sluices = m.sluices := rfl
@[simp] theorem at_links (t : Nat) : (m.at t).links = m.links := rfl
@[simp] theorem at_turn (t : Nat) : (m.at t).turn = m.turn := rfl
@[simp] theorem at_shared (t : Nat) : (m.at t).shared = m.shared := rfl
@[simp] theorem at_twin (t : Nat) : (m.at t).twin = m.twin := rfl
@[simp] theorem at_boot (t : Nat) : (m.at t).boot = m.boot := rfl
@[simp] theorem at_straps (t : Nat) : (m.at t).straps = m.straps := rfl
@[simp] theorem at_serial (t : Nat) : (m.at t).serial = m.serial := rfl
@[simp] theorem at_order (t : Nat) : (m.at t).order = m.order := rfl
@[simp] theorem at_rd (t : Nat) (h : Field) (j k : Nat) : (m.at t).rd h j k = m.rd h j k := rfl
@[simp] theorem at_flag (t : Nat) (h : Field) (j k : Nat) : (m.at t).flag h j k = m.flag h j k := rfl

/-! `setPort` -/

@[simp] theorem setPort_tide (p : Nat) (x : PortX) : (m.setPort p x).tide = m.tide := rfl
@[simp] theorem setPort_regs (p : Nat) (x : PortX) : (m.setPort p x).regs = m.regs := rfl
@[simp] theorem setPort_free (p : Nat) (x : PortX) : (m.setPort p x).free = m.free := rfl
@[simp] theorem setPort_blkEvt (p : Nat) (x : PortX) : (m.setPort p x).blkEvt = m.blkEvt := rfl
@[simp] theorem setPort_frozen (p : Nat) (x : PortX) : (m.setPort p x).frozen = m.frozen := rfl
@[simp] theorem setPort_snapDev (p : Nat) (x : PortX) : (m.setPort p x).snapDev = m.snapDev := rfl
@[simp] theorem setPort_out (p : Nat) (x : PortX) : (m.setPort p x).out = m.out := rfl
@[simp] theorem setPort_clk (p : Nat) (x : PortX) : (m.setPort p x).clk = m.clk := rfl
@[simp] theorem setPort_commits (p : Nat) (x : PortX) : (m.setPort p x).commits = m.commits := rfl
@[simp] theorem setPort_gb (p : Nat) (x : PortX) : (m.setPort p x).gb = m.gb := rfl
@[simp] theorem setPort_memActive (p : Nat) (x : PortX) : (m.setPort p x).memActive = m.memActive := rfl
@[simp] theorem setPort_ddtGen (p : Nat) (x : PortX) : (m.setPort p x).ddtGen = m.ddtGen := rfl
@[simp] theorem setPort_mover (p : Nat) (x : PortX) : (m.setPort p x).mover = m.mover := rfl
@[simp] theorem setPort_st (p : Nat) (x : PortX) : (m.setPort p x).st = m.st := rfl
@[simp] theorem setPort_lev (p : Nat) (x : PortX) : (m.setPort p x).lev = m.lev := rfl
@[simp] theorem setPort_sip (p : Nat) (x : PortX) : (m.setPort p x).sip = m.sip := rfl
@[simp] theorem setPort_canals (p : Nat) (x : PortX) : (m.setPort p x).canals = m.canals := rfl
@[simp] theorem setPort_rows (p : Nat) (x : PortX) : (m.setPort p x).rows = m.rows := rfl
@[simp] theorem setPort_wire (p : Nat) (x : PortX) : (m.setPort p x).wire = m.wire := rfl
@[simp] theorem setPort_weir (p : Nat) (x : PortX) : (m.setPort p x).weir = m.weir := rfl
@[simp] theorem setPort_pw (p : Nat) (x : PortX) : (m.setPort p x).pw = m.pw := rfl
@[simp] theorem setPort_cry (p : Nat) (x : PortX) : (m.setPort p x).cry = m.cry := rfl
@[simp] theorem setPort_sluices (p : Nat) (x : PortX) : (m.setPort p x).sluices = m.sluices := rfl
@[simp] theorem setPort_links (p : Nat) (x : PortX) : (m.setPort p x).links = m.links := rfl
@[simp] theorem setPort_turn (p : Nat) (x : PortX) : (m.setPort p x).turn = m.turn := rfl
@[simp] theorem setPort_shared (p : Nat) (x : PortX) : (m.setPort p x).shared = m.shared := rfl
@[simp] theorem setPort_twin (p : Nat) (x : PortX) : (m.setPort p x).twin = m.twin := rfl
@[simp] theorem setPort_boot (p : Nat) (x : PortX) : (m.setPort p x).boot = m.boot := rfl
@[simp] theorem setPort_straps (p : Nat) (x : PortX) : (m.setPort p x).straps = m.straps := rfl
@[simp] theorem setPort_serial (p : Nat) (x : PortX) : (m.setPort p x).serial = m.serial := rfl
@[simp] theorem setPort_order (p : Nat) (x : PortX) : (m.setPort p x).order = m.order := rfl
@[simp] theorem setPort_rd (p : Nat) (x : PortX) (h : Field) (j k : Nat) : (m.setPort p x).rd h j k = m.rd h j k := rfl
@[simp] theorem setPort_flag (p : Nat) (x : PortX) (h : Field) (j k : Nat) : (m.setPort p x).flag h j k = m.flag h j k := rfl

/-! `modPort` -/

@[simp] theorem modPort_tide (p : Nat) (g : PortX → PortX) : (m.modPort p g).tide = m.tide := rfl
@[simp] theorem modPort_regs (p : Nat) (g : PortX → PortX) : (m.modPort p g).regs = m.regs := rfl
@[simp] theorem modPort_free (p : Nat) (g : PortX → PortX) : (m.modPort p g).free = m.free := rfl
@[simp] theorem modPort_blkEvt (p : Nat) (g : PortX → PortX) : (m.modPort p g).blkEvt = m.blkEvt := rfl
@[simp] theorem modPort_frozen (p : Nat) (g : PortX → PortX) : (m.modPort p g).frozen = m.frozen := rfl
@[simp] theorem modPort_snapDev (p : Nat) (g : PortX → PortX) : (m.modPort p g).snapDev = m.snapDev := rfl
@[simp] theorem modPort_out (p : Nat) (g : PortX → PortX) : (m.modPort p g).out = m.out := rfl
@[simp] theorem modPort_clk (p : Nat) (g : PortX → PortX) : (m.modPort p g).clk = m.clk := rfl
@[simp] theorem modPort_commits (p : Nat) (g : PortX → PortX) : (m.modPort p g).commits = m.commits := rfl
@[simp] theorem modPort_gb (p : Nat) (g : PortX → PortX) : (m.modPort p g).gb = m.gb := rfl
@[simp] theorem modPort_memActive (p : Nat) (g : PortX → PortX) : (m.modPort p g).memActive = m.memActive := rfl
@[simp] theorem modPort_ddtGen (p : Nat) (g : PortX → PortX) : (m.modPort p g).ddtGen = m.ddtGen := rfl
@[simp] theorem modPort_mover (p : Nat) (g : PortX → PortX) : (m.modPort p g).mover = m.mover := rfl
@[simp] theorem modPort_st (p : Nat) (g : PortX → PortX) : (m.modPort p g).st = m.st := rfl
@[simp] theorem modPort_lev (p : Nat) (g : PortX → PortX) : (m.modPort p g).lev = m.lev := rfl
@[simp] theorem modPort_sip (p : Nat) (g : PortX → PortX) : (m.modPort p g).sip = m.sip := rfl
@[simp] theorem modPort_canals (p : Nat) (g : PortX → PortX) : (m.modPort p g).canals = m.canals := rfl
@[simp] theorem modPort_rows (p : Nat) (g : PortX → PortX) : (m.modPort p g).rows = m.rows := rfl
@[simp] theorem modPort_wire (p : Nat) (g : PortX → PortX) : (m.modPort p g).wire = m.wire := rfl
@[simp] theorem modPort_weir (p : Nat) (g : PortX → PortX) : (m.modPort p g).weir = m.weir := rfl
@[simp] theorem modPort_pw (p : Nat) (g : PortX → PortX) : (m.modPort p g).pw = m.pw := rfl
@[simp] theorem modPort_cry (p : Nat) (g : PortX → PortX) : (m.modPort p g).cry = m.cry := rfl
@[simp] theorem modPort_sluices (p : Nat) (g : PortX → PortX) : (m.modPort p g).sluices = m.sluices := rfl
@[simp] theorem modPort_links (p : Nat) (g : PortX → PortX) : (m.modPort p g).links = m.links := rfl
@[simp] theorem modPort_turn (p : Nat) (g : PortX → PortX) : (m.modPort p g).turn = m.turn := rfl
@[simp] theorem modPort_shared (p : Nat) (g : PortX → PortX) : (m.modPort p g).shared = m.shared := rfl
@[simp] theorem modPort_twin (p : Nat) (g : PortX → PortX) : (m.modPort p g).twin = m.twin := rfl
@[simp] theorem modPort_boot (p : Nat) (g : PortX → PortX) : (m.modPort p g).boot = m.boot := rfl
@[simp] theorem modPort_straps (p : Nat) (g : PortX → PortX) : (m.modPort p g).straps = m.straps := rfl
@[simp] theorem modPort_serial (p : Nat) (g : PortX → PortX) : (m.modPort p g).serial = m.serial := rfl
@[simp] theorem modPort_order (p : Nat) (g : PortX → PortX) : (m.modPort p g).order = m.order := rfl
@[simp] theorem modPort_rd (p : Nat) (g : PortX → PortX) (h : Field) (j k : Nat) : (m.modPort p g).rd h j k = m.rd h j k := rfl
@[simp] theorem modPort_flag (p : Nat) (g : PortX → PortX) (h : Field) (j k : Nat) : (m.modPort p g).flag h j k = m.flag h j k := rfl

/-! `emit` -/

@[simp] theorem emit_tide (o : OutMsg) : (m.emit o).tide = m.tide := rfl
@[simp] theorem emit_regs (o : OutMsg) : (m.emit o).regs = m.regs := rfl
@[simp] theorem emit_free (o : OutMsg) : (m.emit o).free = m.free := rfl
@[simp] theorem emit_blkEvt (o : OutMsg) : (m.emit o).blkEvt = m.blkEvt := rfl
@[simp] theorem emit_frozen (o : OutMsg) : (m.emit o).frozen = m.frozen := rfl
@[simp] theorem emit_snapDev (o : OutMsg) : (m.emit o).snapDev = m.snapDev := rfl
@[simp] theorem emit_clk (o : OutMsg) : (m.emit o).clk = m.clk := rfl
@[simp] theorem emit_commits (o : OutMsg) : (m.emit o).commits = m.commits := rfl
@[simp] theorem emit_gb (o : OutMsg) : (m.emit o).gb = m.gb := rfl
@[simp] theorem emit_ports (o : OutMsg) : (m.emit o).ports = m.ports := rfl
@[simp] theorem emit_memActive (o : OutMsg) : (m.emit o).memActive = m.memActive := rfl
@[simp] theorem emit_ddtGen (o : OutMsg) : (m.emit o).ddtGen = m.ddtGen := rfl
@[simp] theorem emit_mover (o : OutMsg) : (m.emit o).mover = m.mover := rfl
@[simp] theorem emit_st (o : OutMsg) : (m.emit o).st = m.st := rfl
@[simp] theorem emit_lev (o : OutMsg) : (m.emit o).lev = m.lev := rfl
@[simp] theorem emit_sip (o : OutMsg) : (m.emit o).sip = m.sip := rfl
@[simp] theorem emit_canals (o : OutMsg) : (m.emit o).canals = m.canals := rfl
@[simp] theorem emit_rows (o : OutMsg) : (m.emit o).rows = m.rows := rfl
@[simp] theorem emit_wire (o : OutMsg) : (m.emit o).wire = m.wire := rfl
@[simp] theorem emit_weir (o : OutMsg) : (m.emit o).weir = m.weir := rfl
@[simp] theorem emit_pw (o : OutMsg) : (m.emit o).pw = m.pw := rfl
@[simp] theorem emit_cry (o : OutMsg) : (m.emit o).cry = m.cry := rfl
@[simp] theorem emit_sluices (o : OutMsg) : (m.emit o).sluices = m.sluices := rfl
@[simp] theorem emit_links (o : OutMsg) : (m.emit o).links = m.links := rfl
@[simp] theorem emit_turn (o : OutMsg) : (m.emit o).turn = m.turn := rfl
@[simp] theorem emit_shared (o : OutMsg) : (m.emit o).shared = m.shared := rfl
@[simp] theorem emit_twin (o : OutMsg) : (m.emit o).twin = m.twin := rfl
@[simp] theorem emit_boot (o : OutMsg) : (m.emit o).boot = m.boot := rfl
@[simp] theorem emit_straps (o : OutMsg) : (m.emit o).straps = m.straps := rfl
@[simp] theorem emit_serial (o : OutMsg) : (m.emit o).serial = m.serial := rfl
@[simp] theorem emit_order (o : OutMsg) : (m.emit o).order = m.order := rfl
@[simp] theorem emit_rd (o : OutMsg) (h : Field) (j k : Nat) : (m.emit o).rd h j k = m.rd h j k := rfl
@[simp] theorem emit_flag (o : OutMsg) (h : Field) (j k : Nat) : (m.emit o).flag h j k = m.flag h j k := rfl

/-! `nextFree` -/

@[simp] theorem nextFree_tide  : (m.nextFree ).tide = m.tide := rfl
@[simp] theorem nextFree_regs  : (m.nextFree ).regs = m.regs := rfl
@[simp] theorem nextFree_blkEvt  : (m.nextFree ).blkEvt = m.blkEvt := rfl
@[simp] theorem nextFree_frozen  : (m.nextFree ).frozen = m.frozen := rfl
@[simp] theorem nextFree_snapDev  : (m.nextFree ).snapDev = m.snapDev := rfl
@[simp] theorem nextFree_out  : (m.nextFree ).out = m.out := rfl
@[simp] theorem nextFree_clk  : (m.nextFree ).clk = m.clk := rfl
@[simp] theorem nextFree_commits  : (m.nextFree ).commits = m.commits := rfl
@[simp] theorem nextFree_gb  : (m.nextFree ).gb = m.gb := rfl
@[simp] theorem nextFree_ports  : (m.nextFree ).ports = m.ports := rfl
@[simp] theorem nextFree_memActive  : (m.nextFree ).memActive = m.memActive := rfl
@[simp] theorem nextFree_ddtGen  : (m.nextFree ).ddtGen = m.ddtGen := rfl
@[simp] theorem nextFree_mover  : (m.nextFree ).mover = m.mover := rfl
@[simp] theorem nextFree_st  : (m.nextFree ).st = m.st := rfl
@[simp] theorem nextFree_lev  : (m.nextFree ).lev = m.lev := rfl
@[simp] theorem nextFree_sip  : (m.nextFree ).sip = m.sip := rfl
@[simp] theorem nextFree_canals  : (m.nextFree ).canals = m.canals := rfl
@[simp] theorem nextFree_rows  : (m.nextFree ).rows = m.rows := rfl
@[simp] theorem nextFree_wire  : (m.nextFree ).wire = m.wire := rfl
@[simp] theorem nextFree_weir  : (m.nextFree ).weir = m.weir := rfl
@[simp] theorem nextFree_pw  : (m.nextFree ).pw = m.pw := rfl
@[simp] theorem nextFree_cry  : (m.nextFree ).cry = m.cry := rfl
@[simp] theorem nextFree_sluices  : (m.nextFree ).sluices = m.sluices := rfl
@[simp] theorem nextFree_links  : (m.nextFree ).links = m.links := rfl
@[simp] theorem nextFree_turn  : (m.nextFree ).turn = m.turn := rfl
@[simp] theorem nextFree_shared  : (m.nextFree ).shared = m.shared := rfl
@[simp] theorem nextFree_twin  : (m.nextFree ).twin = m.twin := rfl
@[simp] theorem nextFree_boot  : (m.nextFree ).boot = m.boot := rfl
@[simp] theorem nextFree_straps  : (m.nextFree ).straps = m.straps := rfl
@[simp] theorem nextFree_serial  : (m.nextFree ).serial = m.serial := rfl
@[simp] theorem nextFree_order  : (m.nextFree ).order = m.order := rfl
@[simp] theorem nextFree_rd  (h : Field) (j k : Nat) : (m.nextFree ).rd h j k = m.rd h j k := rfl
@[simp] theorem nextFree_flag  (h : Field) (j k : Nat) : (m.nextFree ).flag h j k = m.flag h j k := rfl

/-! `modGb` -/

@[simp] theorem modGb_tide (g : GaugeX → GaugeX) : (m.modGb g).tide = m.tide := rfl
@[simp] theorem modGb_regs (g : GaugeX → GaugeX) : (m.modGb g).regs = m.regs := rfl
@[simp] theorem modGb_free (g : GaugeX → GaugeX) : (m.modGb g).free = m.free := rfl
@[simp] theorem modGb_blkEvt (g : GaugeX → GaugeX) : (m.modGb g).blkEvt = m.blkEvt := rfl
@[simp] theorem modGb_frozen (g : GaugeX → GaugeX) : (m.modGb g).frozen = m.frozen := rfl
@[simp] theorem modGb_snapDev (g : GaugeX → GaugeX) : (m.modGb g).snapDev = m.snapDev := rfl
@[simp] theorem modGb_out (g : GaugeX → GaugeX) : (m.modGb g).out = m.out := rfl
@[simp] theorem modGb_clk (g : GaugeX → GaugeX) : (m.modGb g).clk = m.clk := rfl
@[simp] theorem modGb_commits (g : GaugeX → GaugeX) : (m.modGb g).commits = m.commits := rfl
@[simp] theorem modGb_ports (g : GaugeX → GaugeX) : (m.modGb g).ports = m.ports := rfl
@[simp] theorem modGb_memActive (g : GaugeX → GaugeX) : (m.modGb g).memActive = m.memActive := rfl
@[simp] theorem modGb_ddtGen (g : GaugeX → GaugeX) : (m.modGb g).ddtGen = m.ddtGen := rfl
@[simp] theorem modGb_mover (g : GaugeX → GaugeX) : (m.modGb g).mover = m.mover := rfl
@[simp] theorem modGb_st (g : GaugeX → GaugeX) : (m.modGb g).st = m.st := rfl
@[simp] theorem modGb_lev (g : GaugeX → GaugeX) : (m.modGb g).lev = m.lev := rfl
@[simp] theorem modGb_sip (g : GaugeX → GaugeX) : (m.modGb g).sip = m.sip := rfl
@[simp] theorem modGb_canals (g : GaugeX → GaugeX) : (m.modGb g).canals = m.canals := rfl
@[simp] theorem modGb_rows (g : GaugeX → GaugeX) : (m.modGb g).rows = m.rows := rfl
@[simp] theorem modGb_wire (g : GaugeX → GaugeX) : (m.modGb g).wire = m.wire := rfl
@[simp] theorem modGb_weir (g : GaugeX → GaugeX) : (m.modGb g).weir = m.weir := rfl
@[simp] theorem modGb_pw (g : GaugeX → GaugeX) : (m.modGb g).pw = m.pw := rfl
@[simp] theorem modGb_cry (g : GaugeX → GaugeX) : (m.modGb g).cry = m.cry := rfl
@[simp] theorem modGb_sluices (g : GaugeX → GaugeX) : (m.modGb g).sluices = m.sluices := rfl
@[simp] theorem modGb_links (g : GaugeX → GaugeX) : (m.modGb g).links = m.links := rfl
@[simp] theorem modGb_turn (g : GaugeX → GaugeX) : (m.modGb g).turn = m.turn := rfl
@[simp] theorem modGb_shared (g : GaugeX → GaugeX) : (m.modGb g).shared = m.shared := rfl
@[simp] theorem modGb_twin (g : GaugeX → GaugeX) : (m.modGb g).twin = m.twin := rfl
@[simp] theorem modGb_boot (g : GaugeX → GaugeX) : (m.modGb g).boot = m.boot := rfl
@[simp] theorem modGb_straps (g : GaugeX → GaugeX) : (m.modGb g).straps = m.straps := rfl
@[simp] theorem modGb_serial (g : GaugeX → GaugeX) : (m.modGb g).serial = m.serial := rfl
@[simp] theorem modGb_order (g : GaugeX → GaugeX) : (m.modGb g).order = m.order := rfl
@[simp] theorem modGb_rd (g : GaugeX → GaugeX) (h : Field) (j k : Nat) : (m.modGb g).rd h j k = m.rd h j k := rfl
@[simp] theorem modGb_flag (g : GaugeX → GaugeX) (h : Field) (j k : Nat) : (m.modGb g).flag h j k = m.flag h j k := rfl

/-! `modSt` -/

@[simp] theorem modSt_tide (g : StoreX → StoreX) : (m.modSt g).tide = m.tide := rfl
@[simp] theorem modSt_regs (g : StoreX → StoreX) : (m.modSt g).regs = m.regs := rfl
@[simp] theorem modSt_free (g : StoreX → StoreX) : (m.modSt g).free = m.free := rfl
@[simp] theorem modSt_blkEvt (g : StoreX → StoreX) : (m.modSt g).blkEvt = m.blkEvt := rfl
@[simp] theorem modSt_frozen (g : StoreX → StoreX) : (m.modSt g).frozen = m.frozen := rfl
@[simp] theorem modSt_snapDev (g : StoreX → StoreX) : (m.modSt g).snapDev = m.snapDev := rfl
@[simp] theorem modSt_out (g : StoreX → StoreX) : (m.modSt g).out = m.out := rfl
@[simp] theorem modSt_clk (g : StoreX → StoreX) : (m.modSt g).clk = m.clk := rfl
@[simp] theorem modSt_commits (g : StoreX → StoreX) : (m.modSt g).commits = m.commits := rfl
@[simp] theorem modSt_gb (g : StoreX → StoreX) : (m.modSt g).gb = m.gb := rfl
@[simp] theorem modSt_ports (g : StoreX → StoreX) : (m.modSt g).ports = m.ports := rfl
@[simp] theorem modSt_memActive (g : StoreX → StoreX) : (m.modSt g).memActive = m.memActive := rfl
@[simp] theorem modSt_ddtGen (g : StoreX → StoreX) : (m.modSt g).ddtGen = m.ddtGen := rfl
@[simp] theorem modSt_mover (g : StoreX → StoreX) : (m.modSt g).mover = m.mover := rfl
@[simp] theorem modSt_lev (g : StoreX → StoreX) : (m.modSt g).lev = m.lev := rfl
@[simp] theorem modSt_sip (g : StoreX → StoreX) : (m.modSt g).sip = m.sip := rfl
@[simp] theorem modSt_canals (g : StoreX → StoreX) : (m.modSt g).canals = m.canals := rfl
@[simp] theorem modSt_rows (g : StoreX → StoreX) : (m.modSt g).rows = m.rows := rfl
@[simp] theorem modSt_wire (g : StoreX → StoreX) : (m.modSt g).wire = m.wire := rfl
@[simp] theorem modSt_weir (g : StoreX → StoreX) : (m.modSt g).weir = m.weir := rfl
@[simp] theorem modSt_pw (g : StoreX → StoreX) : (m.modSt g).pw = m.pw := rfl
@[simp] theorem modSt_cry (g : StoreX → StoreX) : (m.modSt g).cry = m.cry := rfl
@[simp] theorem modSt_sluices (g : StoreX → StoreX) : (m.modSt g).sluices = m.sluices := rfl
@[simp] theorem modSt_links (g : StoreX → StoreX) : (m.modSt g).links = m.links := rfl
@[simp] theorem modSt_turn (g : StoreX → StoreX) : (m.modSt g).turn = m.turn := rfl
@[simp] theorem modSt_shared (g : StoreX → StoreX) : (m.modSt g).shared = m.shared := rfl
@[simp] theorem modSt_twin (g : StoreX → StoreX) : (m.modSt g).twin = m.twin := rfl
@[simp] theorem modSt_boot (g : StoreX → StoreX) : (m.modSt g).boot = m.boot := rfl
@[simp] theorem modSt_straps (g : StoreX → StoreX) : (m.modSt g).straps = m.straps := rfl
@[simp] theorem modSt_serial (g : StoreX → StoreX) : (m.modSt g).serial = m.serial := rfl
@[simp] theorem modSt_order (g : StoreX → StoreX) : (m.modSt g).order = m.order := rfl
@[simp] theorem modSt_rd (g : StoreX → StoreX) (h : Field) (j k : Nat) : (m.modSt g).rd h j k = m.rd h j k := rfl
@[simp] theorem modSt_flag (g : StoreX → StoreX) (h : Field) (j k : Nat) : (m.modSt g).flag h j k = m.flag h j k := rfl

/-! `modLev` -/

@[simp] theorem modLev_tide (g : LeveeX → LeveeX) : (m.modLev g).tide = m.tide := rfl
@[simp] theorem modLev_regs (g : LeveeX → LeveeX) : (m.modLev g).regs = m.regs := rfl
@[simp] theorem modLev_free (g : LeveeX → LeveeX) : (m.modLev g).free = m.free := rfl
@[simp] theorem modLev_blkEvt (g : LeveeX → LeveeX) : (m.modLev g).blkEvt = m.blkEvt := rfl
@[simp] theorem modLev_frozen (g : LeveeX → LeveeX) : (m.modLev g).frozen = m.frozen := rfl
@[simp] theorem modLev_snapDev (g : LeveeX → LeveeX) : (m.modLev g).snapDev = m.snapDev := rfl
@[simp] theorem modLev_out (g : LeveeX → LeveeX) : (m.modLev g).out = m.out := rfl
@[simp] theorem modLev_clk (g : LeveeX → LeveeX) : (m.modLev g).clk = m.clk := rfl
@[simp] theorem modLev_commits (g : LeveeX → LeveeX) : (m.modLev g).commits = m.commits := rfl
@[simp] theorem modLev_gb (g : LeveeX → LeveeX) : (m.modLev g).gb = m.gb := rfl
@[simp] theorem modLev_ports (g : LeveeX → LeveeX) : (m.modLev g).ports = m.ports := rfl
@[simp] theorem modLev_memActive (g : LeveeX → LeveeX) : (m.modLev g).memActive = m.memActive := rfl
@[simp] theorem modLev_ddtGen (g : LeveeX → LeveeX) : (m.modLev g).ddtGen = m.ddtGen := rfl
@[simp] theorem modLev_mover (g : LeveeX → LeveeX) : (m.modLev g).mover = m.mover := rfl
@[simp] theorem modLev_st (g : LeveeX → LeveeX) : (m.modLev g).st = m.st := rfl
@[simp] theorem modLev_sip (g : LeveeX → LeveeX) : (m.modLev g).sip = m.sip := rfl
@[simp] theorem modLev_canals (g : LeveeX → LeveeX) : (m.modLev g).canals = m.canals := rfl
@[simp] theorem modLev_rows (g : LeveeX → LeveeX) : (m.modLev g).rows = m.rows := rfl
@[simp] theorem modLev_wire (g : LeveeX → LeveeX) : (m.modLev g).wire = m.wire := rfl
@[simp] theorem modLev_weir (g : LeveeX → LeveeX) : (m.modLev g).weir = m.weir := rfl
@[simp] theorem modLev_pw (g : LeveeX → LeveeX) : (m.modLev g).pw = m.pw := rfl
@[simp] theorem modLev_cry (g : LeveeX → LeveeX) : (m.modLev g).cry = m.cry := rfl
@[simp] theorem modLev_sluices (g : LeveeX → LeveeX) : (m.modLev g).sluices = m.sluices := rfl
@[simp] theorem modLev_links (g : LeveeX → LeveeX) : (m.modLev g).links = m.links := rfl
@[simp] theorem modLev_turn (g : LeveeX → LeveeX) : (m.modLev g).turn = m.turn := rfl
@[simp] theorem modLev_shared (g : LeveeX → LeveeX) : (m.modLev g).shared = m.shared := rfl
@[simp] theorem modLev_twin (g : LeveeX → LeveeX) : (m.modLev g).twin = m.twin := rfl
@[simp] theorem modLev_boot (g : LeveeX → LeveeX) : (m.modLev g).boot = m.boot := rfl
@[simp] theorem modLev_straps (g : LeveeX → LeveeX) : (m.modLev g).straps = m.straps := rfl
@[simp] theorem modLev_serial (g : LeveeX → LeveeX) : (m.modLev g).serial = m.serial := rfl
@[simp] theorem modLev_order (g : LeveeX → LeveeX) : (m.modLev g).order = m.order := rfl
@[simp] theorem modLev_rd (g : LeveeX → LeveeX) (h : Field) (j k : Nat) : (m.modLev g).rd h j k = m.rd h j k := rfl
@[simp] theorem modLev_flag (g : LeveeX → LeveeX) (h : Field) (j k : Nat) : (m.modLev g).flag h j k = m.flag h j k := rfl

/-! `modSip` -/

@[simp] theorem modSip_tide (g : SiphonX → SiphonX) : (m.modSip g).tide = m.tide := rfl
@[simp] theorem modSip_regs (g : SiphonX → SiphonX) : (m.modSip g).regs = m.regs := rfl
@[simp] theorem modSip_free (g : SiphonX → SiphonX) : (m.modSip g).free = m.free := rfl
@[simp] theorem modSip_blkEvt (g : SiphonX → SiphonX) : (m.modSip g).blkEvt = m.blkEvt := rfl
@[simp] theorem modSip_frozen (g : SiphonX → SiphonX) : (m.modSip g).frozen = m.frozen := rfl
@[simp] theorem modSip_snapDev (g : SiphonX → SiphonX) : (m.modSip g).snapDev = m.snapDev := rfl
@[simp] theorem modSip_out (g : SiphonX → SiphonX) : (m.modSip g).out = m.out := rfl
@[simp] theorem modSip_clk (g : SiphonX → SiphonX) : (m.modSip g).clk = m.clk := rfl
@[simp] theorem modSip_commits (g : SiphonX → SiphonX) : (m.modSip g).commits = m.commits := rfl
@[simp] theorem modSip_gb (g : SiphonX → SiphonX) : (m.modSip g).gb = m.gb := rfl
@[simp] theorem modSip_ports (g : SiphonX → SiphonX) : (m.modSip g).ports = m.ports := rfl
@[simp] theorem modSip_memActive (g : SiphonX → SiphonX) : (m.modSip g).memActive = m.memActive := rfl
@[simp] theorem modSip_ddtGen (g : SiphonX → SiphonX) : (m.modSip g).ddtGen = m.ddtGen := rfl
@[simp] theorem modSip_mover (g : SiphonX → SiphonX) : (m.modSip g).mover = m.mover := rfl
@[simp] theorem modSip_st (g : SiphonX → SiphonX) : (m.modSip g).st = m.st := rfl
@[simp] theorem modSip_lev (g : SiphonX → SiphonX) : (m.modSip g).lev = m.lev := rfl
@[simp] theorem modSip_canals (g : SiphonX → SiphonX) : (m.modSip g).canals = m.canals := rfl
@[simp] theorem modSip_rows (g : SiphonX → SiphonX) : (m.modSip g).rows = m.rows := rfl
@[simp] theorem modSip_wire (g : SiphonX → SiphonX) : (m.modSip g).wire = m.wire := rfl
@[simp] theorem modSip_weir (g : SiphonX → SiphonX) : (m.modSip g).weir = m.weir := rfl
@[simp] theorem modSip_pw (g : SiphonX → SiphonX) : (m.modSip g).pw = m.pw := rfl
@[simp] theorem modSip_cry (g : SiphonX → SiphonX) : (m.modSip g).cry = m.cry := rfl
@[simp] theorem modSip_sluices (g : SiphonX → SiphonX) : (m.modSip g).sluices = m.sluices := rfl
@[simp] theorem modSip_links (g : SiphonX → SiphonX) : (m.modSip g).links = m.links := rfl
@[simp] theorem modSip_turn (g : SiphonX → SiphonX) : (m.modSip g).turn = m.turn := rfl
@[simp] theorem modSip_shared (g : SiphonX → SiphonX) : (m.modSip g).shared = m.shared := rfl
@[simp] theorem modSip_twin (g : SiphonX → SiphonX) : (m.modSip g).twin = m.twin := rfl
@[simp] theorem modSip_boot (g : SiphonX → SiphonX) : (m.modSip g).boot = m.boot := rfl
@[simp] theorem modSip_straps (g : SiphonX → SiphonX) : (m.modSip g).straps = m.straps := rfl
@[simp] theorem modSip_serial (g : SiphonX → SiphonX) : (m.modSip g).serial = m.serial := rfl
@[simp] theorem modSip_order (g : SiphonX → SiphonX) : (m.modSip g).order = m.order := rfl
@[simp] theorem modSip_rd (g : SiphonX → SiphonX) (h : Field) (j k : Nat) : (m.modSip g).rd h j k = m.rd h j k := rfl
@[simp] theorem modSip_flag (g : SiphonX → SiphonX) (h : Field) (j k : Nat) : (m.modSip g).flag h j k = m.flag h j k := rfl

/-! `modCanal` -/

@[simp] theorem modCanal_tide (c : Nat) (g : CanalX → CanalX) : (m.modCanal c g).tide = m.tide := rfl
@[simp] theorem modCanal_regs (c : Nat) (g : CanalX → CanalX) : (m.modCanal c g).regs = m.regs := rfl
@[simp] theorem modCanal_free (c : Nat) (g : CanalX → CanalX) : (m.modCanal c g).free = m.free := rfl
@[simp] theorem modCanal_blkEvt (c : Nat) (g : CanalX → CanalX) : (m.modCanal c g).blkEvt = m.blkEvt := rfl
@[simp] theorem modCanal_frozen (c : Nat) (g : CanalX → CanalX) : (m.modCanal c g).frozen = m.frozen := rfl
@[simp] theorem modCanal_snapDev (c : Nat) (g : CanalX → CanalX) : (m.modCanal c g).snapDev = m.snapDev := rfl
@[simp] theorem modCanal_out (c : Nat) (g : CanalX → CanalX) : (m.modCanal c g).out = m.out := rfl
@[simp] theorem modCanal_clk (c : Nat) (g : CanalX → CanalX) : (m.modCanal c g).clk = m.clk := rfl
@[simp] theorem modCanal_commits (c : Nat) (g : CanalX → CanalX) : (m.modCanal c g).commits = m.commits := rfl
@[simp] theorem modCanal_gb (c : Nat) (g : CanalX → CanalX) : (m.modCanal c g).gb = m.gb := rfl
@[simp] theorem modCanal_ports (c : Nat) (g : CanalX → CanalX) : (m.modCanal c g).ports = m.ports := rfl
@[simp] theorem modCanal_memActive (c : Nat) (g : CanalX → CanalX) : (m.modCanal c g).memActive = m.memActive := rfl
@[simp] theorem modCanal_ddtGen (c : Nat) (g : CanalX → CanalX) : (m.modCanal c g).ddtGen = m.ddtGen := rfl
@[simp] theorem modCanal_mover (c : Nat) (g : CanalX → CanalX) : (m.modCanal c g).mover = m.mover := rfl
@[simp] theorem modCanal_st (c : Nat) (g : CanalX → CanalX) : (m.modCanal c g).st = m.st := rfl
@[simp] theorem modCanal_lev (c : Nat) (g : CanalX → CanalX) : (m.modCanal c g).lev = m.lev := rfl
@[simp] theorem modCanal_sip (c : Nat) (g : CanalX → CanalX) : (m.modCanal c g).sip = m.sip := rfl
@[simp] theorem modCanal_rows (c : Nat) (g : CanalX → CanalX) : (m.modCanal c g).rows = m.rows := rfl
@[simp] theorem modCanal_wire (c : Nat) (g : CanalX → CanalX) : (m.modCanal c g).wire = m.wire := rfl
@[simp] theorem modCanal_weir (c : Nat) (g : CanalX → CanalX) : (m.modCanal c g).weir = m.weir := rfl
@[simp] theorem modCanal_pw (c : Nat) (g : CanalX → CanalX) : (m.modCanal c g).pw = m.pw := rfl
@[simp] theorem modCanal_cry (c : Nat) (g : CanalX → CanalX) : (m.modCanal c g).cry = m.cry := rfl
@[simp] theorem modCanal_sluices (c : Nat) (g : CanalX → CanalX) : (m.modCanal c g).sluices = m.sluices := rfl
@[simp] theorem modCanal_links (c : Nat) (g : CanalX → CanalX) : (m.modCanal c g).links = m.links := rfl
@[simp] theorem modCanal_turn (c : Nat) (g : CanalX → CanalX) : (m.modCanal c g).turn = m.turn := rfl
@[simp] theorem modCanal_shared (c : Nat) (g : CanalX → CanalX) : (m.modCanal c g).shared = m.shared := rfl
@[simp] theorem modCanal_twin (c : Nat) (g : CanalX → CanalX) : (m.modCanal c g).twin = m.twin := rfl
@[simp] theorem modCanal_boot (c : Nat) (g : CanalX → CanalX) : (m.modCanal c g).boot = m.boot := rfl
@[simp] theorem modCanal_straps (c : Nat) (g : CanalX → CanalX) : (m.modCanal c g).straps = m.straps := rfl
@[simp] theorem modCanal_serial (c : Nat) (g : CanalX → CanalX) : (m.modCanal c g).serial = m.serial := rfl
@[simp] theorem modCanal_order (c : Nat) (g : CanalX → CanalX) : (m.modCanal c g).order = m.order := rfl
@[simp] theorem modCanal_rd (c : Nat) (g : CanalX → CanalX) (h : Field) (j k : Nat) : (m.modCanal c g).rd h j k = m.rd h j k := rfl
@[simp] theorem modCanal_flag (c : Nat) (g : CanalX → CanalX) (h : Field) (j k : Nat) : (m.modCanal c g).flag h j k = m.flag h j k := rfl

/-! `modLink` -/

@[simp] theorem modLink_tide (l : Nat) (g : LinkX → LinkX) : (m.modLink l g).tide = m.tide := rfl
@[simp] theorem modLink_regs (l : Nat) (g : LinkX → LinkX) : (m.modLink l g).regs = m.regs := rfl
@[simp] theorem modLink_free (l : Nat) (g : LinkX → LinkX) : (m.modLink l g).free = m.free := rfl
@[simp] theorem modLink_blkEvt (l : Nat) (g : LinkX → LinkX) : (m.modLink l g).blkEvt = m.blkEvt := rfl
@[simp] theorem modLink_frozen (l : Nat) (g : LinkX → LinkX) : (m.modLink l g).frozen = m.frozen := rfl
@[simp] theorem modLink_snapDev (l : Nat) (g : LinkX → LinkX) : (m.modLink l g).snapDev = m.snapDev := rfl
@[simp] theorem modLink_out (l : Nat) (g : LinkX → LinkX) : (m.modLink l g).out = m.out := rfl
@[simp] theorem modLink_clk (l : Nat) (g : LinkX → LinkX) : (m.modLink l g).clk = m.clk := rfl
@[simp] theorem modLink_commits (l : Nat) (g : LinkX → LinkX) : (m.modLink l g).commits = m.commits := rfl
@[simp] theorem modLink_gb (l : Nat) (g : LinkX → LinkX) : (m.modLink l g).gb = m.gb := rfl
@[simp] theorem modLink_ports (l : Nat) (g : LinkX → LinkX) : (m.modLink l g).ports = m.ports := rfl
@[simp] theorem modLink_memActive (l : Nat) (g : LinkX → LinkX) : (m.modLink l g).memActive = m.memActive := rfl
@[simp] theorem modLink_ddtGen (l : Nat) (g : LinkX → LinkX) : (m.modLink l g).ddtGen = m.ddtGen := rfl
@[simp] theorem modLink_mover (l : Nat) (g : LinkX → LinkX) : (m.modLink l g).mover = m.mover := rfl
@[simp] theorem modLink_st (l : Nat) (g : LinkX → LinkX) : (m.modLink l g).st = m.st := rfl
@[simp] theorem modLink_lev (l : Nat) (g : LinkX → LinkX) : (m.modLink l g).lev = m.lev := rfl
@[simp] theorem modLink_sip (l : Nat) (g : LinkX → LinkX) : (m.modLink l g).sip = m.sip := rfl
@[simp] theorem modLink_canals (l : Nat) (g : LinkX → LinkX) : (m.modLink l g).canals = m.canals := rfl
@[simp] theorem modLink_rows (l : Nat) (g : LinkX → LinkX) : (m.modLink l g).rows = m.rows := rfl
@[simp] theorem modLink_wire (l : Nat) (g : LinkX → LinkX) : (m.modLink l g).wire = m.wire := rfl
@[simp] theorem modLink_weir (l : Nat) (g : LinkX → LinkX) : (m.modLink l g).weir = m.weir := rfl
@[simp] theorem modLink_pw (l : Nat) (g : LinkX → LinkX) : (m.modLink l g).pw = m.pw := rfl
@[simp] theorem modLink_cry (l : Nat) (g : LinkX → LinkX) : (m.modLink l g).cry = m.cry := rfl
@[simp] theorem modLink_sluices (l : Nat) (g : LinkX → LinkX) : (m.modLink l g).sluices = m.sluices := rfl
@[simp] theorem modLink_turn (l : Nat) (g : LinkX → LinkX) : (m.modLink l g).turn = m.turn := rfl
@[simp] theorem modLink_shared (l : Nat) (g : LinkX → LinkX) : (m.modLink l g).shared = m.shared := rfl
@[simp] theorem modLink_twin (l : Nat) (g : LinkX → LinkX) : (m.modLink l g).twin = m.twin := rfl
@[simp] theorem modLink_boot (l : Nat) (g : LinkX → LinkX) : (m.modLink l g).boot = m.boot := rfl
@[simp] theorem modLink_straps (l : Nat) (g : LinkX → LinkX) : (m.modLink l g).straps = m.straps := rfl
@[simp] theorem modLink_serial (l : Nat) (g : LinkX → LinkX) : (m.modLink l g).serial = m.serial := rfl
@[simp] theorem modLink_order (l : Nat) (g : LinkX → LinkX) : (m.modLink l g).order = m.order := rfl
@[simp] theorem modLink_rd (l : Nat) (g : LinkX → LinkX) (h : Field) (j k : Nat) : (m.modLink l g).rd h j k = m.rd h j k := rfl
@[simp] theorem modLink_flag (l : Nat) (g : LinkX → LinkX) (h : Field) (j k : Nat) : (m.modLink l g).flag h j k = m.flag h j k := rfl

/-! `modTurn` -/

@[simp] theorem modTurn_tide (g : TurnX → TurnX) : (m.modTurn g).tide = m.tide := rfl
@[simp] theorem modTurn_regs (g : TurnX → TurnX) : (m.modTurn g).regs = m.regs := rfl
@[simp] theorem modTurn_free (g : TurnX → TurnX) : (m.modTurn g).free = m.free := rfl
@[simp] theorem modTurn_blkEvt (g : TurnX → TurnX) : (m.modTurn g).blkEvt = m.blkEvt := rfl
@[simp] theorem modTurn_frozen (g : TurnX → TurnX) : (m.modTurn g).frozen = m.frozen := rfl
@[simp] theorem modTurn_snapDev (g : TurnX → TurnX) : (m.modTurn g).snapDev = m.snapDev := rfl
@[simp] theorem modTurn_out (g : TurnX → TurnX) : (m.modTurn g).out = m.out := rfl
@[simp] theorem modTurn_clk (g : TurnX → TurnX) : (m.modTurn g).clk = m.clk := rfl
@[simp] theorem modTurn_commits (g : TurnX → TurnX) : (m.modTurn g).commits = m.commits := rfl
@[simp] theorem modTurn_gb (g : TurnX → TurnX) : (m.modTurn g).gb = m.gb := rfl
@[simp] theorem modTurn_ports (g : TurnX → TurnX) : (m.modTurn g).ports = m.ports := rfl
@[simp] theorem modTurn_memActive (g : TurnX → TurnX) : (m.modTurn g).memActive = m.memActive := rfl
@[simp] theorem modTurn_ddtGen (g : TurnX → TurnX) : (m.modTurn g).ddtGen = m.ddtGen := rfl
@[simp] theorem modTurn_mover (g : TurnX → TurnX) : (m.modTurn g).mover = m.mover := rfl
@[simp] theorem modTurn_st (g : TurnX → TurnX) : (m.modTurn g).st = m.st := rfl
@[simp] theorem modTurn_lev (g : TurnX → TurnX) : (m.modTurn g).lev = m.lev := rfl
@[simp] theorem modTurn_sip (g : TurnX → TurnX) : (m.modTurn g).sip = m.sip := rfl
@[simp] theorem modTurn_canals (g : TurnX → TurnX) : (m.modTurn g).canals = m.canals := rfl
@[simp] theorem modTurn_rows (g : TurnX → TurnX) : (m.modTurn g).rows = m.rows := rfl
@[simp] theorem modTurn_wire (g : TurnX → TurnX) : (m.modTurn g).wire = m.wire := rfl
@[simp] theorem modTurn_weir (g : TurnX → TurnX) : (m.modTurn g).weir = m.weir := rfl
@[simp] theorem modTurn_pw (g : TurnX → TurnX) : (m.modTurn g).pw = m.pw := rfl
@[simp] theorem modTurn_cry (g : TurnX → TurnX) : (m.modTurn g).cry = m.cry := rfl
@[simp] theorem modTurn_sluices (g : TurnX → TurnX) : (m.modTurn g).sluices = m.sluices := rfl
@[simp] theorem modTurn_links (g : TurnX → TurnX) : (m.modTurn g).links = m.links := rfl
@[simp] theorem modTurn_shared (g : TurnX → TurnX) : (m.modTurn g).shared = m.shared := rfl
@[simp] theorem modTurn_twin (g : TurnX → TurnX) : (m.modTurn g).twin = m.twin := rfl
@[simp] theorem modTurn_boot (g : TurnX → TurnX) : (m.modTurn g).boot = m.boot := rfl
@[simp] theorem modTurn_straps (g : TurnX → TurnX) : (m.modTurn g).straps = m.straps := rfl
@[simp] theorem modTurn_serial (g : TurnX → TurnX) : (m.modTurn g).serial = m.serial := rfl
@[simp] theorem modTurn_order (g : TurnX → TurnX) : (m.modTurn g).order = m.order := rfl
@[simp] theorem modTurn_rd (g : TurnX → TurnX) (h : Field) (j k : Nat) : (m.modTurn g).rd h j k = m.rd h j k := rfl
@[simp] theorem modTurn_flag (g : TurnX → TurnX) (h : Field) (j k : Nat) : (m.modTurn g).flag h j k = m.flag h j k := rfl

/-! `modTwin` -/

@[simp] theorem modTwin_tide (g : TwinX → TwinX) : (m.modTwin g).tide = m.tide := rfl
@[simp] theorem modTwin_regs (g : TwinX → TwinX) : (m.modTwin g).regs = m.regs := rfl
@[simp] theorem modTwin_free (g : TwinX → TwinX) : (m.modTwin g).free = m.free := rfl
@[simp] theorem modTwin_blkEvt (g : TwinX → TwinX) : (m.modTwin g).blkEvt = m.blkEvt := rfl
@[simp] theorem modTwin_frozen (g : TwinX → TwinX) : (m.modTwin g).frozen = m.frozen := rfl
@[simp] theorem modTwin_snapDev (g : TwinX → TwinX) : (m.modTwin g).snapDev = m.snapDev := rfl
@[simp] theorem modTwin_out (g : TwinX → TwinX) : (m.modTwin g).out = m.out := rfl
@[simp] theorem modTwin_clk (g : TwinX → TwinX) : (m.modTwin g).clk = m.clk := rfl
@[simp] theorem modTwin_commits (g : TwinX → TwinX) : (m.modTwin g).commits = m.commits := rfl
@[simp] theorem modTwin_gb (g : TwinX → TwinX) : (m.modTwin g).gb = m.gb := rfl
@[simp] theorem modTwin_ports (g : TwinX → TwinX) : (m.modTwin g).ports = m.ports := rfl
@[simp] theorem modTwin_memActive (g : TwinX → TwinX) : (m.modTwin g).memActive = m.memActive := rfl
@[simp] theorem modTwin_ddtGen (g : TwinX → TwinX) : (m.modTwin g).ddtGen = m.ddtGen := rfl
@[simp] theorem modTwin_mover (g : TwinX → TwinX) : (m.modTwin g).mover = m.mover := rfl
@[simp] theorem modTwin_st (g : TwinX → TwinX) : (m.modTwin g).st = m.st := rfl
@[simp] theorem modTwin_lev (g : TwinX → TwinX) : (m.modTwin g).lev = m.lev := rfl
@[simp] theorem modTwin_sip (g : TwinX → TwinX) : (m.modTwin g).sip = m.sip := rfl
@[simp] theorem modTwin_canals (g : TwinX → TwinX) : (m.modTwin g).canals = m.canals := rfl
@[simp] theorem modTwin_rows (g : TwinX → TwinX) : (m.modTwin g).rows = m.rows := rfl
@[simp] theorem modTwin_wire (g : TwinX → TwinX) : (m.modTwin g).wire = m.wire := rfl
@[simp] theorem modTwin_weir (g : TwinX → TwinX) : (m.modTwin g).weir = m.weir := rfl
@[simp] theorem modTwin_pw (g : TwinX → TwinX) : (m.modTwin g).pw = m.pw := rfl
@[simp] theorem modTwin_cry (g : TwinX → TwinX) : (m.modTwin g).cry = m.cry := rfl
@[simp] theorem modTwin_sluices (g : TwinX → TwinX) : (m.modTwin g).sluices = m.sluices := rfl
@[simp] theorem modTwin_links (g : TwinX → TwinX) : (m.modTwin g).links = m.links := rfl
@[simp] theorem modTwin_turn (g : TwinX → TwinX) : (m.modTwin g).turn = m.turn := rfl
@[simp] theorem modTwin_shared (g : TwinX → TwinX) : (m.modTwin g).shared = m.shared := rfl
@[simp] theorem modTwin_boot (g : TwinX → TwinX) : (m.modTwin g).boot = m.boot := rfl
@[simp] theorem modTwin_straps (g : TwinX → TwinX) : (m.modTwin g).straps = m.straps := rfl
@[simp] theorem modTwin_serial (g : TwinX → TwinX) : (m.modTwin g).serial = m.serial := rfl
@[simp] theorem modTwin_order (g : TwinX → TwinX) : (m.modTwin g).order = m.order := rfl
@[simp] theorem modTwin_rd (g : TwinX → TwinX) (h : Field) (j k : Nat) : (m.modTwin g).rd h j k = m.rd h j k := rfl
@[simp] theorem modTwin_flag (g : TwinX → TwinX) (h : Field) (j k : Nat) : (m.modTwin g).flag h j k = m.flag h j k := rfl

/-! `modShared` -/

@[simp] theorem modShared_tide (g : SharedX → SharedX) : (m.modShared g).tide = m.tide := rfl
@[simp] theorem modShared_regs (g : SharedX → SharedX) : (m.modShared g).regs = m.regs := rfl
@[simp] theorem modShared_free (g : SharedX → SharedX) : (m.modShared g).free = m.free := rfl
@[simp] theorem modShared_blkEvt (g : SharedX → SharedX) : (m.modShared g).blkEvt = m.blkEvt := rfl
@[simp] theorem modShared_frozen (g : SharedX → SharedX) : (m.modShared g).frozen = m.frozen := rfl
@[simp] theorem modShared_snapDev (g : SharedX → SharedX) : (m.modShared g).snapDev = m.snapDev := rfl
@[simp] theorem modShared_out (g : SharedX → SharedX) : (m.modShared g).out = m.out := rfl
@[simp] theorem modShared_clk (g : SharedX → SharedX) : (m.modShared g).clk = m.clk := rfl
@[simp] theorem modShared_commits (g : SharedX → SharedX) : (m.modShared g).commits = m.commits := rfl
@[simp] theorem modShared_gb (g : SharedX → SharedX) : (m.modShared g).gb = m.gb := rfl
@[simp] theorem modShared_ports (g : SharedX → SharedX) : (m.modShared g).ports = m.ports := rfl
@[simp] theorem modShared_memActive (g : SharedX → SharedX) : (m.modShared g).memActive = m.memActive := rfl
@[simp] theorem modShared_ddtGen (g : SharedX → SharedX) : (m.modShared g).ddtGen = m.ddtGen := rfl
@[simp] theorem modShared_mover (g : SharedX → SharedX) : (m.modShared g).mover = m.mover := rfl
@[simp] theorem modShared_st (g : SharedX → SharedX) : (m.modShared g).st = m.st := rfl
@[simp] theorem modShared_lev (g : SharedX → SharedX) : (m.modShared g).lev = m.lev := rfl
@[simp] theorem modShared_sip (g : SharedX → SharedX) : (m.modShared g).sip = m.sip := rfl
@[simp] theorem modShared_canals (g : SharedX → SharedX) : (m.modShared g).canals = m.canals := rfl
@[simp] theorem modShared_rows (g : SharedX → SharedX) : (m.modShared g).rows = m.rows := rfl
@[simp] theorem modShared_wire (g : SharedX → SharedX) : (m.modShared g).wire = m.wire := rfl
@[simp] theorem modShared_weir (g : SharedX → SharedX) : (m.modShared g).weir = m.weir := rfl
@[simp] theorem modShared_pw (g : SharedX → SharedX) : (m.modShared g).pw = m.pw := rfl
@[simp] theorem modShared_cry (g : SharedX → SharedX) : (m.modShared g).cry = m.cry := rfl
@[simp] theorem modShared_sluices (g : SharedX → SharedX) : (m.modShared g).sluices = m.sluices := rfl
@[simp] theorem modShared_links (g : SharedX → SharedX) : (m.modShared g).links = m.links := rfl
@[simp] theorem modShared_turn (g : SharedX → SharedX) : (m.modShared g).turn = m.turn := rfl
@[simp] theorem modShared_twin (g : SharedX → SharedX) : (m.modShared g).twin = m.twin := rfl
@[simp] theorem modShared_boot (g : SharedX → SharedX) : (m.modShared g).boot = m.boot := rfl
@[simp] theorem modShared_straps (g : SharedX → SharedX) : (m.modShared g).straps = m.straps := rfl
@[simp] theorem modShared_serial (g : SharedX → SharedX) : (m.modShared g).serial = m.serial := rfl
@[simp] theorem modShared_order (g : SharedX → SharedX) : (m.modShared g).order = m.order := rfl
@[simp] theorem modShared_rd (g : SharedX → SharedX) (h : Field) (j k : Nat) : (m.modShared g).rd h j k = m.rd h j k := rfl
@[simp] theorem modShared_flag (g : SharedX → SharedX) (h : Field) (j k : Nat) : (m.modShared g).flag h j k = m.flag h j k := rfl

/-! `modSlu` -/

@[simp] theorem modSlu_tide (c : Nat) (g : SluiceX → SluiceX) : (m.modSlu c g).tide = m.tide := rfl
@[simp] theorem modSlu_regs (c : Nat) (g : SluiceX → SluiceX) : (m.modSlu c g).regs = m.regs := rfl
@[simp] theorem modSlu_free (c : Nat) (g : SluiceX → SluiceX) : (m.modSlu c g).free = m.free := rfl
@[simp] theorem modSlu_blkEvt (c : Nat) (g : SluiceX → SluiceX) : (m.modSlu c g).blkEvt = m.blkEvt := rfl
@[simp] theorem modSlu_frozen (c : Nat) (g : SluiceX → SluiceX) : (m.modSlu c g).frozen = m.frozen := rfl
@[simp] theorem modSlu_snapDev (c : Nat) (g : SluiceX → SluiceX) : (m.modSlu c g).snapDev = m.snapDev := rfl
@[simp] theorem modSlu_out (c : Nat) (g : SluiceX → SluiceX) : (m.modSlu c g).out = m.out := rfl
@[simp] theorem modSlu_clk (c : Nat) (g : SluiceX → SluiceX) : (m.modSlu c g).clk = m.clk := rfl
@[simp] theorem modSlu_commits (c : Nat) (g : SluiceX → SluiceX) : (m.modSlu c g).commits = m.commits := rfl
@[simp] theorem modSlu_gb (c : Nat) (g : SluiceX → SluiceX) : (m.modSlu c g).gb = m.gb := rfl
@[simp] theorem modSlu_ports (c : Nat) (g : SluiceX → SluiceX) : (m.modSlu c g).ports = m.ports := rfl
@[simp] theorem modSlu_memActive (c : Nat) (g : SluiceX → SluiceX) : (m.modSlu c g).memActive = m.memActive := rfl
@[simp] theorem modSlu_ddtGen (c : Nat) (g : SluiceX → SluiceX) : (m.modSlu c g).ddtGen = m.ddtGen := rfl
@[simp] theorem modSlu_mover (c : Nat) (g : SluiceX → SluiceX) : (m.modSlu c g).mover = m.mover := rfl
@[simp] theorem modSlu_st (c : Nat) (g : SluiceX → SluiceX) : (m.modSlu c g).st = m.st := rfl
@[simp] theorem modSlu_lev (c : Nat) (g : SluiceX → SluiceX) : (m.modSlu c g).lev = m.lev := rfl
@[simp] theorem modSlu_sip (c : Nat) (g : SluiceX → SluiceX) : (m.modSlu c g).sip = m.sip := rfl
@[simp] theorem modSlu_canals (c : Nat) (g : SluiceX → SluiceX) : (m.modSlu c g).canals = m.canals := rfl
@[simp] theorem modSlu_rows (c : Nat) (g : SluiceX → SluiceX) : (m.modSlu c g).rows = m.rows := rfl
@[simp] theorem modSlu_wire (c : Nat) (g : SluiceX → SluiceX) : (m.modSlu c g).wire = m.wire := rfl
@[simp] theorem modSlu_weir (c : Nat) (g : SluiceX → SluiceX) : (m.modSlu c g).weir = m.weir := rfl
@[simp] theorem modSlu_pw (c : Nat) (g : SluiceX → SluiceX) : (m.modSlu c g).pw = m.pw := rfl
@[simp] theorem modSlu_cry (c : Nat) (g : SluiceX → SluiceX) : (m.modSlu c g).cry = m.cry := rfl
@[simp] theorem modSlu_links (c : Nat) (g : SluiceX → SluiceX) : (m.modSlu c g).links = m.links := rfl
@[simp] theorem modSlu_turn (c : Nat) (g : SluiceX → SluiceX) : (m.modSlu c g).turn = m.turn := rfl
@[simp] theorem modSlu_shared (c : Nat) (g : SluiceX → SluiceX) : (m.modSlu c g).shared = m.shared := rfl
@[simp] theorem modSlu_twin (c : Nat) (g : SluiceX → SluiceX) : (m.modSlu c g).twin = m.twin := rfl
@[simp] theorem modSlu_boot (c : Nat) (g : SluiceX → SluiceX) : (m.modSlu c g).boot = m.boot := rfl
@[simp] theorem modSlu_straps (c : Nat) (g : SluiceX → SluiceX) : (m.modSlu c g).straps = m.straps := rfl
@[simp] theorem modSlu_serial (c : Nat) (g : SluiceX → SluiceX) : (m.modSlu c g).serial = m.serial := rfl
@[simp] theorem modSlu_order (c : Nat) (g : SluiceX → SluiceX) : (m.modSlu c g).order = m.order := rfl
@[simp] theorem modSlu_rd (c : Nat) (g : SluiceX → SluiceX) (h : Field) (j k : Nat) : (m.modSlu c g).rd h j k = m.rd h j k := rfl
@[simp] theorem modSlu_flag (c : Nat) (g : SluiceX → SluiceX) (h : Field) (j k : Nat) : (m.modSlu c g).flag h j k = m.flag h j k := rfl

/-! `modCry` -/

@[simp] theorem modCry_tide (g : CryptoX → CryptoX) : (m.modCry g).tide = m.tide := rfl
@[simp] theorem modCry_regs (g : CryptoX → CryptoX) : (m.modCry g).regs = m.regs := rfl
@[simp] theorem modCry_free (g : CryptoX → CryptoX) : (m.modCry g).free = m.free := rfl
@[simp] theorem modCry_blkEvt (g : CryptoX → CryptoX) : (m.modCry g).blkEvt = m.blkEvt := rfl
@[simp] theorem modCry_frozen (g : CryptoX → CryptoX) : (m.modCry g).frozen = m.frozen := rfl
@[simp] theorem modCry_snapDev (g : CryptoX → CryptoX) : (m.modCry g).snapDev = m.snapDev := rfl
@[simp] theorem modCry_out (g : CryptoX → CryptoX) : (m.modCry g).out = m.out := rfl
@[simp] theorem modCry_clk (g : CryptoX → CryptoX) : (m.modCry g).clk = m.clk := rfl
@[simp] theorem modCry_commits (g : CryptoX → CryptoX) : (m.modCry g).commits = m.commits := rfl
@[simp] theorem modCry_gb (g : CryptoX → CryptoX) : (m.modCry g).gb = m.gb := rfl
@[simp] theorem modCry_ports (g : CryptoX → CryptoX) : (m.modCry g).ports = m.ports := rfl
@[simp] theorem modCry_memActive (g : CryptoX → CryptoX) : (m.modCry g).memActive = m.memActive := rfl
@[simp] theorem modCry_ddtGen (g : CryptoX → CryptoX) : (m.modCry g).ddtGen = m.ddtGen := rfl
@[simp] theorem modCry_mover (g : CryptoX → CryptoX) : (m.modCry g).mover = m.mover := rfl
@[simp] theorem modCry_st (g : CryptoX → CryptoX) : (m.modCry g).st = m.st := rfl
@[simp] theorem modCry_lev (g : CryptoX → CryptoX) : (m.modCry g).lev = m.lev := rfl
@[simp] theorem modCry_sip (g : CryptoX → CryptoX) : (m.modCry g).sip = m.sip := rfl
@[simp] theorem modCry_canals (g : CryptoX → CryptoX) : (m.modCry g).canals = m.canals := rfl
@[simp] theorem modCry_rows (g : CryptoX → CryptoX) : (m.modCry g).rows = m.rows := rfl
@[simp] theorem modCry_wire (g : CryptoX → CryptoX) : (m.modCry g).wire = m.wire := rfl
@[simp] theorem modCry_weir (g : CryptoX → CryptoX) : (m.modCry g).weir = m.weir := rfl
@[simp] theorem modCry_pw (g : CryptoX → CryptoX) : (m.modCry g).pw = m.pw := rfl
@[simp] theorem modCry_sluices (g : CryptoX → CryptoX) : (m.modCry g).sluices = m.sluices := rfl
@[simp] theorem modCry_links (g : CryptoX → CryptoX) : (m.modCry g).links = m.links := rfl
@[simp] theorem modCry_turn (g : CryptoX → CryptoX) : (m.modCry g).turn = m.turn := rfl
@[simp] theorem modCry_shared (g : CryptoX → CryptoX) : (m.modCry g).shared = m.shared := rfl
@[simp] theorem modCry_twin (g : CryptoX → CryptoX) : (m.modCry g).twin = m.twin := rfl
@[simp] theorem modCry_boot (g : CryptoX → CryptoX) : (m.modCry g).boot = m.boot := rfl
@[simp] theorem modCry_straps (g : CryptoX → CryptoX) : (m.modCry g).straps = m.straps := rfl
@[simp] theorem modCry_serial (g : CryptoX → CryptoX) : (m.modCry g).serial = m.serial := rfl
@[simp] theorem modCry_order (g : CryptoX → CryptoX) : (m.modCry g).order = m.order := rfl
@[simp] theorem modCry_rd (g : CryptoX → CryptoX) (h : Field) (j k : Nat) : (m.modCry g).rd h j k = m.rd h j k := rfl
@[simp] theorem modCry_flag (g : CryptoX → CryptoX) (h : Field) (j k : Nat) : (m.modCry g).flag h j k = m.flag h j k := rfl

/-! `modBoot` -/

@[simp] theorem modBoot_tide (g : BootX → BootX) : (m.modBoot g).tide = m.tide := rfl
@[simp] theorem modBoot_regs (g : BootX → BootX) : (m.modBoot g).regs = m.regs := rfl
@[simp] theorem modBoot_free (g : BootX → BootX) : (m.modBoot g).free = m.free := rfl
@[simp] theorem modBoot_blkEvt (g : BootX → BootX) : (m.modBoot g).blkEvt = m.blkEvt := rfl
@[simp] theorem modBoot_frozen (g : BootX → BootX) : (m.modBoot g).frozen = m.frozen := rfl
@[simp] theorem modBoot_snapDev (g : BootX → BootX) : (m.modBoot g).snapDev = m.snapDev := rfl
@[simp] theorem modBoot_out (g : BootX → BootX) : (m.modBoot g).out = m.out := rfl
@[simp] theorem modBoot_clk (g : BootX → BootX) : (m.modBoot g).clk = m.clk := rfl
@[simp] theorem modBoot_commits (g : BootX → BootX) : (m.modBoot g).commits = m.commits := rfl
@[simp] theorem modBoot_gb (g : BootX → BootX) : (m.modBoot g).gb = m.gb := rfl
@[simp] theorem modBoot_ports (g : BootX → BootX) : (m.modBoot g).ports = m.ports := rfl
@[simp] theorem modBoot_memActive (g : BootX → BootX) : (m.modBoot g).memActive = m.memActive := rfl
@[simp] theorem modBoot_ddtGen (g : BootX → BootX) : (m.modBoot g).ddtGen = m.ddtGen := rfl
@[simp] theorem modBoot_mover (g : BootX → BootX) : (m.modBoot g).mover = m.mover := rfl
@[simp] theorem modBoot_st (g : BootX → BootX) : (m.modBoot g).st = m.st := rfl
@[simp] theorem modBoot_lev (g : BootX → BootX) : (m.modBoot g).lev = m.lev := rfl
@[simp] theorem modBoot_sip (g : BootX → BootX) : (m.modBoot g).sip = m.sip := rfl
@[simp] theorem modBoot_canals (g : BootX → BootX) : (m.modBoot g).canals = m.canals := rfl
@[simp] theorem modBoot_rows (g : BootX → BootX) : (m.modBoot g).rows = m.rows := rfl
@[simp] theorem modBoot_wire (g : BootX → BootX) : (m.modBoot g).wire = m.wire := rfl
@[simp] theorem modBoot_weir (g : BootX → BootX) : (m.modBoot g).weir = m.weir := rfl
@[simp] theorem modBoot_pw (g : BootX → BootX) : (m.modBoot g).pw = m.pw := rfl
@[simp] theorem modBoot_cry (g : BootX → BootX) : (m.modBoot g).cry = m.cry := rfl
@[simp] theorem modBoot_sluices (g : BootX → BootX) : (m.modBoot g).sluices = m.sluices := rfl
@[simp] theorem modBoot_links (g : BootX → BootX) : (m.modBoot g).links = m.links := rfl
@[simp] theorem modBoot_turn (g : BootX → BootX) : (m.modBoot g).turn = m.turn := rfl
@[simp] theorem modBoot_shared (g : BootX → BootX) : (m.modBoot g).shared = m.shared := rfl
@[simp] theorem modBoot_twin (g : BootX → BootX) : (m.modBoot g).twin = m.twin := rfl
@[simp] theorem modBoot_straps (g : BootX → BootX) : (m.modBoot g).straps = m.straps := rfl
@[simp] theorem modBoot_serial (g : BootX → BootX) : (m.modBoot g).serial = m.serial := rfl
@[simp] theorem modBoot_order (g : BootX → BootX) : (m.modBoot g).order = m.order := rfl
@[simp] theorem modBoot_rd (g : BootX → BootX) (h : Field) (j k : Nat) : (m.modBoot g).rd h j k = m.rd h j k := rfl
@[simp] theorem modBoot_flag (g : BootX → BootX) (h : Field) (j k : Nat) : (m.modBoot g).flag h j k = m.flag h j k := rfl

/-! `modWire` -/

@[simp] theorem modWire_tide (l : Nat) (g : WireX → WireX) : (m.modWire l g).tide = m.tide := rfl
@[simp] theorem modWire_regs (l : Nat) (g : WireX → WireX) : (m.modWire l g).regs = m.regs := rfl
@[simp] theorem modWire_free (l : Nat) (g : WireX → WireX) : (m.modWire l g).free = m.free := rfl
@[simp] theorem modWire_blkEvt (l : Nat) (g : WireX → WireX) : (m.modWire l g).blkEvt = m.blkEvt := rfl
@[simp] theorem modWire_frozen (l : Nat) (g : WireX → WireX) : (m.modWire l g).frozen = m.frozen := rfl
@[simp] theorem modWire_snapDev (l : Nat) (g : WireX → WireX) : (m.modWire l g).snapDev = m.snapDev := rfl
@[simp] theorem modWire_out (l : Nat) (g : WireX → WireX) : (m.modWire l g).out = m.out := rfl
@[simp] theorem modWire_clk (l : Nat) (g : WireX → WireX) : (m.modWire l g).clk = m.clk := rfl
@[simp] theorem modWire_commits (l : Nat) (g : WireX → WireX) : (m.modWire l g).commits = m.commits := rfl
@[simp] theorem modWire_gb (l : Nat) (g : WireX → WireX) : (m.modWire l g).gb = m.gb := rfl
@[simp] theorem modWire_ports (l : Nat) (g : WireX → WireX) : (m.modWire l g).ports = m.ports := rfl
@[simp] theorem modWire_memActive (l : Nat) (g : WireX → WireX) : (m.modWire l g).memActive = m.memActive := rfl
@[simp] theorem modWire_ddtGen (l : Nat) (g : WireX → WireX) : (m.modWire l g).ddtGen = m.ddtGen := rfl
@[simp] theorem modWire_mover (l : Nat) (g : WireX → WireX) : (m.modWire l g).mover = m.mover := rfl
@[simp] theorem modWire_st (l : Nat) (g : WireX → WireX) : (m.modWire l g).st = m.st := rfl
@[simp] theorem modWire_lev (l : Nat) (g : WireX → WireX) : (m.modWire l g).lev = m.lev := rfl
@[simp] theorem modWire_sip (l : Nat) (g : WireX → WireX) : (m.modWire l g).sip = m.sip := rfl
@[simp] theorem modWire_canals (l : Nat) (g : WireX → WireX) : (m.modWire l g).canals = m.canals := rfl
@[simp] theorem modWire_rows (l : Nat) (g : WireX → WireX) : (m.modWire l g).rows = m.rows := rfl
@[simp] theorem modWire_weir (l : Nat) (g : WireX → WireX) : (m.modWire l g).weir = m.weir := rfl
@[simp] theorem modWire_pw (l : Nat) (g : WireX → WireX) : (m.modWire l g).pw = m.pw := rfl
@[simp] theorem modWire_cry (l : Nat) (g : WireX → WireX) : (m.modWire l g).cry = m.cry := rfl
@[simp] theorem modWire_sluices (l : Nat) (g : WireX → WireX) : (m.modWire l g).sluices = m.sluices := rfl
@[simp] theorem modWire_links (l : Nat) (g : WireX → WireX) : (m.modWire l g).links = m.links := rfl
@[simp] theorem modWire_turn (l : Nat) (g : WireX → WireX) : (m.modWire l g).turn = m.turn := rfl
@[simp] theorem modWire_shared (l : Nat) (g : WireX → WireX) : (m.modWire l g).shared = m.shared := rfl
@[simp] theorem modWire_twin (l : Nat) (g : WireX → WireX) : (m.modWire l g).twin = m.twin := rfl
@[simp] theorem modWire_straps (l : Nat) (g : WireX → WireX) : (m.modWire l g).straps = m.straps := rfl
@[simp] theorem modWire_serial (l : Nat) (g : WireX → WireX) : (m.modWire l g).serial = m.serial := rfl
@[simp] theorem modWire_order (l : Nat) (g : WireX → WireX) : (m.modWire l g).order = m.order := rfl
@[simp] theorem modWire_boot (l : Nat) (g : WireX → WireX) : (m.modWire l g).boot = m.boot := rfl
@[simp] theorem modWire_rd (l : Nat) (g : WireX → WireX) (h : Field) (j k : Nat) : (m.modWire l g).rd h j k = m.rd h j k := rfl
@[simp] theorem modWire_flag (l : Nat) (g : WireX → WireX) (h : Field) (j k : Nat) : (m.modWire l g).flag h j k = m.flag h j k := rfl

/-! The changed field -/

@[simp] theorem at_tide (t : Nat) : (m.at t).tide = max m.tide t := rfl
@[simp] theorem nextFree_free : m.nextFree.free = m.free + 1 := rfl
@[simp] theorem emit_out (o : OutMsg) : (m.emit o).out = m.out ++ [o] := rfl
@[simp] theorem modGb_gb (g : GaugeX → GaugeX) : (m.modGb g).gb = g m.gb := rfl
@[simp] theorem modSt_st (g : StoreX → StoreX) : (m.modSt g).st = g m.st := rfl
@[simp] theorem modLev_lev (g : LeveeX → LeveeX) : (m.modLev g).lev = g m.lev := rfl
@[simp] theorem modSip_sip (g : SiphonX → SiphonX) : (m.modSip g).sip = g m.sip := rfl
@[simp] theorem modTurn_turn (g : TurnX → TurnX) : (m.modTurn g).turn = g m.turn := rfl
@[simp] theorem modTwin_twin (g : TwinX → TwinX) : (m.modTwin g).twin = g m.twin := rfl
@[simp] theorem modShared_shared (g : SharedX → SharedX) : (m.modShared g).shared = g m.shared := rfl
@[simp] theorem modCry_cry (g : CryptoX → CryptoX) : (m.modCry g).cry = g m.cry := rfl
@[simp] theorem modBoot_boot (g : BootX → BootX) : (m.modBoot g).boot = g m.boot := rfl

end Sys2Proof.Machine
end

