-- ==== Sys2Proof/Laws/Table.lean ====
section
/-! SUPPORT. Laws of sparse tables: a listed value is found, another key is not touched, and the canonical form is kept. -/

namespace Sys2Proof.Machine.Tbl

variable {α : Type}

@[simp] theorem find_put_same (l : List (Nat × α)) (k : Nat) (v : α) : find (put l k v) k = some v := by
  induction l with
  | nil => simp [put, find]
  | cons e l ih =>
    obtain ⟨k', v'⟩ := e
    by_cases h : k < k'
    · simp [put, find, h]
    · by_cases h' : k = k'
      · simp [put, find, h']
      · simp [put, find, h, h', ih, Ne.symm h']

theorem find_put_ne (l : List (Nat × α)) {j k : Nat} (v : α) (hne : j ≠ k) : find (put l k v) j = find l j := by
  induction l with
  | nil => simp [put, find, Ne.symm hne]
  | cons e l ih =>
    obtain ⟨k', v'⟩ := e
    by_cases h : k < k'
    · simp [put, find, h, Ne.symm hne]
    · by_cases h' : k = k'
      · subst h'; simp [put, find, Ne.symm hne]
      · simp only [put, find, h, h', if_false, ih]

@[simp] theorem find_del_same (l : List (Nat × α)) (k : Nat) : find (del l k) k = none := by
  induction l with
  | nil => rfl
  | cons e l ih =>
    obtain ⟨k', v'⟩ := e
    by_cases h : k' = k <;> simp [del, find, h, ih]

theorem find_del_ne (l : List (Nat × α)) {j k : Nat} (hne : j ≠ k) : find (del l k) j = find l j := by
  induction l with
  | nil => rfl
  | cons e l ih =>
    obtain ⟨k', v'⟩ := e
    by_cases h : k' = k
    · subst h; simp [del, find, Ne.symm hne, ih]
    · simp only [del, find, h, if_false, ih]

@[simp] theorem getD_put_same (l : List (Nat × α)) (k : Nat) (v d : α) : getD (put l k v) k d = v := by simp [getD]

theorem getD_put_ne (l : List (Nat × α)) {j k : Nat} (v d : α) (h : j ≠ k) : getD (put l k v) j d = getD l j d := by
  simp [getD, find_put_ne l v h]

variable [DecidableEq α]

@[simp] theorem getD_putD_same (l : List (Nat × α)) (k : Nat) (v d : α) : getD (putD l k v d) k d = v := by
  by_cases h : v = d <;> simp [putD, getD, h]

theorem getD_putD_ne (l : List (Nat × α)) {j k : Nat} (v d d' : α) (h : j ≠ k) : getD (putD l k v d) j d' = getD l j d' := by
  by_cases hv : v = d
  · simp [putD, getD, hv, find_del_ne l h]
  · simp [putD, getD, hv, find_put_ne l v h]

/-! ### The canonical form -/

omit [DecidableEq α]

/-- Every key of the list is above a bound. -/
def above (b : Nat) (l : List (Nat × α)) : Prop := ∀ e ∈ l, b < e.1

theorem sorted_cons {k : Nat} {v : α} {l : List (Nat × α)} : sorted ((k, v) :: l) = true ↔ above k l ∧ sorted l = true := by
  induction l generalizing k v with
  | nil => simp [sorted, above]
  | cons e l ih =>
    obtain ⟨k', v'⟩ := e
    simp only [sorted, Bool.and_eq_true, decide_eq_true_eq]
    constructor
    · rintro ⟨hk, hs⟩
      refine ⟨?_, hs⟩
      intro x hx
      rcases List.mem_cons.mp hx with rfl | hx
      · exact hk
      · exact Nat.lt_trans hk ((ih.mp hs).1 x hx)
    · rintro ⟨ha, hs⟩
      exact ⟨ha (k', v') (List.mem_cons_self ..), hs⟩

theorem mem_put {l : List (Nat × α)} {k : Nat} {v : α} {e : Nat × α} (h : e ∈ put l k v) : e = (k, v) ∨ e ∈ l := by
  induction l with
  | nil => simpa [put] using h
  | cons x l ih =>
    obtain ⟨k', v'⟩ := x
    by_cases h1 : k < k'
    · simpa [put, h1] using h
    · by_cases h2 : k = k'
      · subst h2
        simp only [put, Nat.lt_irrefl, if_false, if_true, List.mem_cons] at h
        simp only [List.mem_cons]
        rcases h with h | h
        · left; exact h
        · right; right; exact h
      · simp only [put, h1, h2, if_false, List.mem_cons] at h
        simp only [List.mem_cons]
        rcases h with h | h
        · right; left; exact h
        · rcases ih h with h | h
          · left; exact h
          · right; right; exact h

theorem mem_del {l : List (Nat × α)} {k : Nat} {e : Nat × α} (h : e ∈ del l k) : e ∈ l ∧ e.1 ≠ k := by
  induction l with
  | nil => simp [del] at h
  | cons x l ih =>
    obtain ⟨k', v'⟩ := x
    by_cases h1 : k' = k
    · simp only [del, h1, if_true] at h
      exact ⟨List.mem_cons_of_mem _ (ih h).1, (ih h).2⟩
    · simp only [del, h1, if_false, List.mem_cons] at h
      rcases h with rfl | h
      · exact ⟨List.mem_cons_self .., h1⟩
      · exact ⟨List.mem_cons_of_mem _ (ih h).1, (ih h).2⟩

theorem sorted_put {l : List (Nat × α)} (k : Nat) (v : α) (h : sorted l = true) : sorted (put l k v) = true := by
  induction l with
  | nil => rfl
  | cons e l ih =>
    obtain ⟨k', v'⟩ := e
    obtain ⟨ha, hs⟩ := sorted_cons.mp h
    by_cases h1 : k < k'
    · simp only [put, h1, if_true]
      refine sorted_cons.mpr ⟨?_, h⟩
      intro x hx
      rcases List.mem_cons.mp hx with rfl | hx
      · exact h1
      · exact Nat.lt_trans h1 (ha x hx)
    · by_cases h2 : k = k'
      · simp only [put, h2, Nat.lt_irrefl, if_false, if_true]
        exact sorted_cons.mpr ⟨ha, hs⟩
      · simp only [put, h1, h2, if_false]
        refine sorted_cons.mpr ⟨?_, ih hs⟩
        intro x hx
        rcases mem_put hx with rfl | hx
        · exact Nat.lt_of_le_of_ne (Nat.le_of_not_lt h1) (Ne.symm h2)
        · exact ha x hx

theorem sorted_del {l : List (Nat × α)} (k : Nat) (h : sorted l = true) : sorted (del l k) = true := by
  induction l with
  | nil => rfl
  | cons e l ih =>
    obtain ⟨k', v'⟩ := e
    obtain ⟨ha, hs⟩ := sorted_cons.mp h
    by_cases h1 : k' = k
    · simpa [del, h1] using ih hs
    · simp only [del, h1, if_false]
      exact sorted_cons.mpr ⟨fun x hx => ha x (mem_del hx).1, ih hs⟩

theorem sorted_filter {l : List (Nat × α)} (p : Nat × α → Bool) (h : sorted l = true) : sorted (l.filter p) = true := by
  induction l with
  | nil => rfl
  | cons e l ih =>
    obtain ⟨k, v⟩ := e
    obtain ⟨ha, hs⟩ := sorted_cons.mp h
    by_cases hp : p (k, v) = true
    · rw [List.filter_cons_of_pos hp]
      exact sorted_cons.mpr ⟨fun x hx => ha x (List.mem_filter.mp hx).1, ih hs⟩
    · rw [List.filter_cons_of_neg hp]
      exact ih hs

end Sys2Proof.Machine.Tbl
end

