-- ==== Sys2Proof/Laws/Regs.lean ====
section
/-! SUPPORT. Reading a register field after a write: the written field reads what was written, every other field what it read. -/

namespace Sys2Proof.Machine

variable (m : Mach)

@[simp] theorem rd_wr_same (f : Field) (v i n : Nat) : (m.wr f v i n).rd f i n = v % f.lim := by
  simp [Mach.rd, Mach.wr]

/-- A write leaves every field at another bit address as it was. -/
theorem rd_wr_ne (f g : Field) (v i n j k : Nat) (h : g.addr j k ≠ f.addr i n) : (m.wr f v i n).rd g j k = m.rd g j k := by
  simp [Mach.rd, Mach.wr, Tbl.getD_putD_ne _ _ _ _ h]

@[simp] theorem flag_wr_same (f : Field) (v i n : Nat) : (m.wr f v i n).flag f i n = (v % f.lim != 0) := by
  simp [Mach.flag]

theorem flag_wr_ne (f g : Field) (v i n j k : Nat) (h : g.addr j k ≠ f.addr i n) : (m.wr f v i n).flag g j k = m.flag g j k := by
  simp [Mach.flag, rd_wr_ne m f g v i n j k h]

theorem rd_wb_ne (f g : Field) (b : Bool) (i n j k : Nat) (h : g.addr j k ≠ f.addr i n) : (m.wb f b i n).rd g j k = m.rd g j k :=
  rd_wr_ne m f g b.toNat i n j k h

theorem rd_inc_ne (f g : Field) (i n d j k : Nat) (h : g.addr j k ≠ f.addr i n) : (m.inc f i n d).rd g j k = m.rd g j k :=
  rd_wr_ne m f g _ i n j k h

theorem lim_pos (f : Field) : 0 < f.lim := Nat.two_pow_pos _

/-- A counter that does not wrap counts up and stops at all ones (R535). -/
theorem inc_stops (f : Field) (i n d : Nat) (hw : f.wraps = false) :
    (m.inc f i n d).rd f i n = min (m.rd f i n + d) (f.lim - 1) := by
  have := lim_pos f
  rw [Mach.inc, rd_wr_same, hw]
  simp only [Bool.false_eq_true, if_false]
  exact Nat.mod_eq_of_lt (by omega)

/-- A wrapping counter counts modulo its width (R535). -/
theorem inc_wraps (f : Field) (i n d : Nat) (hw : f.wraps = true) :
    (m.inc f i n d).rd f i n = (m.rd f i n + d) % f.lim := by
  rw [Mach.inc, rd_wr_same, hw]
  simp

@[simp] theorem fsm_setFsm (k : PageKind) (v i : Nat) : (m.setFsm k v i).fsm k i = v % 256 := by
  simp [Mach.setFsm, Mach.fsm, Reg.Hdr.FSM, Reg.Hdr.const, Field.lim]

/-- Two fields of one page instance lie at one address only where they lie at one place in the page. -/
theorem addr_same_page (f g : Field) (i n k : Nat) (hp : g.page = f.page)
    (h : g.off * 8 + g.lsb + k * g.stride ≠ f.off * 8 + f.lsb + n * f.stride) : g.addr i k ≠ f.addr i n := by
  simp only [Field.addr, hp]; omega

/-- Fields of pages with different numbers lie at different addresses. -/
theorem addr_other_page (f g : Field) (i n j k : Nat) (hf : f.off * 8 + f.lsb + n * f.stride < 32768)
    (hg : g.off * 8 + g.lsb + k * g.stride < 32768) (h : pageBase g.page + j ≠ pageBase f.page + i) :
    g.addr j k ≠ f.addr i n := by
  simp only [Field.addr]; omega

end Sys2Proof.Machine
end

