-- ==== Sys2Proof/Laws/Events.lean ====
section
/-! SUPPORT. What raising an event leaves as it was: everything but the ports, the messages, the event bits and the Gauge Book. -/

namespace Sys2Proof.Machine

/-- Applying a change to each element keeps what the change keeps. -/
theorem each_keeps {α β : Type} (q : Mach → β) (f : Mach → α → Mach) (h : ∀ m x, q (f m x) = q m) (m : Mach) (l : List α) :
    q (m.each l f) = q m := by
  induction l generalizing m with
  | nil => rfl
  | cons x l ih => exact (ih (f m x)).trans (h m x)

/-- A view of the device that offering an event does not change: it sees neither ports, messages and the Gauge Book nor the Gauge
Book's register fields. -/
structure OfferFree {β : Type} (q : Mach → β) : Prop where
  port : ∀ m p x, q (m.setPort p x) = q m
  out : ∀ m o, q (m.emit o) = q m
  gb : ∀ (m : Mach) g, q { m with gb := g } = q m
  reg : ∀ (m : Mach) (f : Field) v n, f.page = .gauge → f.off * 8 + f.lsb + n * f.stride < 32768 → q (m.wr f v 0 n) = q m

/-- A view that no event changes: it does not see the event bits either. -/
structure EventFree {β : Type} (q : Mach → β) : Prop extends OfferFree q where
  blk : ∀ (m : Mach) b, q { m with blkEvt := b } = q m

variable {β : Type} {q : Mach → β}

theorem OfferFree.sendVec (h : OfferFree q) (m : Mach) (p v : Nat) : q (m.sendVec p v) = q m := by
  unfold Mach.sendVec
  split
  · rfl
  · split
    · exact h.out m _
    · exact h.port m _ _

theorem OfferFree.sendPage (h : OfferFree q) (m : Mach) (p : PageId) : q (m.sendPage p) = q m :=
  each_keeps q _ (fun m x => by split; exact h.sendVec m _ _; rfl) m _

theorem EventFree.withEdge (h : EventFree q) (m : Mach) (p : PageId) (f : Mach → Mach) (hf : q (f m) = q m) :
    q (m.withEdge p f) = q m := by
  unfold Mach.withEdge
  dsimp only
  split
  · exact (h.sendPage _ p).trans hf
  · exact hf

theorem EventFree.setBlock (h : EventFree q) (m : Mach) (p : PageId) (c : Nat) : q (m.setBlock p c) = q m :=
  h.withEdge m p _ (by split; rfl; exact h.blk m _)

theorem OfferFree.inc (h : OfferFree q) (m : Mach) (f : Field) (n d : Nat) (hp : f.page = .gauge)
    (ha : f.off * 8 + f.lsb + n * f.stride < 32768) : q (m.inc f 0 n d) = q m := h.reg m f _ n hp ha

theorem OfferFree.dropOffer (h : OfferFree q) (m : Mach) (e : Event) : q (m.dropOffer e) = q m := by
  have hi : q (m.inc Reg.Gauge.OFFER_DROPS) = q m := h.inc m _ 0 1 rfl (by decide)
  unfold Mach.dropOffer
  dsimp only
  split
  · exact (h.gb _ _).trans hi
  · split
    · exact hi
    · exact (h.gb _ _).trans hi

theorem OfferFree.enqueue (h : OfferFree q) (m : Mach) (e : Event) : q (m.enqueue e) = q m := by
  unfold Mach.enqueue Mach.peak
  dsimp only
  split
  · exact (h.reg _ _ _ 0 rfl (by decide)).trans (h.gb m _)
  · exact h.gb m _

theorem OfferFree.offer (h : OfferFree q) (m : Mach) (e : Event) : q (m.offer e) = q m := by
  unfold Mach.offer
  split
  · split
    · exact h.enqueue m e
    · exact h.dropOffer m e
  · split
    · exact h.enqueue m e
    · split
      · exact (h.enqueue _ e).trans ((h.dropOffer _ _).trans (h.gb m _))
      · exact h.dropOffer m e

/-- Offering an event whose class is one of the 19 (R49). -/
theorem OfferFree.offerByBucket (h : OfferFree q) (m : Mach) (p : PageId) (e : Event) (hc : e.code / 1024 < 20) :
    q (m.offerByBucket p e) = q m := by
  unfold Mach.offerByBucket
  dsimp only
  split
  · exact h.offer m e
  · split
    · exact (h.offer _ e).trans (h.gb m _)
    · refine h.inc m _ _ 1 rfl ?_
      simp only [Reg.Gauge.SUPPRESSED]
      omega

theorem OfferFree.logCxl (h : OfferFree q) (m : Mach) (k : PageKind) (e : Event) : q (m.logCxl k e) = q m := by
  unfold Mach.logCxl
  split
  · refine each_keeps q _ (fun m x => ?_) m _
    dsimp only
    split
    · exact (h.sendVec _ _ _).trans (h.port m _ _)
    · exact h.port m _ _
  · rfl

/-- An event changes only what `EventFree` views do not see. -/
theorem EventFree.raise (h : EventFree q) (m : Mach) (k : PageKind) (i c a b d : Nat) (hc : c / 1024 < 20) :
    q (m.raise k i c a b d) = q m := by
  unfold Mach.raise
  dsimp only
  exact (h.offerByBucket _ _ _ hc).trans ((h.logCxl _ _ _).trans (h.setBlock m _ _))

theorem EventFree.event (h : EventFree q) (m : Mach) (k : PageKind) (i c a b : Nat) (hc : c / 1024 < 20) :
    q (m.event k i c a b) = q m := h.raise m k i c a b _ hc

/-- The read of a field of another page than the Gauge Book's is such a view. -/
theorem eventFree_rd (f : Field) (i n : Nat) (hp : pageBase f.page + i ≠ pageBase .gauge)
    (ha : f.off * 8 + f.lsb + n * f.stride < 32768) : EventFree (fun m => m.rd f i n) where
  port _ _ _ := rfl
  out _ _ := rfl
  blk _ _ := rfl
  gb _ _ := rfl
  reg m g v k hg hk := rd_wr_ne m g f v 0 k i n (addr_other_page g f 0 k i n hk ha (by simpa [hg] using hp))

theorem event_rd (m : Mach) (k : PageKind) (i c a b : Nat) (f : Field) (j n : Nat) (hc : c / 1024 < 20)
    (hp : pageBase f.page + j ≠ pageBase .gauge) (ha : f.off * 8 + f.lsb + n * f.stride < 32768) :
    (m.event k i c a b).rd f j n = m.rd f j n := (eventFree_rd f j n hp ha).event m k i c a b hc

theorem eventFree_tide : EventFree (fun m => m.tide) := ⟨⟨fun _ _ _ => rfl, fun _ _ => rfl, fun _ _ => rfl, fun _ _ _ _ _ _ => rfl⟩, fun _ _ => rfl⟩

theorem eventFree_free : EventFree (fun m => m.free) := ⟨⟨fun _ _ _ => rfl, fun _ _ => rfl, fun _ _ => rfl, fun _ _ _ _ _ _ => rfl⟩, fun _ _ => rfl⟩

theorem eventFree_frozen : EventFree (fun m => m.frozen) := ⟨⟨fun _ _ _ => rfl, fun _ _ => rfl, fun _ _ => rfl, fun _ _ _ _ _ _ => rfl⟩, fun _ _ => rfl⟩

theorem eventFree_snapDev : EventFree (fun m => m.snapDev) := ⟨⟨fun _ _ _ => rfl, fun _ _ => rfl, fun _ _ => rfl, fun _ _ _ _ _ _ => rfl⟩, fun _ _ => rfl⟩

theorem eventFree_clk : EventFree (fun m => m.clk) := ⟨⟨fun _ _ _ => rfl, fun _ _ => rfl, fun _ _ => rfl, fun _ _ _ _ _ _ => rfl⟩, fun _ _ => rfl⟩

theorem eventFree_commits : EventFree (fun m => m.commits) := ⟨⟨fun _ _ _ => rfl, fun _ _ => rfl, fun _ _ => rfl, fun _ _ _ _ _ _ => rfl⟩, fun _ _ => rfl⟩

theorem eventFree_memActive : EventFree (fun m => m.memActive) := ⟨⟨fun _ _ _ => rfl, fun _ _ => rfl, fun _ _ => rfl, fun _ _ _ _ _ _ => rfl⟩, fun _ _ => rfl⟩

theorem eventFree_ddtGen : EventFree (fun m => m.ddtGen) := ⟨⟨fun _ _ _ => rfl, fun _ _ => rfl, fun _ _ => rfl, fun _ _ _ _ _ _ => rfl⟩, fun _ _ => rfl⟩

theorem eventFree_mover : EventFree (fun m => m.mover) := ⟨⟨fun _ _ _ => rfl, fun _ _ => rfl, fun _ _ => rfl, fun _ _ _ _ _ _ => rfl⟩, fun _ _ => rfl⟩

theorem eventFree_st : EventFree (fun m => m.st) := ⟨⟨fun _ _ _ => rfl, fun _ _ => rfl, fun _ _ => rfl, fun _ _ _ _ _ _ => rfl⟩, fun _ _ => rfl⟩

theorem eventFree_lev : EventFree (fun m => m.lev) := ⟨⟨fun _ _ _ => rfl, fun _ _ => rfl, fun _ _ => rfl, fun _ _ _ _ _ _ => rfl⟩, fun _ _ => rfl⟩

theorem eventFree_sip : EventFree (fun m => m.sip) := ⟨⟨fun _ _ _ => rfl, fun _ _ => rfl, fun _ _ => rfl, fun _ _ _ _ _ _ => rfl⟩, fun _ _ => rfl⟩

theorem eventFree_canals : EventFree (fun m => m.canals) := ⟨⟨fun _ _ _ => rfl, fun _ _ => rfl, fun _ _ => rfl, fun _ _ _ _ _ _ => rfl⟩, fun _ _ => rfl⟩

theorem eventFree_rows : EventFree (fun m => m.rows) := ⟨⟨fun _ _ _ => rfl, fun _ _ => rfl, fun _ _ => rfl, fun _ _ _ _ _ _ => rfl⟩, fun _ _ => rfl⟩
theorem eventFree_wire : EventFree (fun m => m.wire) := ⟨⟨fun _ _ _ => rfl, fun _ _ => rfl, fun _ _ => rfl, fun _ _ _ _ _ _ => rfl⟩, fun _ _ => rfl⟩

theorem eventFree_weir : EventFree (fun m => m.weir) := ⟨⟨fun _ _ _ => rfl, fun _ _ => rfl, fun _ _ => rfl, fun _ _ _ _ _ _ => rfl⟩, fun _ _ => rfl⟩

theorem eventFree_pw : EventFree (fun m => m.pw) := ⟨⟨fun _ _ _ => rfl, fun _ _ => rfl, fun _ _ => rfl, fun _ _ _ _ _ _ => rfl⟩, fun _ _ => rfl⟩

theorem eventFree_cry : EventFree (fun m => m.cry) := ⟨⟨fun _ _ _ => rfl, fun _ _ => rfl, fun _ _ => rfl, fun _ _ _ _ _ _ => rfl⟩, fun _ _ => rfl⟩

theorem eventFree_sluices : EventFree (fun m => m.sluices) := ⟨⟨fun _ _ _ => rfl, fun _ _ => rfl, fun _ _ => rfl, fun _ _ _ _ _ _ => rfl⟩, fun _ _ => rfl⟩

theorem eventFree_links : EventFree (fun m => m.links) := ⟨⟨fun _ _ _ => rfl, fun _ _ => rfl, fun _ _ => rfl, fun _ _ _ _ _ _ => rfl⟩, fun _ _ => rfl⟩

theorem eventFree_turn : EventFree (fun m => m.turn) := ⟨⟨fun _ _ _ => rfl, fun _ _ => rfl, fun _ _ => rfl, fun _ _ _ _ _ _ => rfl⟩, fun _ _ => rfl⟩

theorem eventFree_shared : EventFree (fun m => m.shared) := ⟨⟨fun _ _ _ => rfl, fun _ _ => rfl, fun _ _ => rfl, fun _ _ _ _ _ _ => rfl⟩, fun _ _ => rfl⟩

theorem eventFree_twin : EventFree (fun m => m.twin) := ⟨⟨fun _ _ _ => rfl, fun _ _ => rfl, fun _ _ => rfl, fun _ _ _ _ _ _ => rfl⟩, fun _ _ => rfl⟩

theorem eventFree_boot : EventFree (fun m => m.boot) := ⟨⟨fun _ _ _ => rfl, fun _ _ => rfl, fun _ _ => rfl, fun _ _ _ _ _ _ => rfl⟩, fun _ _ => rfl⟩

theorem eventFree_straps : EventFree (fun m => m.straps) := ⟨⟨fun _ _ _ => rfl, fun _ _ => rfl, fun _ _ => rfl, fun _ _ _ _ _ _ => rfl⟩, fun _ _ => rfl⟩

theorem eventFree_serial : EventFree (fun m => m.serial) := ⟨⟨fun _ _ _ => rfl, fun _ _ => rfl, fun _ _ => rfl, fun _ _ _ _ _ _ => rfl⟩, fun _ _ => rfl⟩

theorem eventFree_order : EventFree (fun m => m.order) := ⟨⟨fun _ _ _ => rfl, fun _ _ => rfl, fun _ _ => rfl, fun _ _ _ _ _ _ => rfl⟩, fun _ _ => rfl⟩

theorem event_tide (m : Mach) (k : PageKind) (i c a b : Nat) (hc : c / 1024 < 20) : (m.event k i c a b).tide = m.tide :=
  eventFree_tide.event m k i c a b hc

theorem event_free (m : Mach) (k : PageKind) (i c a b : Nat) (hc : c / 1024 < 20) : (m.event k i c a b).free = m.free :=
  eventFree_free.event m k i c a b hc

theorem event_frozen (m : Mach) (k : PageKind) (i c a b : Nat) (hc : c / 1024 < 20) : (m.event k i c a b).frozen = m.frozen :=
  eventFree_frozen.event m k i c a b hc

theorem event_snapDev (m : Mach) (k : PageKind) (i c a b : Nat) (hc : c / 1024 < 20) : (m.event k i c a b).snapDev = m.snapDev :=
  eventFree_snapDev.event m k i c a b hc

theorem event_clk (m : Mach) (k : PageKind) (i c a b : Nat) (hc : c / 1024 < 20) : (m.event k i c a b).clk = m.clk :=
  eventFree_clk.event m k i c a b hc

theorem event_commits (m : Mach) (k : PageKind) (i c a b : Nat) (hc : c / 1024 < 20) : (m.event k i c a b).commits = m.commits :=
  eventFree_commits.event m k i c a b hc

theorem event_memActive (m : Mach) (k : PageKind) (i c a b : Nat) (hc : c / 1024 < 20) : (m.event k i c a b).memActive = m.memActive :=
  eventFree_memActive.event m k i c a b hc

theorem event_ddtGen (m : Mach) (k : PageKind) (i c a b : Nat) (hc : c / 1024 < 20) : (m.event k i c a b).ddtGen = m.ddtGen :=
  eventFree_ddtGen.event m k i c a b hc

theorem event_mover (m : Mach) (k : PageKind) (i c a b : Nat) (hc : c / 1024 < 20) : (m.event k i c a b).mover = m.mover :=
  eventFree_mover.event m k i c a b hc

theorem event_st (m : Mach) (k : PageKind) (i c a b : Nat) (hc : c / 1024 < 20) : (m.event k i c a b).st = m.st :=
  eventFree_st.event m k i c a b hc

theorem event_lev (m : Mach) (k : PageKind) (i c a b : Nat) (hc : c / 1024 < 20) : (m.event k i c a b).lev = m.lev :=
  eventFree_lev.event m k i c a b hc

theorem event_sip (m : Mach) (k : PageKind) (i c a b : Nat) (hc : c / 1024 < 20) : (m.event k i c a b).sip = m.sip :=
  eventFree_sip.event m k i c a b hc

theorem event_canals (m : Mach) (k : PageKind) (i c a b : Nat) (hc : c / 1024 < 20) : (m.event k i c a b).canals = m.canals :=
  eventFree_canals.event m k i c a b hc

theorem event_rows (m : Mach) (k : PageKind) (i c a b : Nat) (hc : c / 1024 < 20) : (m.event k i c a b).rows = m.rows :=
  eventFree_rows.event m k i c a b hc
theorem event_wire (m : Mach) (k : PageKind) (i c a b : Nat) (hc : c / 1024 < 20) : (m.event k i c a b).wire = m.wire :=
  eventFree_wire.event m k i c a b hc

theorem event_weir (m : Mach) (k : PageKind) (i c a b : Nat) (hc : c / 1024 < 20) : (m.event k i c a b).weir = m.weir :=
  eventFree_weir.event m k i c a b hc

theorem event_pw (m : Mach) (k : PageKind) (i c a b : Nat) (hc : c / 1024 < 20) : (m.event k i c a b).pw = m.pw :=
  eventFree_pw.event m k i c a b hc

theorem event_cry (m : Mach) (k : PageKind) (i c a b : Nat) (hc : c / 1024 < 20) : (m.event k i c a b).cry = m.cry :=
  eventFree_cry.event m k i c a b hc

theorem event_sluices (m : Mach) (k : PageKind) (i c a b : Nat) (hc : c / 1024 < 20) : (m.event k i c a b).sluices = m.sluices :=
  eventFree_sluices.event m k i c a b hc

theorem event_links (m : Mach) (k : PageKind) (i c a b : Nat) (hc : c / 1024 < 20) : (m.event k i c a b).links = m.links :=
  eventFree_links.event m k i c a b hc

theorem event_turn (m : Mach) (k : PageKind) (i c a b : Nat) (hc : c / 1024 < 20) : (m.event k i c a b).turn = m.turn :=
  eventFree_turn.event m k i c a b hc

theorem event_shared (m : Mach) (k : PageKind) (i c a b : Nat) (hc : c / 1024 < 20) : (m.event k i c a b).shared = m.shared :=
  eventFree_shared.event m k i c a b hc

theorem event_twin (m : Mach) (k : PageKind) (i c a b : Nat) (hc : c / 1024 < 20) : (m.event k i c a b).twin = m.twin :=
  eventFree_twin.event m k i c a b hc

theorem event_boot (m : Mach) (k : PageKind) (i c a b : Nat) (hc : c / 1024 < 20) : (m.event k i c a b).boot = m.boot :=
  eventFree_boot.event m k i c a b hc

theorem event_straps (m : Mach) (k : PageKind) (i c a b : Nat) (hc : c / 1024 < 20) : (m.event k i c a b).straps = m.straps :=
  eventFree_straps.event m k i c a b hc

theorem event_serial (m : Mach) (k : PageKind) (i c a b : Nat) (hc : c / 1024 < 20) : (m.event k i c a b).serial = m.serial :=
  eventFree_serial.event m k i c a b hc

theorem event_order (m : Mach) (k : PageKind) (i c a b : Nat) (hc : c / 1024 < 20) : (m.event k i c a b).order = m.order :=
  eventFree_order.event m k i c a b hc

/-! ### The event bits -/

theorem offerFree_blkEvt : OfferFree (fun m => m.blkEvt) :=
  ⟨fun _ _ _ => rfl, fun _ _ => rfl, fun _ _ => rfl, fun _ _ _ _ _ _ => rfl⟩

theorem withEdge_blkEvt (m : Mach) (p : PageId) (f : Mach → Mach) : (m.withEdge p f).blkEvt = (f m).blkEvt := by
  unfold Mach.withEdge
  dsimp only
  split
  · exact offerFree_blkEvt.sendPage _ p
  · rfl

theorem raise_blkEvt (m : Mach) (k : PageKind) (i c a b d : Nat) (hc : c / 1024 < 20) :
    (m.raise k i c a b d).blkEvt = (m.setBlock ⟨k, i⟩ c).blkEvt := by
  unfold Mach.raise
  dsimp only
  exact (offerFree_blkEvt.offerByBucket _ _ _ hc).trans (offerFree_blkEvt.logCxl _ _ _)

/-- An event sets its own bit (R51). -/
theorem event_told (m : Mach) (k : PageKind) (i c a b : Nat) (hc : c / 1024 < 20) : (m.event k i c a b).told k i c := by
  unfold Mach.told Mach.event
  rw [raise_blkEvt m k i c a b _ hc, Mach.setBlock, withEdge_blkEvt]
  split
  · rename_i h
    simpa using h
  · simp

/-- An event clears no bit. -/
theorem event_keeps_told (m : Mach) (k k' : PageKind) (i j c d a b : Nat) (hc : c / 1024 < 20) (h : m.told k' j d) :
    (m.event k i c a b).told k' j d := by
  unfold Mach.told Mach.event at *
  rw [raise_blkEvt m k i c a b _ hc, Mach.setBlock, withEdge_blkEvt]
  split
  · exact h
  · simp [h]

end Sys2Proof.Machine
end

