-- ==== Sys2Proof/Laws/PerInstr.lean ====
section
/-! SUPPORT. Statements about every command as syntax, one lemma a constructor. -/

namespace Sys2Proof.Laws.Tide

/-- A well-formed command happens at a tide of 64 bits (R14). -/
def Statement (i : Instr) : Prop := i.wf = true → i.tide < 2 ^ 64

/-- A number that fits 64 bits is below 2^64. -/
theorem of_head {t : Nat} {b : Bool} (h : (fitsBits 64 t && b) = true) : t < 2 ^ 64 := by
  simp only [fitsBits, Bool.and_eq_true, decide_eq_true_eq] at h
  exact h.1

theorem regWrite : ∀ a0 a1 a2 a3 a4, Statement (.regWrite a0 a1 a2 a3 a4) := fun a0 _ _ _ _ h => of_head (t := a0) h

theorem islandClockLoss : ∀ a0 a1 a2, Statement (.islandClockLoss a0 a1 a2) := fun a0 _ _ h => of_head (t := a0) h

theorem islandClockReturn : ∀ a0 a1, Statement (.islandClockReturn a0 a1) := fun a0 _ h => of_head (t := a0) h

theorem turnBoundary : ∀ a0, Statement (.turnBoundary a0) := fun a0 h => of_head (t := a0) h

theorem beaconArrival : ∀ a0 a1 a2 a3, Statement (.beaconArrival a0 a1 a2 a3) := fun a0 _ _ _ h => of_head (t := a0) h

theorem halfTurnPoint : ∀ a0, Statement (.halfTurnPoint a0) := fun a0 h => of_head (t := a0) h

theorem floorHoldPoint : ∀ a0 a1, Statement (.floorHoldPoint a0 a1) := fun a0 _ h => of_head (t := a0) h

theorem commitGo : ∀ a0 a1 a2, Statement (.commitGo a0 a1 a2) := fun a0 _ _ h => of_head (t := a0) h

theorem commitValidate : ∀ a0, Statement (.commitValidate a0) := fun a0 h => of_head (t := a0) h

theorem pageHaltRequest : ∀ a0 a1 a2 a3, Statement (.pageHaltRequest a0 a1 a2 a3) := fun a0 _ _ _ h => of_head (t := a0) h

theorem pageHalted : ∀ a0 a1, Statement (.pageHalted a0 a1) := fun a0 _ h => of_head (t := a0) h

theorem softClear : ∀ a0 a1 a2, Statement (.softClear a0 a1 a2) := fun a0 _ _ h => of_head (t := a0) h

theorem pageLock : ∀ a0 a1 a2, Statement (.pageLock a0 a1 a2) := fun a0 _ _ h => of_head (t := a0) h

theorem lockAll : ∀ a0 a1, Statement (.lockAll a0 a1) := fun a0 _ h => of_head (t := a0) h

theorem snapTake : ∀ a0 a1 a2, Statement (.snapTake a0 a1 a2) := fun a0 _ _ h => of_head (t := a0) h

theorem deviceSnapTake : ∀ a0 a1, Statement (.deviceSnapTake a0 a1) := fun a0 _ h => of_head (t := a0) h

theorem evtStatusClear : ∀ a0 a1 a2 a3, Statement (.evtStatusClear a0 a1 a2 a3) := fun a0 _ _ _ h => of_head (t := a0) h

theorem msixUnmask : ∀ a0 a1 a2, Statement (.msixUnmask a0 a1 a2) := fun a0 _ _ h => of_head (t := a0) h

theorem linkTraining : ∀ a0 a1 a2 a3 a4 a5, Statement (.linkTraining a0 a1 a2 a3 a4 a5) := fun a0 _ _ _ _ _ h => of_head (t := a0) h

theorem linkUp : ∀ a0 a1 a2 a3 a4 a5 a6, Statement (.linkUp a0 a1 a2 a3 a4 a5 a6) := fun a0 _ _ _ _ _ _ h => of_head (t := a0) h

theorem linkRetrain : ∀ a0 a1 a2 a3 a4 a5 a6, Statement (.linkRetrain a0 a1 a2 a3 a4 a5 a6) := fun a0 _ _ _ _ _ _ h => of_head (t := a0) h

theorem eq128Retry : ∀ a0 a1 a2, Statement (.eq128Retry a0 a1 a2) := fun a0 _ _ h => of_head (t := a0) h

theorem linkRateChange : ∀ a0 a1 a2 a3, Statement (.linkRateChange a0 a1 a2 a3) := fun a0 _ _ _ h => of_head (t := a0) h

theorem ideIntegrityFailure : ∀ a0 a1 a2 a3, Statement (.ideIntegrityFailure a0 a1 a2 a3) := fun a0 _ _ _ h => of_head (t := a0) h

theorem decoderCommit : ∀ a0 a1 a2 a3 a4 a5 a6 a7, Statement (.decoderCommit a0 a1 a2 a3 a4 a5 a6 a7) := fun a0 _ _ _ _ _ _ _ h => of_head (t := a0) h

theorem decoderUncommit : ∀ a0 a1 a2, Statement (.decoderUncommit a0 a1 a2) := fun a0 _ _ h => of_head (t := a0) h

theorem linkDrop : ∀ a0 a1, Statement (.linkDrop a0 a1) := fun a0 _ h => of_head (t := a0) h

theorem tagsFreedAfterDrop : ∀ a0 a1, Statement (.tagsFreedAfterDrop a0 a1) := fun a0 _ h => of_head (t := a0) h

theorem portDisable : ∀ a0 a1 a2, Statement (.portDisable a0 a1 a2) := fun a0 _ _ h => of_head (t := a0) h

theorem flr : ∀ a0 a1, Statement (.flr a0 a1) := fun a0 _ h => of_head (t := a0) h

theorem flrComplete : ∀ a0 a1 a2, Statement (.flrComplete a0 a1 a2) := fun a0 _ _ h => of_head (t := a0) h

theorem hotReset : ∀ a0 a1, Statement (.hotReset a0 a1) := fun a0 _ h => of_head (t := a0) h

theorem portPerst : ∀ a0 a1 a2, Statement (.portPerst a0 a1 a2) := fun a0 _ _ h => of_head (t := a0) h

theorem deviceFundamentalReset : ∀ a0, Statement (.deviceFundamentalReset a0) := fun a0 h => of_head (t := a0) h

theorem ddtRebuild : ∀ a0 a1, Statement (.ddtRebuild a0 a1) := fun a0 _ h => of_head (t := a0) h

theorem identifyMemoryDevice : ∀ a0 a1, Statement (.identifyMemoryDevice a0 a1) := fun a0 _ h => of_head (t := a0) h

theorem getSupportedLogs : ∀ a0 a1, Statement (.getSupportedLogs a0 a1) := fun a0 _ h => of_head (t := a0) h

theorem getLog : ∀ a0 a1 a2, Statement (.getLog a0 a1 a2) := fun a0 _ _ h => of_head (t := a0) h

theorem getHealthInfo : ∀ a0 a1, Statement (.getHealthInfo a0 a1) := fun a0 _ h => of_head (t := a0) h

theorem getEventRecords : ∀ a0 a1, Statement (.getEventRecords a0 a1) := fun a0 _ h => of_head (t := a0) h

theorem clearEventRecords : ∀ a0 a1 a2, Statement (.clearEventRecords a0 a1 a2) := fun a0 _ _ h => of_head (t := a0) h

theorem getPoisonList : ∀ a0 a1, Statement (.getPoisonList a0 a1) := fun a0 _ h => of_head (t := a0) h

theorem getFwInfo : ∀ a0 a1, Statement (.getFwInfo a0 a1) := fun a0 _ h => of_head (t := a0) h

theorem getTimestamp : ∀ a0 a1, Statement (.getTimestamp a0 a1) := fun a0 _ h => of_head (t := a0) h

theorem setTimestamp : ∀ a0 a1 a2, Statement (.setTimestamp a0 a1 a2) := fun a0 _ _ h => of_head (t := a0) h

theorem mailboxUnsupported : ∀ a0 a1 a2, Statement (.mailboxUnsupported a0 a1 a2) := fun a0 _ _ h => of_head (t := a0) h

theorem doeDiscovery : ∀ a0 a1 a2 a3, Statement (.doeDiscovery a0 a1 a2 a3) := fun a0 _ _ _ h => of_head (t := a0) h

theorem doeCmaSpdm : ∀ a0 a1 a2 a3, Statement (.doeCmaSpdm a0 a1 a2 a3) := fun a0 _ _ _ h => of_head (t := a0) h

theorem doeSecuredSpdm : ∀ a0 a1 a2 a3, Statement (.doeSecuredSpdm a0 a1 a2 a3) := fun a0 _ _ _ h => of_head (t := a0) h

theorem cdatTableAccess : ∀ a0 a1 a2, Statement (.cdatTableAccess a0 a1 a2) := fun a0 _ _ h => of_head (t := a0) h

theorem doeAbort : ∀ a0 a1, Statement (.doeAbort a0 a1) := fun a0 _ h => of_head (t := a0) h

theorem cxlMemrd : ∀ a0 a1 a2 a3 a4 a5, Statement (.cxlMemrd a0 a1 a2 a3 a4 a5) := fun a0 _ _ _ _ _ h => of_head (t := a0) h

theorem cxlMemspecrd : ∀ a0 a1 a2 a3, Statement (.cxlMemspecrd a0 a1 a2 a3) := fun a0 _ _ _ h => of_head (t := a0) h

theorem cxlMemwr : ∀ a0 a1 a2 a3 a4 a5 a6, Statement (.cxlMemwr a0 a1 a2 a3 a4 a5 a6) := fun a0 _ _ _ _ _ _ h => of_head (t := a0) h

theorem cxlMemwrptl : ∀ a0 a1 a2 a3 a4 a5 a6 a7, Statement (.cxlMemwrptl a0 a1 a2 a3 a4 a5 a6 a7) := fun a0 _ _ _ _ _ _ _ h => of_head (t := a0) h

theorem cxlMeminv : ∀ a0 a1 a2 a3 a4, Statement (.cxlMeminv a0 a1 a2 a3 a4) := fun a0 _ _ _ _ h => of_head (t := a0) h

theorem cxlMemclnevct : ∀ a0 a1 a2 a3, Statement (.cxlMemclnevct a0 a1 a2 a3) := fun a0 _ _ _ h => of_head (t := a0) h

theorem cxlBiconflict : ∀ a0 a1 a2 a3, Statement (.cxlBiconflict a0 a1 a2 a3) := fun a0 _ _ _ h => of_head (t := a0) h

theorem birspReceived : ∀ a0 a1 a2 a3, Statement (.birspReceived a0 a1 a2 a3) := fun a0 _ _ _ h => of_head (t := a0) h

theorem headgateRelease : ∀ a0 a1, Statement (.headgateRelease a0 a1) := fun a0 _ h => of_head (t := a0) h

theorem poolGrant : ∀ a0 a1 a2 a3 a4, Statement (.poolGrant a0 a1 a2 a3 a4) := fun a0 _ _ _ _ h => of_head (t := a0) h

theorem callLevelChange : ∀ a0 a1 a2, Statement (.callLevelChange a0 a1 a2) := fun a0 _ _ h => of_head (t := a0) h

theorem readDataReturn : ∀ a0 a1 a2 a3 a4 a5 a6, Statement (.readDataReturn a0 a1 a2 a3 a4 a5 a6) := fun a0 _ _ _ _ _ _ h => of_head (t := a0) h

theorem readEgressLimit : ∀ a0 a1 a2, Statement (.readEgressLimit a0 a1 a2) := fun a0 _ _ h => of_head (t := a0) h

theorem responseSent : ∀ a0 a1 a2, Statement (.responseSent a0 a1 a2) := fun a0 _ _ h => of_head (t := a0) h

theorem writeLocalCommit : ∀ a0 a1 a2 a3, Statement (.writeLocalCommit a0 a1 a2 a3) := fun a0 _ _ _ h => of_head (t := a0) h

theorem mergeDrain : ∀ a0 a1 a2, Statement (.mergeDrain a0 a1 a2) := fun a0 _ _ h => of_head (t := a0) h

theorem drainComplete : ∀ a0 a1 a2 a3, Statement (.drainComplete a0 a1 a2 a3) := fun a0 _ _ _ h => of_head (t := a0) h

theorem partialFetchComplete : ∀ a0 a1 a2 a3, Statement (.partialFetchComplete a0 a1 a2 a3) := fun a0 _ _ _ h => of_head (t := a0) h

theorem internalOpStart : ∀ a0 a1 a2 a3, Statement (.internalOpStart a0 a1 a2 a3) := fun a0 _ _ _ h => of_head (t := a0) h

theorem internalStepDeadline : ∀ a0 a1, Statement (.internalStepDeadline a0 a1) := fun a0 _ h => of_head (t := a0) h

theorem lateW0Read : ∀ a0 a1, Statement (.lateW0Read a0 a1) := fun a0 _ h => of_head (t := a0) h

theorem latePop : ∀ a0 a1 a2, Statement (.latePop a0 a1 a2) := fun a0 _ _ h => of_head (t := a0) h

theorem jobSubmit : ∀ a0 a1 a2 a3 a4 a5 a6, Statement (.jobSubmit a0 a1 a2 a3 a4 a5 a6) := fun a0 _ _ _ _ _ _ h => of_head (t := a0) h

theorem jobStart : ∀ a0, Statement (.jobStart a0) := fun a0 h => of_head (t := a0) h

theorem dmHostReadCompletion : ∀ a0 a1 a2 a3, Statement (.dmHostReadCompletion a0 a1 a2 a3) := fun a0 _ _ _ h => of_head (t := a0) h

theorem jobEnd : ∀ a0 a1, Statement (.jobEnd a0 a1) := fun a0 _ h => of_head (t := a0) h

theorem jobAbort : ∀ a0 a1 a2, Statement (.jobAbort a0 a1 a2) := fun a0 _ _ h => of_head (t := a0) h

theorem jobRelease : ∀ a0 a1 a2, Statement (.jobRelease a0 a1 a2) := fun a0 _ _ h => of_head (t := a0) h

theorem weirRecompute : ∀ a0, Statement (.weirRecompute a0) := fun a0 h => of_head (t := a0) h

theorem frameDrainComplete : ∀ a0 a1, Statement (.frameDrainComplete a0 a1) := fun a0 _ h => of_head (t := a0) h

theorem translationFetchDone : ∀ a0 a1 a2 a3 a4 a5 a6, Statement (.translationFetchDone a0 a1 a2 a3 a4 a5 a6) := fun a0 _ _ _ _ _ _ h => of_head (t := a0) h

theorem tcFlush : ∀ a0 a1, Statement (.tcFlush a0 a1) := fun a0 _ h => of_head (t := a0) h

theorem tcFlushDone : ∀ a0, Statement (.tcFlushDone a0) := fun a0 h => of_head (t := a0) h

theorem siphonPromote : ∀ a0 a1 a2, Statement (.siphonPromote a0 a1 a2) := fun a0 _ _ h => of_head (t := a0) h

theorem siphonDemote : ∀ a0 a1 a2, Statement (.siphonDemote a0 a1 a2) := fun a0 _ _ h => of_head (t := a0) h

theorem siphonCompress : ∀ a0 a1 a2, Statement (.siphonCompress a0 a1 a2) := fun a0 _ _ h => of_head (t := a0) h

theorem siphonExpand : ∀ a0 a1 a2, Statement (.siphonExpand a0 a1 a2) := fun a0 _ _ h => of_head (t := a0) h

theorem siphonPin : ∀ a0 a1 a2, Statement (.siphonPin a0 a1 a2) := fun a0 _ _ h => of_head (t := a0) h

theorem siphonUnpin : ∀ a0 a1 a2, Statement (.siphonUnpin a0 a1 a2) := fun a0 _ _ h => of_head (t := a0) h

theorem siphonDiscard : ∀ a0 a1 a2, Statement (.siphonDiscard a0 a1 a2) := fun a0 _ _ h => of_head (t := a0) h

theorem siphonTractOut : ∀ a0 a1 a2 a3 a4, Statement (.siphonTractOut a0 a1 a2 a3 a4) := fun a0 _ _ _ _ h => of_head (t := a0) h

theorem siphonTractIn : ∀ a0 a1 a2 a3 a4 a5, Statement (.siphonTractIn a0 a1 a2 a3 a4 a5) := fun a0 _ _ _ _ _ h => of_head (t := a0) h

theorem siphonMoveStep : ∀ a0 a1 a2, Statement (.siphonMoveStep a0 a1 a2) := fun a0 _ _ h => of_head (t := a0) h

theorem tractMoveEnd : ∀ a0, Statement (.tractMoveEnd a0) := fun a0 h => of_head (t := a0) h

theorem siphonDisable : ∀ a0 a1, Statement (.siphonDisable a0 a1) := fun a0 _ h => of_head (t := a0) h

theorem decayEpochAdvance : ∀ a0, Statement (.decayEpochAdvance a0) := fun a0 h => of_head (t := a0) h

theorem dirFetchDone : ∀ a0 a1 a2 a3, Statement (.dirFetchDone a0 a1 a2 a3) := fun a0 _ _ _ h => of_head (t := a0) h

theorem rowDecodeDone : ∀ a0 a1 a2 a3 a4 a5, Statement (.rowDecodeDone a0 a1 a2 a3 a4 a5) := fun a0 _ _ _ _ _ h => of_head (t := a0) h

theorem compressDone : ∀ a0 a1, Statement (.compressDone a0 a1) := fun a0 _ h => of_head (t := a0) h

theorem rewriteStart : ∀ a0 a1, Statement (.rewriteStart a0 a1) := fun a0 _ h => of_head (t := a0) h

theorem rewriteStore : ∀ a0 a1 a2 a3, Statement (.rewriteStore a0 a1 a2 a3) := fun a0 _ _ _ h => of_head (t := a0) h

theorem recoveryRereadDone : ∀ a0 a1 a2, Statement (.recoveryRereadDone a0 a1 a2) := fun a0 _ _ h => of_head (t := a0) h

theorem stripeRecomputeDone : ∀ a0 a1 a2, Statement (.stripeRecomputeDone a0 a1 a2) := fun a0 _ _ h => of_head (t := a0) h

theorem repairWrite : ∀ a0, Statement (.repairWrite a0) := fun a0 h => of_head (t := a0) h

theorem repairTimeout : ∀ a0, Statement (.repairTimeout a0) := fun a0 h => of_head (t := a0) h

theorem flipArm : ∀ a0 a1, Statement (.flipArm a0 a1) := fun a0 _ h => of_head (t := a0) h

theorem flipDisarm : ∀ a0 a1, Statement (.flipDisarm a0 a1) := fun a0 _ h => of_head (t := a0) h

theorem furrowPassGo : ∀ a0 a1, Statement (.furrowPassGo a0 a1) := fun a0 _ h => of_head (t := a0) h

theorem furrowPassStop : ∀ a0 a1, Statement (.furrowPassStop a0 a1) := fun a0 _ h => of_head (t := a0) h

theorem furrowDisable : ∀ a0 a1, Statement (.furrowDisable a0 a1) := fun a0 _ h => of_head (t := a0) h

theorem furrowStepDone : ∀ a0 a1, Statement (.furrowStepDone a0 a1) := fun a0 _ h => of_head (t := a0) h

theorem canalTrainingStart : ∀ a0 a1, Statement (.canalTrainingStart a0 a1) := fun a0 _ h => of_head (t := a0) h

theorem canalTrainingDone : ∀ a0 a1 a2 a3 a4, Statement (.canalTrainingDone a0 a1 a2 a3 a4) := fun a0 _ _ _ _ h => of_head (t := a0) h

theorem canalFillComplete : ∀ a0 a1, Statement (.canalFillComplete a0 a1) := fun a0 _ h => of_head (t := a0) h

theorem refreshDue : ∀ a0 a1 a2 a3 a4, Statement (.refreshDue a0 a1 a2 a3 a4) := fun a0 _ _ _ _ h => of_head (t := a0) h

theorem dimmThermalRead : ∀ a0 a1 a2 a3, Statement (.dimmThermalRead a0 a1 a2 a3) := fun a0 _ _ _ h => of_head (t := a0) h

theorem caParityAlert : ∀ a0 a1 a2, Statement (.caParityAlert a0 a1 a2) := fun a0 _ _ h => of_head (t := a0) h

theorem rcdInternalError : ∀ a0 a1, Statement (.rcdInternalError a0 a1) := fun a0 _ h => of_head (t := a0) h

theorem oosReq : ∀ a0 a1 a2 a3 a4, Statement (.oosReq a0 a1 a2 a3 a4) := fun a0 _ _ _ _ h => of_head (t := a0) h

theorem returnGo : ∀ a0 a1 a2 a3, Statement (.returnGo a0 a1 a2 a3) := fun a0 _ _ _ h => of_head (t := a0) h

theorem rebuildLineDone : ∀ a0 a1, Statement (.rebuildLineDone a0 a1) := fun a0 _ h => of_head (t := a0) h

theorem keyLoad : ∀ a0 a1 a2 a3, Statement (.keyLoad a0 a1 a2 a3) := fun a0 _ _ _ h => of_head (t := a0) h

theorem keyGenerate : ∀ a0 a1 a2 a3, Statement (.keyGenerate a0 a1 a2 a3) := fun a0 _ _ _ h => of_head (t := a0) h

theorem keyClear : ∀ a0 a1 a2, Statement (.keyClear a0 a1 a2) := fun a0 _ _ h => of_head (t := a0) h

theorem keyZeroise : ∀ a0 a1 a2, Statement (.keyZeroise a0 a1 a2) := fun a0 _ _ h => of_head (t := a0) h

theorem keyCmdDone : ∀ a0, Statement (.keyCmdDone a0) := fun a0 h => of_head (t := a0) h

theorem alarmCauseClear : ∀ a0 a1 a2, Statement (.alarmCauseClear a0 a1 a2) := fun a0 _ _ h => of_head (t := a0) h

theorem rekeyGo : ∀ a0 a1 a2 a3, Statement (.rekeyGo a0 a1 a2 a3) := fun a0 _ _ _ h => of_head (t := a0) h

theorem rekeyStepDone : ∀ a0 a1 a2, Statement (.rekeyStepDone a0 a1 a2) := fun a0 _ _ h => of_head (t := a0) h

theorem ideQuery : ∀ a0 a1 a2, Statement (.ideQuery a0 a1 a2) := fun a0 _ _ h => of_head (t := a0) h

theorem ideKeyProg : ∀ a0 a1 a2 a3 a4, Statement (.ideKeyProg a0 a1 a2 a3 a4) := fun a0 _ _ _ _ h => of_head (t := a0) h

theorem ideKSetGo : ∀ a0 a1 a2 a3, Statement (.ideKSetGo a0 a1 a2 a3) := fun a0 _ _ _ h => of_head (t := a0) h

theorem ideKSetStop : ∀ a0 a1 a2 a3, Statement (.ideKSetStop a0 a1 a2 a3) := fun a0 _ _ _ h => of_head (t := a0) h

theorem flitSlotSend : ∀ a0 a1 a2, Statement (.flitSlotSend a0 a1 a2) := fun a0 _ _ h => of_head (t := a0) h

theorem dataFlitReceived : ∀ a0 a1 a2 a3, Statement (.dataFlitReceived a0 a1 a2 a3) := fun a0 _ _ _ h => of_head (t := a0) h

theorem idleFlitReceived : ∀ a0 a1 a2, Statement (.idleFlitReceived a0 a1 a2) := fun a0 _ _ h => of_head (t := a0) h

theorem failedFlit : ∀ a0 a1 a2, Statement (.failedFlit a0 a1 a2) := fun a0 _ _ h => of_head (t := a0) h

theorem ctrlNak : ∀ a0 a1 a2 a3, Statement (.ctrlNak a0 a1 a2 a3) := fun a0 _ _ _ h => of_head (t := a0) h

theorem ctrlRetrainReq : ∀ a0 a1 a2 a3, Statement (.ctrlRetrainReq a0 a1 a2 a3) := fun a0 _ _ _ h => of_head (t := a0) h

theorem ctrlResume : ∀ a0 a1 a2 a3 a4 a5, Statement (.ctrlResume a0 a1 a2 a3 a4 a5) := fun a0 _ _ _ _ _ h => of_head (t := a0) h

theorem ctrlSpareReq : ∀ a0 a1 a2 a3, Statement (.ctrlSpareReq a0 a1 a2 a3) := fun a0 _ _ _ h => of_head (t := a0) h

theorem ctrlSpareAck : ∀ a0 a1 a2 a3 a4, Statement (.ctrlSpareAck a0 a1 a2 a3 a4) := fun a0 _ _ _ _ h => of_head (t := a0) h

theorem ctrlSpareDone : ∀ a0 a1 a2 a3, Statement (.ctrlSpareDone a0 a1 a2 a3) := fun a0 _ _ _ h => of_head (t := a0) h

theorem ctrlSparebackReq : ∀ a0 a1 a2 a3, Statement (.ctrlSparebackReq a0 a1 a2 a3) := fun a0 _ _ _ h => of_head (t := a0) h

theorem ctrlSparebackAck : ∀ a0 a1 a2 a3 a4, Statement (.ctrlSparebackAck a0 a1 a2 a3 a4) := fun a0 _ _ _ _ h => of_head (t := a0) h

theorem ctrlKeySwitch : ∀ a0 a1 a2 a3 a4, Statement (.ctrlKeySwitch a0 a1 a2 a3 a4) := fun a0 _ _ _ _ h => of_head (t := a0) h

theorem ctrlBroken : ∀ a0 a1 a2 a3, Statement (.ctrlBroken a0 a1 a2 a3) := fun a0 _ _ _ h => of_head (t := a0) h

theorem ctrlHello : ∀ a0 a1 a2 a3 a4 a5, Statement (.ctrlHello a0 a1 a2 a3 a4 a5) := fun a0 _ _ _ _ _ h => of_head (t := a0) h

theorem nakRetryTimeout : ∀ a0 a1, Statement (.nakRetryTimeout a0 a1) := fun a0 _ h => of_head (t := a0) h

theorem atCapTimeout : ∀ a0 a1, Statement (.atCapTimeout a0 a1) := fun a0 _ h => of_head (t := a0) h

theorem laneDegraded : ∀ a0 a1 a2 a3 a4, Statement (.laneDegraded a0 a1 a2 a3 a4) := fun a0 _ _ _ _ h => of_head (t := a0) h

theorem spareSwitch : ∀ a0 a1 a2, Statement (.spareSwitch a0 a1 a2) := fun a0 _ _ h => of_head (t := a0) h

theorem sparebackQualified : ∀ a0 a1 a2, Statement (.sparebackQualified a0 a1 a2) := fun a0 _ _ h => of_head (t := a0) h

theorem culvertRetrain : ∀ a0 a1 a2, Statement (.culvertRetrain a0 a1 a2) := fun a0 _ _ h => of_head (t := a0) h

theorem retrainLanesReady : ∀ a0 a1 a2 a3, Statement (.retrainLanesReady a0 a1 a2 a3) := fun a0 _ _ _ h => of_head (t := a0) h

theorem retrainTimeout : ∀ a0 a1, Statement (.retrainTimeout a0 a1) := fun a0 _ h => of_head (t := a0) h

theorem culvertRestart : ∀ a0 a1 a2, Statement (.culvertRestart a0 a1 a2) := fun a0 _ _ h => of_head (t := a0) h

theorem restartTimer : ∀ a0 a1, Statement (.restartTimer a0 a1) := fun a0 _ h => of_head (t := a0) h

theorem culvertTrainingDone : ∀ a0 a1 a2 a3, Statement (.culvertTrainingDone a0 a1 a2 a3) := fun a0 _ _ _ h => of_head (t := a0) h

theorem culvertKeyingDone : ∀ a0 a1, Statement (.culvertKeyingDone a0 a1) := fun a0 _ h => of_head (t := a0) h

theorem linkKeyReady : ∀ a0 a1, Statement (.linkKeyReady a0 a1) := fun a0 _ h => of_head (t := a0) h

theorem culvertDisable : ∀ a0 a1 a2, Statement (.culvertDisable a0 a1 a2) := fun a0 _ _ h => of_head (t := a0) h

theorem mgmtClaim : ∀ a0, Statement (.mgmtClaim a0) := fun a0 h => of_head (t := a0) h

theorem mgmtIdReq : ∀ a0, Statement (.mgmtIdReq a0) := fun a0 h => of_head (t := a0) h

theorem mgmtIdGrant : ∀ a0, Statement (.mgmtIdGrant a0) := fun a0 h => of_head (t := a0) h

theorem mgmtIdTable : ∀ a0, Statement (.mgmtIdTable a0) := fun a0 h => of_head (t := a0) h

theorem mgmtLinkState : ∀ a0, Statement (.mgmtLinkState a0) := fun a0 h => of_head (t := a0) h

theorem mgmtLeave : ∀ a0, Statement (.mgmtLeave a0) := fun a0 h => of_head (t := a0) h

theorem mgmtSpdm : ∀ a0, Statement (.mgmtSpdm a0) := fun a0 h => of_head (t := a0) h

theorem mgmtKeyUpdate : ∀ a0, Statement (.mgmtKeyUpdate a0) := fun a0 h => of_head (t := a0) h

theorem claimPeriodic : ∀ a0, Statement (.claimPeriodic a0) := fun a0 h => of_head (t := a0) h

theorem electionSettle : ∀ a0, Statement (.electionSettle a0) := fun a0 h => of_head (t := a0) h

theorem linkStatePeriodic : ∀ a0, Statement (.linkStatePeriodic a0) := fun a0 h => of_head (t := a0) h

theorem idHoldExpiry : ∀ a0 a1, Statement (.idHoldExpiry a0 a1) := fun a0 _ h => of_head (t := a0) h

theorem keyingRetry : ∀ a0 a1, Statement (.keyingRetry a0 a1) := fun a0 _ h => of_head (t := a0) h

theorem routeRecompute : ∀ a0, Statement (.routeRecompute a0) := fun a0 h => of_head (t := a0) h

theorem fabricLeave : ∀ a0 a1, Statement (.fabricLeave a0 a1) := fun a0 _ h => of_head (t := a0) h

theorem unitRd : ∀ a0 a1, Statement (.unitRd a0 a1) := fun a0 _ h => of_head (t := a0) h

theorem unitWr : ∀ a0 a1, Statement (.unitWr a0 a1) := fun a0 _ h => of_head (t := a0) h

theorem unitWrp : ∀ a0 a1, Statement (.unitWrp a0 a1) := fun a0 _ h => of_head (t := a0) h

theorem unitRdrsp : ∀ a0 a1, Statement (.unitRdrsp a0 a1) := fun a0 _ h => of_head (t := a0) h

theorem unitWrcmp : ∀ a0 a1, Statement (.unitWrcmp a0 a1) := fun a0 _ h => of_head (t := a0) h

theorem unitDemote : ∀ a0 a1, Statement (.unitDemote a0 a1) := fun a0 _ h => of_head (t := a0) h

theorem unitFack : ∀ a0 a1, Statement (.unitFack a0 a1) := fun a0 _ h => of_head (t := a0) h

theorem unitResync : ∀ a0 a1, Statement (.unitResync a0 a1) := fun a0 _ h => of_head (t := a0) h

theorem unitResyncAck : ∀ a0 a1, Statement (.unitResyncAck a0 a1) := fun a0 _ h => of_head (t := a0) h

theorem unitTransit : ∀ a0 a1, Statement (.unitTransit a0 a1) := fun a0 _ h => of_head (t := a0) h

theorem unitBad : ∀ a0 a1, Statement (.unitBad a0 a1) := fun a0 _ h => of_head (t := a0) h

theorem fabricRelease : ∀ a0 a1 a2, Statement (.fabricRelease a0 a1 a2) := fun a0 _ _ h => of_head (t := a0) h

theorem ownerDeadline : ∀ a0 a1, Statement (.ownerDeadline a0 a1) := fun a0 _ h => of_head (t := a0) h

theorem fackTimer : ∀ a0 a1 a2, Statement (.fackTimer a0 a1 a2) := fun a0 _ _ h => of_head (t := a0) h

theorem credTimeout : ∀ a0 a1 a2, Statement (.credTimeout a0 a1 a2) := fun a0 _ _ h => of_head (t := a0) h

theorem cohCrd : ∀ a0 a1, Statement (.cohCrd a0 a1) := fun a0 _ h => of_head (t := a0) h

theorem cohEvict : ∀ a0 a1, Statement (.cohEvict a0 a1) := fun a0 _ h => of_head (t := a0) h

theorem cohBisnp : ∀ a0 a1, Statement (.cohBisnp a0 a1) := fun a0 _ h => of_head (t := a0) h

theorem cohBirsp : ∀ a0 a1, Statement (.cohBirsp a0 a1) := fun a0 _ h => of_head (t := a0) h

theorem cohGrant : ∀ a0 a1, Statement (.cohGrant a0 a1) := fun a0 _ h => of_head (t := a0) h

theorem cohAgentDown : ∀ a0 a1, Statement (.cohAgentDown a0 a1) := fun a0 _ h => of_head (t := a0) h

theorem cohFence : ∀ a0 a1, Statement (.cohFence a0 a1) := fun a0 _ h => of_head (t := a0) h

theorem cohReady : ∀ a0 a1, Statement (.cohReady a0 a1) := fun a0 _ h => of_head (t := a0) h

theorem readyResend : ∀ a0 a1, Statement (.readyResend a0 a1) := fun a0 _ h => of_head (t := a0) h

theorem holdEnd : ∀ a0 a1, Statement (.holdEnd a0 a1) := fun a0 _ h => of_head (t := a0) h

theorem dirSweep : ∀ a0, Statement (.dirSweep a0) := fun a0 h => of_head (t := a0) h

theorem biTimeout : ∀ a0 a1 a2, Statement (.biTimeout a0 a1 a2) := fun a0 _ _ h => of_head (t := a0) h

theorem regionTear : ∀ a0 a1 a2, Statement (.regionTear a0 a1 a2) := fun a0 _ _ h => of_head (t := a0) h

theorem regionReform : ∀ a0 a1 a2, Statement (.regionReform a0 a1 a2) := fun a0 _ _ h => of_head (t := a0) h

theorem twinMirror : ∀ a0, Statement (.twinMirror a0) := fun a0 h => of_head (t := a0) h

theorem twinMirrorP : ∀ a0, Statement (.twinMirrorP a0) := fun a0 h => of_head (t := a0) h

theorem twinFwd : ∀ a0, Statement (.twinFwd a0) := fun a0 h => of_head (t := a0) h

theorem twinFwdP : ∀ a0, Statement (.twinFwdP a0) := fun a0 h => of_head (t := a0) h

theorem twinMask : ∀ a0, Statement (.twinMask a0) := fun a0 h => of_head (t := a0) h

theorem twinOrdered : ∀ a0, Statement (.twinOrdered a0) := fun a0 h => of_head (t := a0) h

theorem twinAck : ∀ a0, Statement (.twinAck a0) := fun a0 h => of_head (t := a0) h

theorem twinRefetchReq : ∀ a0 a1 a2, Statement (.twinRefetchReq a0 a1 a2) := fun a0 _ _ h => of_head (t := a0) h

theorem twinRefetchRsp : ∀ a0, Statement (.twinRefetchRsp a0) := fun a0 h => of_head (t := a0) h

theorem twinRefetchFail : ∀ a0, Statement (.twinRefetchFail a0) := fun a0 h => of_head (t := a0) h

theorem refetchBudgetExpiry : ∀ a0 a1, Statement (.refetchBudgetExpiry a0 a1) := fun a0 _ h => of_head (t := a0) h

theorem twinCopy : ∀ a0, Statement (.twinCopy a0) := fun a0 h => of_head (t := a0) h

theorem twinCopyPoison : ∀ a0, Statement (.twinCopyPoison a0) := fun a0 h => of_head (t := a0) h

theorem twinCopyBlank : ∀ a0, Statement (.twinCopyBlank a0) := fun a0 h => of_head (t := a0) h

theorem twinDir : ∀ a0, Statement (.twinDir a0) := fun a0 h => of_head (t := a0) h

theorem twinHello : ∀ a0, Statement (.twinHello a0) := fun a0 h => of_head (t := a0) h

theorem twinLeave : ∀ a0, Statement (.twinLeave a0) := fun a0 h => of_head (t := a0) h

theorem twinReverse : ∀ a0, Statement (.twinReverse a0) := fun a0 h => of_head (t := a0) h

theorem twinMap : ∀ a0, Statement (.twinMap a0) := fun a0 h => of_head (t := a0) h

theorem twinPaired : ∀ a0, Statement (.twinPaired a0) := fun a0 h => of_head (t := a0) h

theorem twinCoh : ∀ a0, Statement (.twinCoh a0) := fun a0 h => of_head (t := a0) h

theorem twinCohData : ∀ a0, Statement (.twinCohData a0) := fun a0 h => of_head (t := a0) h

theorem twinBadRecord : ∀ a0, Statement (.twinBadRecord a0) := fun a0 h => of_head (t := a0) h

theorem diverseTimeout : ∀ a0, Statement (.diverseTimeout a0) := fun a0 h => of_head (t := a0) h

theorem lossTimeout : ∀ a0, Statement (.lossTimeout a0) := fun a0 h => of_head (t := a0) h

theorem twinHelloPeriodic : ∀ a0, Statement (.twinHelloPeriodic a0) := fun a0 h => of_head (t := a0) h

theorem twinDetach : ∀ a0 a1 a2, Statement (.twinDetach a0 a1 a2) := fun a0 _ _ h => of_head (t := a0) h

theorem resilverGo : ∀ a0 a1, Statement (.resilverGo a0 a1) := fun a0 _ h => of_head (t := a0) h

theorem resilverFull : ∀ a0 a1, Statement (.resilverFull a0 a1) := fun a0 _ h => of_head (t := a0) h

theorem twinUnfence : ∀ a0 a1, Statement (.twinUnfence a0 a1) := fun a0 _ h => of_head (t := a0) h

theorem resilverLineSend : ∀ a0 a1 a2, Statement (.resilverLineSend a0 a1 a2) := fun a0 _ _ h => of_head (t := a0) h

theorem pairedHandoverDone : ∀ a0, Statement (.pairedHandoverDone a0) := fun a0 h => of_head (t := a0) h

theorem sluiceSample : ∀ a0 a1 a2 a3 a4 a5 a6 a7, Statement (.sluiceSample a0 a1 a2 a3 a4 a5 a6 a7) := fun a0 _ _ _ _ _ _ _ h => of_head (t := a0) h

theorem curveTrip : ∀ a0 a1, Statement (.curveTrip a0 a1) := fun a0 _ h => of_head (t := a0) h

theorem uvTrip : ∀ a0 a1, Statement (.uvTrip a0 a1) := fun a0 _ h => of_head (t := a0) h

theorem scComparator : ∀ a0 a1, Statement (.scComparator a0 a1) := fun a0 _ h => of_head (t := a0) h

theorem debounceComplete : ∀ a0 a1, Statement (.debounceComplete a0 a1) := fun a0 _ h => of_head (t := a0) h

theorem inrushTimeout : ∀ a0 a1, Statement (.inrushTimeout a0 a1) := fun a0 _ h => of_head (t := a0) h

theorem pgTimeout : ∀ a0 a1, Statement (.pgTimeout a0 a1) := fun a0 _ h => of_head (t := a0) h

theorem cooldownEnd : ∀ a0 a1, Statement (.cooldownEnd a0 a1) := fun a0 _ h => of_head (t := a0) h

theorem removalDeclared : ∀ a0 a1, Statement (.removalDeclared a0 a1) := fun a0 _ h => of_head (t := a0) h

theorem presenceDetected : ∀ a0 a1, Statement (.presenceDetected a0 a1) := fun a0 _ h => of_head (t := a0) h

theorem goodOnTime10s : ∀ a0 a1, Statement (.goodOnTime10s a0 a1) := fun a0 _ h => of_head (t := a0) h

theorem sluiceMeanUpdate : ∀ a0 a1, Statement (.sluiceMeanUpdate a0 a1) := fun a0 _ h => of_head (t := a0) h

theorem sluiceOnReq : ∀ a0 a1 a2, Statement (.sluiceOnReq a0 a1 a2) := fun a0 _ _ h => of_head (t := a0) h

theorem sluiceOffReq : ∀ a0 a1 a2 a3, Statement (.sluiceOffReq a0 a1 a2 a3) := fun a0 _ _ _ h => of_head (t := a0) h

theorem sluiceUnlatch : ∀ a0 a1 a2, Statement (.sluiceUnlatch a0 a1 a2) := fun a0 _ _ h => of_head (t := a0) h

theorem curveSwap : ∀ a0 a1 a2, Statement (.curveSwap a0 a1 a2) := fun a0 _ _ h => of_head (t := a0) h

theorem energyClr : ∀ a0 a1 a2, Statement (.energyClr a0 a1 a2) := fun a0 _ _ h => of_head (t := a0) h

theorem sluiceDisable : ∀ a0 a1 a2, Statement (.sluiceDisable a0 a1 a2) := fun a0 _ _ h => of_head (t := a0) h

theorem voteSet : ∀ a0 a1 a2, Statement (.voteSet a0 a1 a2) := fun a0 _ _ h => of_head (t := a0) h

theorem voteClr : ∀ a0 a1 a2, Statement (.voteClr a0 a1 a2) := fun a0 _ _ h => of_head (t := a0) h

theorem slackEnter : ∀ a0, Statement (.slackEnter a0) := fun a0 h => of_head (t := a0) h

theorem stateEntryPrep : ∀ a0 a1, Statement (.stateEntryPrep a0 a1) := fun a0 _ h => of_head (t := a0) h

theorem voteCommit : ∀ a0, Statement (.voteCommit a0) := fun a0 h => of_head (t := a0) h

theorem isolation : ∀ a0, Statement (.isolation a0) := fun a0 h => of_head (t := a0) h

theorem wake : ∀ a0 a1, Statement (.wake a0 a1) := fun a0 _ h => of_head (t := a0) h

theorem wakeSeqEntry : ∀ a0, Statement (.wakeSeqEntry a0) := fun a0 h => of_head (t := a0) h

theorem wakeHoldExpiry : ∀ a0, Statement (.wakeHoldExpiry a0) := fun a0 h => of_head (t := a0) h

theorem tokenRefill : ∀ a0 a1 a2, Statement (.tokenRefill a0 a1 a2) := fun a0 _ _ h => of_head (t := a0) h

theorem recordWrite : ∀ a0, Statement (.recordWrite a0) := fun a0 h => of_head (t := a0) h

theorem repeatWindowExpiry : ∀ a0, Statement (.repeatWindowExpiry a0) := fun a0 h => of_head (t := a0) h

theorem flashRecordWrite : ∀ a0 a1, Statement (.flashRecordWrite a0 a1) := fun a0 _ h => of_head (t := a0) h

theorem flashEraseDone : ∀ a0 a1, Statement (.flashEraseDone a0 a1) := fun a0 _ h => of_head (t := a0) h

theorem checkpoint : ∀ a0, Statement (.checkpoint a0) := fun a0 h => of_head (t := a0) h

theorem readSeq : ∀ a0 a1 a2, Statement (.readSeq a0 a1 a2) := fun a0 _ _ h => of_head (t := a0) h

theorem flashReadDone : ∀ a0, Statement (.flashReadDone a0) := fun a0 h => of_head (t := a0) h

theorem clearReq : ∀ a0 a1, Statement (.clearReq a0 a1) := fun a0 _ h => of_head (t := a0) h

theorem clearResp : ∀ a0 a1 a2, Statement (.clearResp a0 a1 a2) := fun a0 _ _ h => of_head (t := a0) h

theorem gbClear : ∀ a0 a1 a2 a3 a4, Statement (.gbClear a0 a1 a2 a3 a4) := fun a0 _ _ _ _ h => of_head (t := a0) h

theorem challengeExpiry : ∀ a0, Statement (.challengeExpiry a0) := fun a0 h => of_head (t := a0) h

theorem clearBlockErase : ∀ a0, Statement (.clearBlockErase a0) := fun a0 h => of_head (t := a0) h

theorem powerOn : ∀ a0, Statement (.powerOn a0) := fun a0 h => of_head (t := a0) h

theorem fwAuthDone : ∀ a0 a1 a2 a3, Statement (.fwAuthDone a0 a1 a2 a3) := fun a0 _ _ _ h => of_head (t := a0) h

theorem riserOnSchedule : ∀ a0 a1, Statement (.riserOnSchedule a0 a1) := fun a0 _ h => of_head (t := a0) h

theorem riserPgTimeout : ∀ a0 a1, Statement (.riserPgTimeout a0 a1) := fun a0 _ h => of_head (t := a0) h

theorem mbPing : ∀ a0 a1, Statement (.mbPing a0 a1) := fun a0 _ h => of_head (t := a0) h

theorem mbFwStage : ∀ a0 a1, Statement (.mbFwStage a0 a1) := fun a0 _ h => of_head (t := a0) h

theorem mbFwActivate : ∀ a0 a1, Statement (.mbFwActivate a0 a1) := fun a0 _ h => of_head (t := a0) h

theorem mbDeviceReset : ∀ a0 a1, Statement (.mbDeviceReset a0 a1) := fun a0 _ h => of_head (t := a0) h

theorem mbProvisionAnchor : ∀ a0 a1, Statement (.mbProvisionAnchor a0 a1) := fun a0 _ h => of_head (t := a0) h

theorem mbProvisionClearKey : ∀ a0 a1, Statement (.mbProvisionClearKey a0 a1) := fun a0 _ h => of_head (t := a0) h

theorem mbProvisionLock : ∀ a0 a1, Statement (.mbProvisionLock a0 a1) := fun a0 _ h => of_head (t := a0) h

theorem mbMgmtRestart : ∀ a0 a1, Statement (.mbMgmtRestart a0 a1) := fun a0 _ h => of_head (t := a0) h

theorem mbFwRevert : ∀ a0 a1, Statement (.mbFwRevert a0 a1) := fun a0 _ h => of_head (t := a0) h

theorem mbCmdDone : ∀ a0 a1 a2 a3, Statement (.mbCmdDone a0 a1 a2 a3) := fun a0 _ _ _ h => of_head (t := a0) h

theorem mgmtRestartDone : ∀ a0, Statement (.mgmtRestartDone a0) := fun a0 h => of_head (t := a0) h

theorem pldmQueryDeviceIdentifiers : ∀ a0, Statement (.pldmQueryDeviceIdentifiers a0) := fun a0 h => of_head (t := a0) h

theorem pldmGetFirmwareParameters : ∀ a0, Statement (.pldmGetFirmwareParameters a0) := fun a0 h => of_head (t := a0) h

theorem pldmRequestUpdate : ∀ a0, Statement (.pldmRequestUpdate a0) := fun a0 h => of_head (t := a0) h

theorem pldmPassComponentTable : ∀ a0 a1, Statement (.pldmPassComponentTable a0 a1) := fun a0 _ h => of_head (t := a0) h

theorem pldmUpdateComponent : ∀ a0 a1 a2, Statement (.pldmUpdateComponent a0 a1 a2) := fun a0 _ _ h => of_head (t := a0) h

theorem pldmFirmwareData : ∀ a0 a1, Statement (.pldmFirmwareData a0 a1) := fun a0 _ h => of_head (t := a0) h

theorem pldmActivateFirmware : ∀ a0, Statement (.pldmActivateFirmware a0) := fun a0 h => of_head (t := a0) h

theorem pldmGetStatus : ∀ a0, Statement (.pldmGetStatus a0) := fun a0 h => of_head (t := a0) h

theorem pldmCancelUpdateComponent : ∀ a0, Statement (.pldmCancelUpdateComponent a0) := fun a0 h => of_head (t := a0) h

theorem pldmCancelUpdate : ∀ a0, Statement (.pldmCancelUpdate a0) := fun a0 h => of_head (t := a0) h

theorem pldmDataTimeout : ∀ a0, Statement (.pldmDataTimeout a0) := fun a0 h => of_head (t := a0) h

theorem railLoss : ∀ a0, Statement (.railLoss a0) := fun a0 h => of_head (t := a0) h

theorem vaonLoss : ∀ a0, Statement (.vaonLoss a0) := fun a0 h => of_head (t := a0) h

theorem alwaysOnPowerUp : ∀ a0 a1 a2 a3 a4, Statement (.alwaysOnPowerUp a0 a1 a2 a3 a4) := fun a0 _ _ _ _ h => of_head (t := a0) h

theorem pairAlignmentLoss : ∀ a0 a1, Statement (.pairAlignmentLoss a0 a1) := fun a0 _ h => of_head (t := a0) h

theorem resyncAckTimeout : ∀ a0 a1 a2, Statement (.resyncAckTimeout a0 a1 a2) := fun a0 _ _ h => of_head (t := a0) h

theorem linkRekeyDue : ∀ a0 a1, Statement (.linkRekeyDue a0 a1) := fun a0 _ h => of_head (t := a0) h

theorem hostReadCompletionTimeout : ∀ a0 a1, Statement (.hostReadCompletionTimeout a0 a1) := fun a0 _ h => of_head (t := a0) h

theorem busMasterEnableCleared : ∀ a0 a1, Statement (.busMasterEnableCleared a0 a1) := fun a0 _ h => of_head (t := a0) h

theorem mctpSpdmRequest : ∀ a0, Statement (.mctpSpdmRequest a0) := fun a0 h => of_head (t := a0) h

end Sys2Proof.Laws.Tide
end

