-- ==== Sys2Proof/Laws/Run.lean ====
section
/-! SUPPORT. The common form of a meaning: what a command answers where the rails are present, where they are not, and where a source may
or may not write. -/

namespace Sys2Proof.Machine

theorem run_live {s : State} (h : s.live) (t : Nat) (f : Mach → Mach) : s.run t f = s.done (f (s.now t)) := by
  have h' : s.m.boot.powered = true := h
  simp [State.run, Mach.railed, State.done, State.now, h']

theorem run_dead {s : State} (h : ¬ s.live) (t : Nat) (f : Mach → Mach) : s.run t f = s.done (s.now t) := by
  have h' : s.m.boot.powered = false := by simpa [State.live] using h
  simp [State.run, Mach.railed, State.done, State.now, h']

theorem runFuse_live {s : State} (h : s.live) (t : Nat) (f : Fuses → Mach → Fuses × Mach) :
    s.runFuse t f = .next { s with fuse := (f s.fuse (s.now t)).1, m := (f s.fuse (s.now t)).2 } := by
  have h' : s.m.boot.powered = true := h
  simp [State.runFuse, State.now, h']

theorem runFuse_dead {s : State} (h : ¬ s.live) (t : Nat) (f : Fuses → Mach → Fuses × Mach) :
    s.runFuse t f = s.done (s.now t) := by
  have h' : s.m.boot.powered = false := by simpa [State.live] using h
  simp [State.runFuse, State.done, State.now, h']

theorem runAlways_done (s : State) (t : Nat) (f : Mach → Mach) : s.runAlways t f = s.done (f (s.now t)) := rfl

/-- A register write that is let in has its effect on the woken device. -/
theorem written_can {s : State} {src : Nat} (h : s.canWrite src) (t : Nat) (f : Mach → Mach) :
    (s.now t).written src f = f (s.woken t) := by
  obtain ⟨_, hp, hw⟩ := h
  have hp' : ¬ 2 ≤ (s.now t).pw.st := Nat.not_le.mpr hp
  have hw' : (s.now t).mayWrite src = true := hw
  unfold Mach.written
  rw [if_neg hp', hw']
  rfl

/-- A register write that `CFG_WRITERS` keeps out is counted (R31). -/
theorem written_out {s : State} {src : Nat} (h : s.keptOut src) (t : Nat) (f : Mach → Mach) :
    (s.now t).written src f = (s.woken t).blocked src := by
  obtain ⟨_, hp, hw⟩ := h
  have hp' : ¬ 2 ≤ (s.now t).pw.st := Nat.not_le.mpr hp
  have hw' : (s.now t).mayWrite src = false := hw
  unfold Mach.written
  rw [if_neg hp', hw']
  rfl

theorem stageWrite_can {s : State} {src : Nat} (h : s.canWrite src) (t : Nat) (k : PageKind) (i : Nat) (f : Mach → Mach) :
    (s.now t).stageWrite k i src f = f (s.noted t k i src) := written_can h t _

theorem stageWrite_out {s : State} {src : Nat} (h : s.keptOut src) (t : Nat) (k : PageKind) (i : Nat) (f : Mach → Mach) :
    (s.now t).stageWrite k i src f = (s.woken t).blocked src := written_out h t _

/-- Ending SLACK changes neither the rails nor the write permissions' page. -/
theorem awake_active (m : Mach) (h : m.pw.st ≠ 1) : m.awake = m := by simp [Mach.awake, h]

end Sys2Proof.Machine
end

