-- ==== Sys2Proof/Laws/Store.lean ====
section
/-! SUPPORT. The stored lines: a line that is stored is read back, another line stays as it was, and every operation on the DRAM
contents keeps their canonical form. -/

namespace Sys2Proof.Machine

/-! ### Reading after writing -/

@[simp] theorem image_putImage_same (m : Mach) (pl : Nat) (i : Image) : (m.putImage pl i).image pl = i := by
  by_cases h : i = blankImage pl
  · simp [Mach.putImage, Mach.image, Mach.modSt, h]
  · simp [Mach.putImage, Mach.image, Mach.modSt, h]

theorem image_putImage_ne (m : Mach) {pl q : Nat} (i : Image) (h : q ≠ pl) : (m.putImage pl i).image q = m.image q := by
  by_cases hi : i = blankImage pl
  · simp [Mach.putImage, Mach.image, Mach.modSt, hi, Tbl.find_del_ne _ h]
  · simp [Mach.putImage, Mach.image, Mach.modSt, hi, Tbl.find_put_ne _ _ h]

/-- What is listed once lines are dropped. -/
theorem find_filter (l : List (Nat × Image)) (keep : Nat → Bool) (pl : Nat) :
    Tbl.find (l.filter fun e => keep e.1) pl = if keep pl then Tbl.find l pl else none := by
  induction l with
  | nil => simp [Tbl.find]
  | cons e l ih =>
    obtain ⟨k, v⟩ := e
    by_cases hk : keep k = true
    · by_cases hp : k = pl
      · subst hp; simp [Tbl.find, hk]
      · simp [Tbl.find, hk, hp, ih]
    · by_cases hp : k = pl
      · subst hp; simp [Tbl.find, hk, ih]
      · simp [Tbl.find, hk, hp, ih]

theorem image_blankCanal (m : Mach) (c pl : Nat) :
    (m.blankCanal c).image pl = if canalOf pl = c then blankImage pl else m.image pl := by
  have h := find_filter m.st.dram (fun k => canalOf k != c) pl
  simp only [Mach.blankCanal, Mach.image, Mach.modSt, h]
  by_cases hc : canalOf pl = c <;> simp [hc]

theorem image_blankFrame (m : Mach) (f pl : Nat) :
    (m.blankFrame f).image pl = if pl / 2 ^ 24 = f then blankImage pl else m.image pl := by
  have h := find_filter m.st.dram (fun k => k / 2 ^ 24 != f) pl
  unfold Mach.blankFrame Mach.image Mach.modSt
  rw [h]
  by_cases hc : pl / 2 ^ 24 = f
  · rw [if_pos hc, if_neg (by rw [hc, bne_self_eq_false]; exact Bool.false_ne_true)]
    rfl
  · rw [if_neg hc, if_pos (bne_iff_ne.mpr hc)]

/-! ### The canonical form -/

theorem memoryWf_iff {l : List (Nat × Image)} :
    memoryWf l = true ↔ Tbl.sorted l = true ∧ ∀ e ∈ l, e.2 ≠ blankImage e.1 := by
  simp [memoryWf, List.all_eq_true]

theorem memoryWf_put {l : List (Nat × Image)} (h : memoryWf l = true) {pl : Nat} {i : Image} (hi : i ≠ blankImage pl) :
    memoryWf (Tbl.put l pl i) = true := by
  obtain ⟨hs, hb⟩ := memoryWf_iff.mp h
  refine memoryWf_iff.mpr ⟨Tbl.sorted_put pl i hs, fun e he => ?_⟩
  rcases Tbl.mem_put he with rfl | he
  · exact hi
  · exact hb e he

theorem memoryWf_del {l : List (Nat × Image)} (h : memoryWf l = true) (pl : Nat) : memoryWf (Tbl.del l pl) = true := by
  obtain ⟨hs, hb⟩ := memoryWf_iff.mp h
  exact memoryWf_iff.mpr ⟨Tbl.sorted_del pl hs, fun e he => hb e (Tbl.mem_del he).1⟩

theorem memoryWf_filter {l : List (Nat × Image)} (h : memoryWf l = true) (p : Nat × Image → Bool) : memoryWf (l.filter p) = true := by
  obtain ⟨hs, hb⟩ := memoryWf_iff.mp h
  exact memoryWf_iff.mpr ⟨Tbl.sorted_filter p hs, fun e he => hb e (List.mem_filter.mp he).1⟩

theorem memoryWf_putImage {m : Mach} (h : memoryWf m.st.dram = true) (pl : Nat) (i : Image) :
    memoryWf (m.putImage pl i).st.dram = true := by
  by_cases hi : i = blankImage pl
  · simpa [Mach.putImage, Mach.modSt, hi] using memoryWf_del h pl
  · simpa [Mach.putImage, Mach.modSt, hi] using memoryWf_put h hi

theorem memoryWf_blankCanal {m : Mach} (h : memoryWf m.st.dram = true) (c : Nat) : memoryWf (m.blankCanal c).st.dram = true :=
  memoryWf_filter h _

theorem memoryWf_blankFrame {m : Mach} (h : memoryWf m.st.dram = true) (f : Nat) : memoryWf (m.blankFrame f).st.dram = true :=
  memoryWf_filter h _

theorem memoryWf_reset : memoryWf State.reset.m.st.dram = true := rfl

end Sys2Proof.Machine
end

