-- ==== Sys2Proof/Machine/ConfigSpace.lean ====
section
/-! DEFINITION. What a host function shows beside BAR0 and its mailboxes: the values of its configuration space (R53, R54, R62, R67,
R77), the MSI-X table and PBA of BAR2 (R67, R75, R76), the ranges of BAR4 (R67) and the expansion ROM (R69). The table of operations
has no row for these reads and writes, so they are operations on the device and no commands (log entry 17). -/

namespace Sys2Proof.Machine

/-! ### Configuration space -/

/-- Device ID, Revision ID and class code of every function (R54). -/
def deviceId : Nat := 0x6416
def revisionId : Nat := 0xB0
def classCode : Nat := 0x050210

/-- The bytes of a BAR pair, or of the expansion ROM (R67). -/
inductive Bar where
  | bar0 | bar2 | bar4 | rom
deriving DecidableEq, Repr

/-- Their sizes in bytes; the three BARs are 64-bit and non-prefetchable (R67). -/
def Bar.size : Bar → Nat
  | .bar0 => 2 ^ 24
  | .bar2 => 2 ^ 16
  | .bar4 => 2 ^ 17
  | .rom => 2 ^ 20

/-- A block that the Register Locator DVSEC points to: its BAR, its offset (R67). -/
def registerLocator : List (Bar × Nat) := [(.bar4, 0x00000), (.bar4, 0x10000)]

/-- What a function's configuration space reports, as far as the manual gives it: identity (R54), what the host has programmed (R63,
R117), MSI-X (R67, R75) and CXL DVSEC Ranges 1 and 2 (R77), their sizes in bytes. -/
structure CfgView where
  vendor : Nat
  device : Nat
  revision : Nat
  cls : Nat
  serial : Nat
  bme : Bool
  mps : Nat
  mrrs : Nat
  biEnabled : Bool
  vectors : Nat
  tableAt : Nat
  pbaAt : Nat
  infoValid : Bool
  activeTimeout : Nat
  memActive : Bool
  range1 : Nat
  range2 : Nat
deriving DecidableEq, Repr

/-- A size in bytes rounded up to 256 MB. -/
def up256M (n : Nat) : Nat := (n + 2 ^ 28 - 1) / 2 ^ 28 * 2 ^ 28

/-- The configuration space of a port's function. Memory_Active_Timeout 0b011 is 64 s (R77). -/
def Mach.cfgView (m : Mach) (p : Nat) : CfgView :=
  let x := m.port p
  { vendor := Config.vendorId.toNat, device := deviceId, revision := revisionId, cls := classCode, serial := m.serial
    bme := x.bme, mps := x.mps, mrrs := x.mrrs, biEnabled := x.biEnabled, vectors := 256, tableAt := 0, pbaAt := 0x8000
    infoValid := true, activeTimeout := 3, memActive := m.memActive
    range1 := up256M (m.rd Reg.TractTable.SPAN_GB * 2 ^ 30), range2 := 0 }

/-- What an HDM decoder's registers in the component registers hold: the decoder where it is committed, Commit Error; DPA Skip reads 0 (R62,
R63). -/
structure DecoderView where
  dec : Option Decoder
  err : Bool
  dpaSkip : Nat
deriving DecidableEq, Repr

def Mach.decoderView (m : Mach) (p n : Nat) : DecoderView :=
  { dec := Tbl.find (m.port p).decoders n, err := (m.rd Reg.HostPort.DEC_ERR p).testBit n, dpaSkip := 0 }

/-- A write of the DPA Skip register is ignored (R62). -/
def Mach.dpaSkipWrite (m : Mach) (_p _n _v : Nat) : Mach := m

/-- The range of BAR4 in which an offset lies: the component registers, with the CXL.cachemem range from 0x01000, and the device registers
(R67). -/
inductive Bar4Range where
  | component | cachemem | device
deriving DecidableEq, Repr

def bar4Range (off : Nat) : Bar4Range :=
  if 0x10000 ≤ off then .device else if 0x01000 ≤ off then .cachemem else .component

/-! ### The MSI-X table and PBA in BAR2 (R67, R75, R76) -/

/-- The message that an entry holds: its address and its data; 0 after a reset of the function. -/
def PortX.vecEntry (x : PortX) (vec : Nat) : Nat × Nat := Tbl.getD x.vecMsg vec (0, 0)

/-- The 32-bit word at an offset of BAR2: entry words address, upper address, data, vector control; the PBA's 256 bits. -/
def Mach.bar2Read (m : Mach) (p off : Nat) : Nat :=
  let x := m.port p
  let v := off / 16
  if off < 0x1000 then
    match off / 4 % 4 with
    | 0 => (x.vecEntry v).1 % 2 ^ 32
    | 1 => (x.vecEntry v).1 / 2 ^ 32
    | 2 => (x.vecEntry v).2
    | _ => (!x.vecOpen.contains v).toNat
  else if 0x8000 ≤ off && off < 0x8020 then
    ((List.range 32).map fun b => if x.vecPend.contains ((off - 0x8000) / 4 * 32 + b) then 2 ^ b else 0).sum
  else 0

/-- A 32-bit write to BAR2: the PBA is read-only; vector control masks or unmasks (R76). -/
def Mach.bar2Write (m : Mach) (p off val : Nat) : Mach :=
  let x := m.port p
  let v := off / 16
  let (a, d) := x.vecEntry v
  let put := fun e => m.setPort p { x with vecMsg := Tbl.put x.vecMsg v e }
  if off < 0x1000 then
    match off / 4 % 4 with
    | 0 => put (a / 2 ^ 32 * 2 ^ 32 + val % 2 ^ 32, d)
    | 1 => put (a % 2 ^ 32 + val % 2 ^ 32 * 2 ^ 32, d)
    | 2 => put (a, val % 2 ^ 32)
    | _ => m.vecMask p v (val % 2 = 1)
  else m

/-! ### The expansion ROM (R69) -/

/-- The PCI Data Structure of 24 bytes: image length 128 units of 512 bytes, code type 0xF0, the last-image indicator in bit 7 (PRESUMED
layout, log entry 130). -/
def Mach.pciData (m : Mach) : List Nat :=
  [0x50, 0x43, 0x49, 0x52] ++ leBytes 2 Config.vendorId.toNat ++ leBytes 2 deviceId ++ leBytes 2 0 ++ leBytes 2 24 ++ [0] ++
  leBytes 3 classCode ++ leBytes 2 128 ++ leBytes 2 0 ++ [0xF0, if m.boot.uefi = 0 then 0x80 else 0] ++ leBytes 2 0

/-- Bytes put over a list at a place. -/
def patch (l : List Nat) (at_ : Nat) (bs : List Nat) : List Nat := l.take at_ ++ bs ++ l.drop (at_ + bs.length)

/-- The DDT as last written, as the function of a port reads it: its port, `GEN` as it stands, the checksum over both (R70, R72). -/
def Mach.romDdt (m : Mach) (p : Nat) : List Nat :=
  if m.boot.ddt.isEmpty then []
  else
    let d := patch (patch m.boot.ddt 0x18 [p]) 0x1C (leBytes 4 m.ddtGen)
    patch d 0x0C (leBytes 4 (crc32c d))

/-- The byte of the ROM at an offset, as the function of a port reads it (R69). -/
def Mach.romByte (m : Mach) (p off : Nat) : Nat :=
  if off = 0 then 0x55
  else if off = 1 then 0xAA
  else if off = 0x18 then 0x40
  else if off < 0x40 then 0
  else if off < 0x58 then m.pciData.getD (off - 0x40) 0
  else if off < 0x80 then 0
  else if off < 0x10000 then (m.romDdt p).getD (off - 0x80) 0
  else if off < 0x10000 + m.boot.uefi then (Config.uefiByte (off - 0x10000)).toNat
  else 0

/-- A write to the ROM window is ignored (R69). -/
def Mach.romWrite (m : Mach) (_off _val : Nat) : Mach := m

end Sys2Proof.Machine
end

