-- ==== Sys2Proof/Tests/Slice0.lean ====
section
/-! SUPPORT. Tests: for each command one step on a small state, whose `met` part shows that the hypotheses of its completion statement can
be met together, and what comes out of it by the spec's rules; the spec's worked examples; the refusals of `Instr.wf`. Expected values
are the spec's own or worked by hand from its rules. -/

namespace Sys2Proof.Tests

set_option Elab.async false

open Sys2Proof.Machine

/-- The device right after reset with its rails present, at tide 1000, with keys that are known. -/
def m0 : Mach := { State.reset.m with tide := 1000, cry := { slots := [(0, { state := 1, epoch := 1, k1 := 1, k2 := 2, k3 := 3 })], tableKey := { state := 1, k1 := 4, k2 := 5, k3 := 6 } } }

/-- Some register fields set: the field, its value, the instance, the index. -/
def sets (m : Mach) (l : List (Field × Nat × Nat × Nat)) : Mach := l.foldl (fun m e => m.wr e.1 e.2.1 e.2.2.1 e.2.2.2) m

/-- The state of a device with no command waiting and nothing fused. -/
def box (m : Mach) : State := { pending := [], fuse := {}, m := m }

/-- The command meets what its statement asks (`met`), completes, and leaves a device with a property. -/
def gives (c : Instr) (m : Mach) (met : Bool) (ok : Mach → Bool) : Bool :=
  met && m.boot.powered && match exec c (box m) with | .next s => ok s.m | _ => false

/-- The bit of an event of a page is set. -/
def tells (m : Mach) (k : PageKind) (i code : Nat) : Bool := m.blkEvt.contains (pageNo ⟨k, i⟩, code)

/-- A device whose port A is up at 64 GT/s x16. -/
def up0 : Mach := sets ({ m0 with memActive := true }.showLink 0 5 16) [(Reg.HostPort.DL_UP, 1, 0, 0), (Reg.Hdr.FSM .hostPort, 2, 0, 0)]

/-- Every Canal is IN_SERVICE. -/
def served (m : Mach) : Mach := sets m ((List.range 16).map fun c => (Reg.Hdr.FSM .canal, 4, c, 0))

/-- The same with its Canals in service, 256 MB at HPA 0 decoded, allotment 0, and tract 0 DIRECT in frame 0. -/
def dir0 : Mach :=
  let up0 := served up0
  let m := up0.modPort 0 fun x => { x with decoders := [(0, ⟨0, 2 ^ 28, 1, 256, false⟩)] }
  m.modSt fun s => { s with tracts := [(0, 1)], home := [(0, {})], frames := [(0, { role := 1 })] }
/-! ### The queue, registers, page controls -/

theorem test_step_takes_front : (match step { box m0 with pending := [.pageLock 1000 5 ⟨.levee, 0⟩, .lockAll 1000 5] } with
    | .next s => s.pending == [.lockAll 1000 5] && s.m.flag (Reg.Hdr.LOCKED .levee) | _ => false) = true := by decide +kernel

theorem test_step_idles : step State.reset = .next State.reset := rfl

theorem test_no_rails_no_effect : (match exec (.lockAll 1000 5) (box { m0 with boot := { m0.boot with powered := false } }) with
    | .next s => s.m.rd Reg.Device.PAGES_LOCKED == 0 && s.m.tide == 1000 | _ => false) = true := by decide +kernel

theorem test_fuses_at_reset : State.reset.fuse.locked = false ∧ State.reset.fuse.secMin = 0 := by decide +kernel

/-- R31: port A's bit cleared, its write is counted and has no effect. -/
theorem test_blocked_write : gives (.pageLock 1000 0 ⟨.levee, 0⟩) (sets m0 [(Reg.Device.PORT_WR, 14, 0, 0)])
    (!(sets m0 [(Reg.Device.PORT_WR, 14, 0, 0)]).mayWrite 0)
    (fun n => n.rd Reg.Device.BLOCKED_WRITES == 1 && !n.flag (Reg.Hdr.LOCKED .levee)) = true := by decide +kernel

theorem test_own_bit_stays : (m0.putRw ⟨.device, 0⟩ 2 Reg.Device.PORT_WR 0 0).rd Reg.Device.PORT_WR = 4 := by decide +kernel

/-- R7: PAGE_ID of Canal 9 reads 0xB00109000E: block type, instance, revision. -/
theorem test_page_id : State.reset.m.rd (Reg.Hdr.BLOCK_TYPE .canal) 9 + State.reset.m.rd (Reg.Hdr.INSTANCE .canal) 9 * 2 ^ 16 = 0x09000E := by
  decide +kernel

/-- R535: a saturating counter stays at all ones. -/
theorem test_counter_stops : ((sets m0 [(Reg.Device.BLOCKED_WRITES, 2 ^ 32 - 1, 0, 0)]).inc Reg.Device.BLOCKED_WRITES).rd
    Reg.Device.BLOCKED_WRITES = 2 ^ 32 - 1 := by decide +kernel

/-- R29: a 32-bit write of the upper half leaves a field of the lower half and merges one of the upper half. -/
theorem test_half_write : (⟨32, 32, 0xFFFFFFFF⟩ : WriteBits).merge Reg.Sluice.FAULT_US 0 5 = 5 ∧
    (⟨32, 32, 0xFFFFFFFF⟩ : WriteBits).merge Reg.Sluice.V_CODE 0 5 = 0x3FFF := by decide +kernel

/-- R29: an access of 2 bytes is counted in BAD_ACCESS and ignored. -/
theorem test_reg_write_bad : gives (.regWrite 1000 5 0x108 2 7) m0 true (fun n => n.rd Reg.Device.BAD_ACCESS == 1) = true := by
  decide +kernel

/-- R27, R30: a TURN field written through REG_WRITE changes STAGE, not ACTIVE, and dirties the page. -/
theorem test_reg_write_staged : gives (.regWrite 1000 5 (pageNo ⟨.weir, 0⟩ * 4096 + Reg.Weir.FREEBOARD.off) 8 0)
    (sets m0 []) ((pageAt (pageNo ⟨.weir, 0⟩ * 4096 + Reg.Weir.FREEBOARD.off)).isSome)
    (fun n => n.rd Reg.Weir.FREEBOARD == 0 && n.act Reg.Weir.FREEBOARD == m0.act Reg.Weir.FREEBOARD &&
      n.flag (Reg.Hdr.STAGE_DIRTY .weir) && n.rd (Reg.Hdr.SRC .weir) == 5) = true := by decide +kernel

/-- R6: an RWL field of a locked page is not taken. -/
theorem test_locked_live_not_taken : (sets m0 [(Reg.Hdr.LOCKED .levee, 1, 0, 0)]).takes ⟨.levee, 0⟩ Reg.Levee.FLIP_EN 1 = false ∧
    m0.takes ⟨.levee, 0⟩ Reg.Levee.FLIP_EN 1 = true := by decide +kernel

theorem test_soft_clear : gives (.softClear 1000 5 ⟨.weir, 0⟩) (sets m0 [(Reg.Weir.FREEBOARD, 1, 0, 0), (Reg.Hdr.STAGE_DIRTY .weir, 1, 0, 0)])
    true (fun n => n.rd Reg.Weir.FREEBOARD == m0.act Reg.Weir.FREEBOARD && n.rd (Reg.Hdr.STAGE_DIRTY .weir) == 0) = true := by decide +kernel

theorem test_soft_clear_pending : gives (.softClear 1000 5 ⟨.weir, 0⟩) (sets m0 [(Reg.Weir.FREEBOARD, 1, 0, 0),
    (Reg.Hdr.COMMIT_PENDING .weir, 1, 0, 0)]) true (fun n => n.rd Reg.Weir.FREEBOARD == 1) = true := by decide +kernel

theorem test_page_lock : gives (.pageLock 1000 5 ⟨.canal, 15⟩) m0 true
    (fun n => n.flag (Reg.Hdr.LOCKED .canal) 15 && n.rd Reg.Device.PAGES_LOCKED == 1) = true := by decide +kernel

theorem test_lock_all : gives (.lockAll 1000 5) m0 true (fun n => allPages.all fun q => n.flag (Reg.Hdr.LOCKED q.kind) q.inst) = true := by
  decide +kernel

theorem test_snap_take : gives (.snapTake 1000 5 ⟨.levee, 0⟩) m0 true (fun n => n.flag (Reg.Hdr.SNAP_PENDING .levee)) = true := by
  decide +kernel

theorem test_device_snap_take : gives (.deviceSnapTake 1000 5) m0 true
    (fun n => n.snapDev && allPages.all fun q => n.flag (Reg.Hdr.SNAP_PENDING q.kind) q.inst) = true := by decide +kernel

theorem test_evt_status_clear : gives (.evtStatusClear 1000 5 ⟨.levee, 0⟩ 5) (sets m0 [(Reg.Hdr.EVT_STATUS .levee, 7, 0, 0)]) true
    (fun n => n.rd (Reg.Hdr.EVT_STATUS .levee) == 2) = true := by decide +kernel

theorem test_page_halt_request : gives (.pageHaltRequest 1000 5 ⟨.furrow, 0⟩ true) m0 (hasHalt .furrow)
    (fun n => n.flag (Reg.Hdr.HALT .furrow) && !n.halted .furrow) = true := by decide +kernel

theorem test_page_halted : gives (.pageHalted 1000 ⟨.furrow, 0⟩) (sets m0 [(Reg.Hdr.HALT .furrow, 1, 0, 0)])
    ((sets m0 [(Reg.Hdr.HALT .furrow, 1, 0, 0)]).idle ⟨.furrow, 0⟩) (fun n => n.halted .furrow && n.fsm .furrow == 3) = true := by
  decide +kernel

theorem test_commit_go : gives (.commitGo 1000 5 ⟨.weir, 0⟩) m0 (!m0.pagePending ⟨.weir, 0⟩)
    (fun n => n.commits.length == 1 && n.rd (Reg.Hdr.CODE .weir) == 1 && n.flag (Reg.Hdr.COMMIT_PENDING .weir)) = true := by decide +kernel

/-- A page whose STAGE is dirty, with its commit latched. -/
def latched (l : List (Field × Nat × Nat × Nat)) (p : PageId) : Mach := (sets m0 l).commitGo p

/-- R36: an unchanged page passes every check, and the commit waits for its boundary. -/
theorem test_commit_validate : gives (.commitValidate 1000) (latched [] ⟨.levee, 0⟩)
    (((latched [] ⟨.levee, 0⟩).commits.map fun c => ((latched [] ⟨.levee, 0⟩).judge c).fails.isNone) == [true])
    (fun n => (n.commits.map fun c => c.passed) == [true]) = true := by decide +kernel

/-- R36, check 4: FREEBOARD outside its range is rejected with REJ_RANGE (5), its ACTIVE value stays. -/
theorem test_commit_rejected : gives (.commitValidate 1000) (latched [(Reg.Weir.FREEBOARD, 0, 0, 0)] ⟨.weir, 0⟩) true
    (fun n => n.commits.isEmpty && n.rd (Reg.Hdr.CODE .weir) == 5 && n.flag (Reg.Hdr.STAGE_DIRTY .weir) &&
      n.act Reg.Weir.FREEBOARD == m0.act Reg.Weir.FREEBOARD) = true := by decide +kernel
/-! ### Host ports and resets -/

theorem test_link_training : gives (.linkTraining 1000 0 0 3 false none) m0 (m0.mayTrain 0 && m0.fsm .hostPort == 0)
    (fun n => n.fsm .hostPort == 1 && n.rd Reg.HostPort.LTSSM == 3) = true := by decide +kernel

/-- R54: the third failure in a row is told with its reason. -/
theorem test_link_training_fails : gives (.linkTraining 1000 0 2 3 false none)
    ((sets m0 [(Reg.Hdr.FSM .hostPort, 1, 0, 0)]).modPort 0 fun x => { x with trainTries := 2 }) true
    (fun n => n.fsm .hostPort == 0 && n.rd Reg.HostPort.TRAIN_FAIL_REASON == 2 && tells n .hostPort 0 0x0414) = true := by decide +kernel

theorem test_link_up : gives (.linkUp 1000 0 5 16 7 false ⟨true, 128, 512, false⟩) (sets m0 [(Reg.Hdr.FSM .hostPort, 1, 0, 0)]) (m0.mayTrain 0)
    (fun n => n.fsm .hostPort == 2 && n.flag Reg.HostPort.DL_UP && n.rd Reg.HostPort.RATE == 5 && n.rd Reg.HostPort.WIDTH == 16 &&
      n.rd Reg.HostPort.ING_NS == 28 && tells n .hostPort 0 0x0410) = true := by decide +kernel

/-- R58: 16 GT/s x8 has ingress 70 ns, egress of data 116 ns, adder 106 ns, 14,175 MB/s. -/
theorem test_link_rate_change : gives (.linkRateChange 1000 0 3 8) up0 (up0.flag Reg.HostPort.DL_UP)
    (fun n => n.rd Reg.HostPort.ING_NS == 70 && n.rd Reg.HostPort.EGR_DATA_NS == 116 && n.rd Reg.HostPort.RATE_ADDER_NS == 106 &&
      n.rd Reg.HostPort.PAYLOAD_MBPS == 14175 && tells n .hostPort 0 0x0412) = true := by decide +kernel

/-- R57: 2.5 GT/s x1 at port D, the largest latencies: 370 + 64 × 15 = 1,330. -/
theorem test_latency_slowest : let n := m0.showLink 3 0 1
    n.rd Reg.HostPort.ING_NS 3 = 1330 ∧ n.rd Reg.HostPort.EGR_DATA_NS 3 = 1620 ∧ n.rd Reg.HostPort.EGR_NDR_NS 3 = 1450 ∧
    n.rd Reg.HostPort.PAYLOAD_MBPS 3 = 225 ∧ n.rd Reg.HostPort.RATE_ADDER_NS 3 = 2870 := by decide +kernel

theorem test_latency_fastest : (m0.showLink 0 6 16).rd Reg.HostPort.PAYLOAD_MBPS = 230400 ∧ (m0.showLink 0 6 16).rd Reg.HostPort.ING_NS = 24 := by
  decide +kernel

theorem test_link_retrain : gives (.linkRetrain 1000 5 0 4 16 false none) up0 true
    (fun n => n.rd Reg.HostPort.RATE == 4 && n.rd Reg.HostPort.ING_NS == 40) = true := by decide +kernel

theorem test_link_retrain_down : gives (.linkRetrain 1000 5 0 4 16 false none) (m0.modPort 0 fun x => { x with holdQuiet := true }) true
    (fun n => !(n.port 0).holdQuiet) = true := by decide +kernel

theorem test_eq128_retry : gives (.eq128Retry 1000 5 0) (sets m0 [(Reg.HostPort.EQ128_FAILED, 1, 0, 0)]) true
    (fun n => !n.flag Reg.HostPort.EQ128_FAILED) = true := by decide +kernel

theorem test_ide_integrity_failure : gives (.ideIntegrityFailure 1000 0 false 3) (sets up0 [(Reg.HostPort.IDE_IO, 1, 0, 0)]) true
    (fun n => n.flag Reg.HostPort.IDE_INSECURE && n.fsm .hostPort == 6 && tells n .hostPort 0 0x0415 &&
      (n.rd Reg.Crypto.ALARM_CAUSE).testBit 1) = true := by decide +kernel

/-- R63: a decoder of 256 MB at 0 is committed; one whose size is not a multiple of 256 MB is not. -/
theorem test_decoder_commit : gives (.decoderCommit 1000 0 0 0 (2 ^ 28) 1 256 false) up0 true
    (fun n => (n.rd Reg.HostPort.DEC_COMMITTED).testBit 0 && (Tbl.find (n.port 0).decoders 0).isSome) = true := by decide +kernel

theorem test_decoder_refused : gives (.decoderCommit 1000 0 15 0 (2 ^ 27) 1 256 false) up0 true
    (fun n => (n.rd Reg.HostPort.DEC_ERR).testBit 15 && tells n .hostPort 0 0x0419) = true := by decide +kernel

theorem test_decoder_uncommit : gives (.decoderUncommit 1000 0 0) (up0.modPort 0 fun x => { x with decoders := [(0, ⟨0, 2 ^ 28, 1, 256, false⟩)] })
    true (fun n => (n.port 0).decoders.isEmpty) = true := by decide +kernel

theorem test_link_drop : gives (.linkDrop 1000 0) up0 true (fun n => !n.flag Reg.HostPort.DL_UP && n.fsm .hostPort == 7) = true := by
  decide +kernel

theorem test_tags_freed : gives (.tagsFreedAfterDrop 1000 0) ((sets m0 [(Reg.Hdr.FSM .hostPort, 7, 0, 0)]).modPort 0 fun x =>
    { x with draining := true }) true (fun n => tells n .hostPort 0 0x041B && n.fsm .hostPort != 7) = true := by decide +kernel

theorem test_port_disable : gives (.portDisable 1000 5 0) up0 true (fun n => (n.port 0).holdQuiet && n.rd Reg.HostPort.LTSSM == 0) = true := by
  decide +kernel

theorem test_flr : gives (.flr 1000 0) up0 true (fun n => tells n .hostPort 0 0x0416 && n.rd Reg.HostPort.LAST_RESET == 1) = true := by
  decide +kernel

theorem test_flr_complete : gives (.flrComplete 1000 0 ⟨true, 128, 512, false⟩) (up0.modPort 0 fun x => { x with flrSince := some 500 }) true
    (fun n => n.rd Reg.HostPort.FLR_COUNT == 1 && (n.port 0).flrSince.isNone) = true := by decide +kernel

theorem test_hot_reset : gives (.hotReset 1000 0) up0 true (fun n => n.fsm .hostPort == 0 || n.fsm .hostPort == 7) = true := by
  decide +kernel

theorem test_port_perst : gives (.portPerst 1000 0 true) up0 (!(up0.port 0).perst)
    (fun n => (n.port 0).perst && (n.port 0).perstSince == 1000 && tells n .hostPort 0 0x0418) = true := by decide +kernel

theorem test_port_perst_released : gives (.portPerst 1000 0 false) (m0.modPort 0 fun x => { x with perst := true }) true
    (fun n => !(n.port 0).perst) = true := by decide +kernel

theorem test_msix_unmask : gives (.msixUnmask 1000 0 132) (up0.modPort 0 fun x => { x with vecPend := [132] }) true
    (fun n => n.out == [.msix 0 132] && (n.port 0).vecPend.isEmpty && (n.port 0).vecOpen == [132]) = true := by decide +kernel

theorem test_bus_master_enable_cleared : gives (.busMasterEnableCleared 1000 0) (up0.modPort 0 fun x => { x with bme := true }) true
    (fun n => !(n.port 0).bme) = true := by decide +kernel

/-- R82: the vote of one port that is a voter; R506: the tide stays, RESET_CAUSE 2, BOOT_STAGE 1, `MB_RESULT` ABORTED. -/
def voted : Mach := { (sets m0 [(Reg.HostPort.DEV_RESET_VOTER, 0, 1, 0), (Reg.HostPort.DEV_RESET_VOTER, 0, 2, 0), (Reg.HostPort.DEV_RESET_VOTER, 0, 3, 0)]).modPort 0 fun x => { x with perst := true, perstSince := 0 } with
  tide := 200000, boot := { m0.boot with mb := some ⟨1, 5, 0, 0, 0⟩ } }

theorem test_device_fundamental_reset : gives (.deviceFundamentalReset 200000) voted (voted.voteHolds && !voted.boot.voteDone)
    (fun n => n.tide == 200000 && n.rd Reg.Mailbox.RESET_CAUSE == 2 && n.rd Reg.Mailbox.BOOT_STAGE == 1 && n.rd Reg.Mailbox.MB_RESULT == 7 &&
      n.boot.voteDone) = true := by decide +kernel

theorem test_device_reset_due : gives (.deviceFundamentalReset 1000) { m0 with boot := { m0.boot with resetDue := some 3 } } true
    (fun n => n.rd Reg.Mailbox.RESET_CAUSE == 3) = true := by decide +kernel

/-! ### Clocks, turns, what a host function reads -/

/-- Every domain is powered and every PLL locked, so every island runs. -/
def runs (m : Mach) : Mach := sets m [(Reg.Power.DOMAIN_ON, 2 ^ 14 - 1, 0, 0), (Reg.Clock.CORE_LOCK, 1, 0, 0), (Reg.Clock.DDR_LOCK, 1, 0, 0),
  (Reg.Clock.CULVERT_LOCK, 1, 0, 0), (Reg.Clock.CISTERN_LOCK, 1, 0, 0), (Reg.Clock.MGMT_LOCK, 1, 0, 0), (Reg.Clock.XTAL_OK, 1, 0, 0)]

/-- R505: island 8 is of no host port and not device-fatal. -/
theorem test_island_clock_loss : gives (.islandClockLoss 1000 8 false) (runs m0)
    ((runs m0).islandRuns 8)
    (fun n => (n.rd Reg.Clock.ISLAND_LOST).testBit 8 && !n.islandRuns 8 && n.islandRuns 9 && n.clk.lost == 2 ^ 8 &&
      tells n .clock 0 0x4C10) = true := by decide +kernel

/-- R505: the loss of the Weir's island takes every link down, until the device fundamental reset at its return. -/
theorem test_island_clock_loss_fatal : gives (.islandClockLoss 1000 4 false) (runs up0) (fatalIsland 4)
    (fun n => n.clk.holdDown && !n.flag Reg.HostPort.DL_UP) = true := by decide +kernel

/-- R13: a PLL that loses lock stops every island that runs from it, here 29 to 36 from the Culvert PLL. -/
theorem test_pll_loss : gives (.islandClockLoss 1000 29 true) (runs m0) ((runs m0).islandRuns 36)
    (fun n => n.rd (pllOf 29) == 0 && (List.range 40).all fun k => n.islandRuns k == (k < 29 || 36 < k)) = true := by decide +kernel

theorem test_island_not_running : gives (.islandClockLoss 1000 8 false) m0 (!m0.islandRuns 8) (fun n => n.clk.lost == 0) = true := by decide +kernel

theorem test_island_clock_return : gives (.islandClockReturn 1000 8) { runs m0 with clk := { m0.clk with lost := 2 ^ 8 } }
    (!(runs m0).clk.holdDown && (runs m0).islandPowered 8)
    (fun n => n.clk.lost == 0 && n.rd (pllOf 8) == 1 && n.islandRuns 8) = true := by decide +kernel

theorem test_island_clock_return_fatal : gives (.islandClockReturn 1000 4) { m0 with clk := { m0.clk with lost := 2 ^ 4 + 2 ^ 8, holdDown := true } }
    ((List.range 40).all fun k => k == 4 || !(fatalIsland k && (2 ^ 4 + 2 ^ 8).testBit k))
    (fun n => n.rd Reg.Mailbox.RESET_CAUSE == 4 && n.rd (pllOf 4) == 1) = true := by decide +kernel

/-- Turns run; the next boundary is at 900. -/
def turning : Mach := { m0 with clk := { m0.clk with running := true, nextTurn := 900 } }

theorem test_turn_boundary : gives (.turnBoundary 1000) turning (turning.clk.running && turning.clk.nextTurn ≤ 1000)
    (fun n => n.rd Reg.Clock.TURN_INDEX == 1 && n.rd Reg.Clock.TURN_START == 900 && n.clk.nextTurn == 900 + m0.act Reg.Weir.TURN_LEN * 250 &&
      n.clk.beaconLeft == List.range 40) = true := by decide +kernel

theorem test_beacon_first_arrival : gives (.beaconArrival 1000 39 40 []) { turning with clk := { turning.clk with beaconLeft := List.range 40 } } true
    (fun n => n.clk.beaconLeft == List.range 39 && n.clk.firstAt == 40 && n.clk.lastAt == 40 && n.clk.lastIsland == 39) = true := by decide +kernel

theorem test_beacon_again : gives (.beaconArrival 1000 5 40 []) { turning with clk := { turning.clk with beaconLeft := [6] } } true
    (fun n => n.clk.beaconLeft == [6]) = true := by decide +kernel

/-- R162, R163: what is left of the shares goes to the common remainder at the half-turn point. -/
theorem test_half_turn_point : gives (.halfTurnPoint 1000)
    { sets m0 [(Reg.Weir.BE_SHARE_LEFT, 10, 0, 0), (Reg.Weir.BE_SHARE_LEFT, 5, 0, 3), (Reg.Weir.BE_LEFT, 7, 0, 0), (Reg.Weir.FB_LEFT, 4, 0, 4)] with
      weir := { m0.weir with halfDone := false, fbOpen := 1 } } true
    (fun n => n.rd Reg.Weir.BE_LEFT == 22 && n.rd Reg.Weir.BE_SHARE_LEFT 0 3 == 0 && n.rd Reg.Weir.FB_LEFT 0 4 == 0 && n.weir.fbOpen == 5 &&
      n.weir.halfDone) = true := by decide +kernel

theorem test_half_turn_point_again : gives (.halfTurnPoint 1000) (sets m0 [(Reg.Weir.BE_SHARE_LEFT, 10, 0, 0)]) m0.weir.halfDone
    (fun n => n.rd Reg.Weir.BE_SHARE_LEFT == 10) = true := by decide +kernel

/-- R136: a port at Call 1 below `CALL_KEEP` 2 gives up its floors. -/
theorem test_floor_hold_point :
    let m := (sets turning [(Reg.Headgate.CALL_USED, 1, 2, 0), (Reg.Headgate.CALL_KEEP.act, 2, 2, 0), (poolField false, 5, 15, 0)]).modPort 2
      fun x => { x with floorRd := [(15, 8)], floorWr := [(0, 3)] }
    gives (.floorHoldPoint 1000 2) m (m.clk.running && !m.weir.holdDone.contains 2 && m.call 2 < m.act Reg.Headgate.CALL_KEEP 2)
      (fun n => (n.port 2).floor false 15 == 0 && (n.port 2).floor true 0 == 0 && n.rd (poolField false) 15 == 13 && n.rd (poolField true) 0 == 3) = true := by
  decide +kernel

/-- The answers a command sent. -/
def said (n : Mach) : List OutMsg := n.out.filter fun o => match o with | .mailbox _ _ _ _ => true | .doe _ _ _ => true | .mctp _ => true | _ => false

theorem test_identify : gives (.identifyMemoryDevice 1000 0) up0 (up0.functionUp 0)
    (fun n => said n == [.mailbox 0 0x4000 0 [4 * up0.rd Reg.TractTable.SPAN_GB, 4 * up0.rd Reg.TractTable.SPAN_GB, 0, 0, 256]]) = true := by decide +kernel

theorem test_get_supported_logs : gives (.getSupportedLogs 1000 0) up0 (up0.functionUp 0) (fun n => said n == [.mailbox 0 0x0400 0 [1]]) = true := by
  decide +kernel

theorem test_get_log : gives (.getLog 1000 0 true) up0 (up0.functionUp 0) (fun n => said n == [.mailbox 0 0x0401 0 mailboxOps]) = true := by decide +kernel

theorem test_get_log_other : gives (.getLog 1000 0 false) up0 (up0.functionUp 0) (fun n => said n == [.mailbox 0 0x0401 retInvalidLog []]) = true := by
  decide +kernel

theorem test_get_health_info : gives (.getHealthInfo 1000 0) up0 (up0.functionUp 0) (fun n => (said n).length == 1 && n.free == up0.free + 1) = true := by
  decide +kernel

/-- An event of the port's own log. -/
def logged : Mach := up0.modPort 0 fun x => { x with evtLog := [⟨0x0410, 0, 5, 16, 0, 10⟩, ⟨0x0411, 0, 0, 0, 0, 20⟩] }

theorem test_get_event_records : gives (.getEventRecords 1000 0) logged (logged.functionUp 0) (fun n => (said n).length == 1) = true := by decide +kernel

theorem test_clear_event_records : gives (.clearEventRecords 1000 0 1) logged (logged.functionUp 0) (fun n => (n.port 0).evtLog.map (·.code) == [0x0411]) = true := by
  decide +kernel

theorem test_get_poison_list : gives (.getPoisonList 1000 0) { up0 with lev := { up0.lev with prec := [⟨3, 1, 10⟩] } } (up0.functionUp 0)
    (fun n => said n == [.mailbox 0 0x4300 0 [192, 1]]) = true := by decide +kernel

theorem test_get_fw_info : gives (.getFwInfo 1000 0) up0 (up0.functionUp 0) (fun n => said n == [.mailbox 0 0x0200 0 [2, 0, 0, 0]]) = true := by decide +kernel

theorem test_set_timestamp : gives (.setTimestamp 1000 0 0xFFFFFFFFFFFFFFFF) up0 (up0.functionUp 0) (fun n => n.timestamp 0 == 2 ^ 64 - 1) = true := by
  decide +kernel

theorem test_get_timestamp : gives (.getTimestamp 1000 0) (up0.modPort 0 fun x => { x with timestamp := some (70, 400) }) (up0.functionUp 0)
    (fun n => said n == [.mailbox 0 0x0300 0 [670]]) = true := by decide +kernel

theorem test_mailbox_unsupported : gives (.mailboxUnsupported 1000 0 0xFFFF) up0 (up0.functionUp 0 && !mailboxOps.contains 0xFFFF)
    (fun n => said n == [.mailbox 0 0xFFFF retUnsupported []]) = true := by decide +kernel

theorem test_doe_discovery : gives (.doeDiscovery 1000 0 3 true) up0 (up0.functionUp 0 && (up0.port 0).doeBusy.isNone)
    (fun n => said n == [.doe 0 0 [0x1E98, 2, 0]] && (n.port 0).doeReady) = true := by decide +kernel

theorem test_doe_discovery_waits : gives (.doeDiscovery 1000 0 0 false) up0 (up0.functionUp 0)
    (fun n => said n == [] && (n.port 0).doeBusy == some .discovery && !(n.port 0).doeReady) = true := by decide +kernel

theorem test_doe_cma : gives (.doeCmaSpdm 1000 0 4096 true) up0 (up0.functionUp 0 && up0.mgmtUp) (fun n => (said n).length == 1) = true := by decide +kernel

theorem test_doe_secured : gives (.doeSecuredSpdm 1000 0 0 true) up0 (up0.functionUp 0 && up0.mgmtUp) (fun n => (said n).length == 1) = true := by
  decide +kernel

theorem test_cdat : gives (.cdatTableAccess 1000 0 true) up0 (up0.functionUp 0) (fun n => (said n).length == 1 && (n.port 0).doeReady) = true := by
  decide +kernel

theorem test_doe_abort : gives (.doeAbort 1000 0) (up0.modPort 0 fun x => { x with doeBusy := some .cdat, doeReady := true }) (up0.functionUp 0)
    (fun n => (n.port 0).doeBusy.isNone && !(n.port 0).doeReady) = true := by decide +kernel

theorem test_mctp_spdm : gives (.mctpSpdmRequest 1000) m0 m0.mgmtUp (fun n => (said n).length == 1) = true := by decide +kernel


/-- R162: before the half-turn point nothing is given back. -/
theorem test_half_turn_early : gives (.halfTurnPoint 1000)
    { sets turning [(Reg.Weir.BE_SHARE_LEFT, 10, 0, 0), (Reg.Clock.TURN_START, 900, 0, 0)] with weir := { m0.weir with halfDone := false } }
    (!(sets turning [(Reg.Clock.TURN_START, 900, 0, 0)]).pastPoint 8)
    (fun n => n.rd Reg.Weir.BE_SHARE_LEFT == 10 && !n.weir.halfDone) = true := by decide +kernel

/-- R136: a port at Call `CALL_KEEP` keeps its floors, and one whose point lies ahead is not asked. -/
theorem test_floor_kept :
    let m := (sets turning [(Reg.Headgate.CALL_USED, 2, 2, 0), (Reg.Headgate.CALL_KEEP.act, 2, 2, 0)]).modPort 2 fun x => { x with floorRd := [(15, 8)] }
    gives (.floorHoldPoint 1000 2) m (m.act Reg.Headgate.CALL_KEEP 2 ≤ m.call 2) (fun n => (n.port 2).floor false 15 == 8 && n.weir.holdDone == [2]) = true := by decide +kernel

theorem test_floor_hold_early :
    let m := (sets turning [(Reg.Clock.TURN_START, 900, 0, 0), (Reg.Headgate.CALL_KEEP.act, 2, 2, 0)]).modPort 2 fun x => { x with floorRd := [(15, 8)] }
    gives (.floorHoldPoint 1000 2) m (!m.pastPoint (m.act Reg.Headgate.FLOOR_HOLD 2)) (fun n => (n.port 2).floor false 15 == 8 && n.weir.holdDone == []) = true := by decide +kernel

/-- R38: an island but the last takes its part and posts no result. -/
theorem test_beacon_last : gives (.beaconArrival 1000 5 40 []) { turning with clk := { turning.clk with beaconLeft := [5] } } true
    (fun n => n.clk.beaconLeft == [] && n.clk.lastIsland == 5) = true := by decide +kernel

/-! ### Requests, release, data, responses -/

theorem test_ddt_rebuild : gives (.ddtRebuild 1000 true) up0 (up0.boot.ddt == [])
    (fun n => n.ddtGen == 2 && n.boot.ddt.length == (up0.ddtWith 0 0 0).length && n.boot.ddt.take 4 == [0x44, 0x4B, 0x44, 0x54]) = true := by decide +kernel

theorem test_ddt_rebuild_begins : gives (.ddtRebuild 1000 false) up0 true (fun n => n.ddtGen == 1) = true := by decide +kernel

theorem test_memrd : gives (.cxlMemrd 1000 0 7 (2 ^ 28 - 64) false 0) dir0 (dir0.takesReq 0 && dir0.newTag 0 == some 0)
    (fun n => (n.tag? 0 0).map (fun x => (x.line, x.hostTag, x.op, x.arrived)) == some (2 ^ 22 - 1, 7, .memRd, 1000) && n.queueOf 0 0 == [0]) = true := by
  decide +kernel

/-- R64: an HPA past the decoder's end is answered at once, all ones and poisoned. -/
theorem test_memrd_unmapped : gives (.cxlMemrd 1000 0 7 (2 ^ 28) true 0) dir0 (dir0.takesReq 0)
    (fun n => (n.tag? 0 0).map (fun x => x.resp) == some (some (.memData (BitVec.allOnes 512) true 0)) && tells n .hostPort 0 0x0419 &&
      n.rd Reg.HostPort.UNMAPPED_REQ == 1 && n.rd Reg.HostPort.LAST_UNMAPPED_HPA == 2 ^ 28) = true := by decide +kernel

theorem test_memwr : gives (.cxlMemwr 1000 0 1 64 5 false false) dir0 (dir0.takesReq 0)
    (fun n => (n.tag? 0 0).map (fun x => (x.line, x.data, x.be)) == some (1, 5, BitVec.allOnes 64)) = true := by decide +kernel

theorem test_memwrptl : gives (.cxlMemwrptl 1000 0 1 64 5 3 false false) dir0 (dir0.takesReq 0)
    (fun n => (n.tag? 0 0).map (fun x => (x.op, x.be)) == some (.memWrPtl, 3)) = true := by decide +kernel

theorem test_meminv : gives (.cxlMeminv 1000 0 1 0 true) dir0 (dir0.takesReq 0) (fun n => (n.tag? 0 0).map (fun x => x.op) == some .memInvNT) = true := by
  decide +kernel

theorem test_memclnevct_unmapped : gives (.cxlMemclnevct 1000 0 1 (2 ^ 30)) dir0 (dir0.takesReq 0)
    (fun n => (n.tag? 0 0).map (fun x => x.resp) == some (some .cmp)) = true := by decide +kernel

/-- The fourth tag of a port with tags 0, 1 and 3 in use is 2. -/
theorem test_lowest_tag : (dir0.modPort 0 fun x => { x with tags := [(0, {}), (1, {}), (3, {})] }).newTag 0 = some 2 := by decide +kernel

/-- Tract 0 MANAGED, plot 0 in the raw tier, the Siphon enabled. -/
def man0 : Mach := (dir0.modSt fun s => { s with tracts := [(0, 2)], home := [(0, { frame := 1 })], frames := [(0, { role := 3 }), (1, { role := 2 })]
                                                 plotFrames := [(0, 0)], plots := [(0, { tier := 1 })], tc := [0] }).wr (Reg.Hdr.ENABLE .siphon) 1

theorem test_memspecrd : gives (.cxlMemspecrd 1000 0 0 true) man0 (man0.takesReq 0 && man0.enabled .siphon && tMode (man0.entryOf 0) == 2)
    (fun n => n.sip.auto == [(0, 1, 0)]) = true := by decide +kernel

theorem test_memspecrd_ignored : gives (.cxlMemspecrd 1000 0 0 false) man0 (man0.takesReq 0) (fun n => n.sip.auto.isEmpty) = true := by decide +kernel

theorem test_biconflict : gives (.cxlBiconflict 1000 0 9 0) dir0 (dir0.takesReq 0 && (dir0.decode 0 0).isSome)
    (fun n => n.out == [.biConflictAck 0 9] && n.rd Reg.HostPort.REQ_ACCEPTED == 1) = true := by decide +kernel

/-- A proxy snoop of port 0 is answered: its answer goes to the home. -/
theorem test_birsp_proxy :
    let m := { dir0 with shared := { dir0.shared with proxy := [{ line := 5, port := 0, region := 0, xid := 3, inv := true, src := 9, hline := 77 }] } }
    gives (.birspReceived 1000 0 5 false) m (m.shared.proxy.any fun x => x.line = 5 && x.port = 0 && x.sent)
      (fun n => n.shared.proxy.isEmpty || (n.turn.tx.length != 0)) = true := by decide +kernel

/-- A read of line 2 of a guaranteed allotment 0 waits at the head of its queue with a floor of 5 lines. -/
def queued : Mach := (sets (dir0.setTag 0 0 { op := .memRd, allot := 0, line := 2, hpa := 128, arrived := 900 })
  [(Reg.Allotment.GUARANTEED.act, 1, 0, 0)]).modPort 0 fun x => { x with queues := [(0, [0])], floorRd := [(0, 5)] }

theorem test_headgate_release : gives (.headgateRelease 1000 0) queued (queued.pick 0 == some (0, { op := .memRd, line := 2, hpa := 128, arrived := 900 }, .floor))
    (fun n => n.queueOf 0 0 == [] && (n.port 0).floor false 0 == 4 && (n.tag? 0 0).map (fun x => (x.st, x.guar, x.accept)) == some (.accepted, true, 972) &&
      n.rd Reg.HostPort.REQ_ACCEPTED == 1) = true := by decide +kernel

/-- R137, R162: a best-effort head goes only where no guaranteed head can: allotment 1 is best effort. -/
theorem test_headgate_order :
    let m := (queued.setTag 0 1 { op := .memRd, allot := 1, line := 3 }).modPort 0 fun x => { x with queues := [(0, [0]), (1, [1])], floorRd := [] }
    m.pick 0 = (if m.beOpen 0 then some (1, { op := .memRd, allot := 1, line := 3 }, .be) else none) := by decide +kernel

theorem test_headgate_release_none : gives (.headgateRelease 1000 0) dir0 ((dir0.pick 0).isNone) (fun n => n.queueOf 0 0 == [] && n.regs == dir0.regs) = true := by decide +kernel

theorem test_pool_grant :
    let m := sets m0 [(poolField true, 5, 3, 0), (Reg.Headgate.CALL_USED, 3, 2, 0), (Reg.Headgate.CALL_USED, 1, 0, 0)]
    gives (.poolGrant 1000 [0, 2] 3 true 8) m (m.poolWinner [0, 2] 7 == some 2)
      (fun n => n.rd (poolField true) 3 == 0 && (n.port 2).granted true 3 == 5) = true := by decide +kernel

theorem test_pool_grant_eight : gives (.poolGrant 1000 [1] 15 false 8) (sets m0 [(poolField false, 100, 15, 0)]) true
    (fun n => n.rd (poolField false) 15 == 92 && (n.port 1).granted false 15 == 8) = true := by decide +kernel

theorem test_pool_denied : gives (.poolGrant 1000 [1] 0 false 8) m0 (m0.rd (poolField false) 0 == 0) (fun n => n.rd Reg.Headgate.POOL_DENIALS 1 == 1) = true := by
  decide +kernel

theorem test_call_level : gives (.callLevelChange 1000 3 2) m0 true (fun n => n.rd Reg.Headgate.CALL_PIN 3 == 2 && (n.port 3).callPin == 2) = true := by
  decide +kernel

/-- R103: the two words of the example's entry. -/
theorem test_late_words : lateW0 0x48D15A 3 1 0x0A21 = 0x0A2193000048D15A ∧ lateW1 1000000000 4 2 false = 0x000000243B9ACA00 := by decide +kernel

theorem test_late_read : gives (.lateW0Read 1000 0) (up0.modPort 0 fun x => { x with late := [⟨0x0A2193000048D15A, 0x243B9ACA00⟩] }) true
    (fun n => n.rd Reg.Headgate.LATE_W0 == 0x0A2193000048D15A && n.rd Reg.Headgate.LATE_W1 == 0x243B9ACA00 && (n.port 0).late.length == 1) = true := by
  decide +kernel

theorem test_late_read_empty : gives (.lateW0Read 1000 0) (sets up0 [(Reg.Headgate.LATE_W0, 5, 0, 0)]) true (fun n => n.rd Reg.Headgate.LATE_W0 == 0) = true := by
  decide +kernel

theorem test_late_pop : gives (.latePop 1000 5 0) (up0.modPort 0 fun x => { x with late := [⟨1, 2⟩, ⟨3, 4⟩] }) true (fun n => (n.port 0).late == [⟨3, 4⟩]) = true := by
  decide +kernel

/-- An accepted read of line 2, its deadline 5000. -/
def reading : Mach := dir0.setTag 0 0 { st := .accepted, op := .memRd, line := 2, deadline := 5000, hostTag := 9, order := 1 }

/-- A line that was never written reads as zeros. -/
theorem test_read_blank : gives (.readDataReturn 1000 0 0 [] false 0 0) reading
    (reading.readWaits 0 0 { st := .accepted, op := .memRd, line := 2, deadline := 5000, hostTag := 9, order := 1 } && reading.translated 2 &&
      !reading.inLzRow 2 && !reading.rsRemote 2)
    (fun n => (n.tag? 0 0).map (fun x => (x.st, x.resp)) == some (.responding, some (.memData 0 false 0))) = true := by decide +kernel

/-- R105: a read sees the write that the merge buffer holds. -/
def merged : Mach := reading.setMerge 0 { st := .held, line := 2, logs := [⟨0, 77, BitVec.allOnes 64, false⟩] }

theorem test_read_merged : gives (.readDataReturn 1000 0 0 [] false 0 0) merged ((merged.mergedVal 2 1 none).isSome)
    (fun n => (n.tag? 0 0).map (fun x => x.resp) == some (some (.memData 77 false 0))) = true := by decide +kernel

/-- A correctable error is corrected; one that reads as another line begins the recovery chain. -/
theorem test_read_recovers : gives (.readDataReturn 1000 0 0 [BitVec.allOnes 640] false 0 0) (reading.modSt fun s => { s with dram := [(2, { lc := 1, flg := 0 })] })
    true (fun n => n.lev.chains.length == 1 && (n.tag? 0 0).map (fun x => x.st) == some .accepted) = true := by decide +kernel

/-- R19, R20, R98: at its egress limit, 5000 - 52, the read is abandoned: poisoned, and Late. -/
theorem test_read_egress_limit : gives (.readEgressLimit 4948 0 0) reading (reading.egressLimit 0 { deadline := 5000 } == 4948)
    (fun n => (n.tag? 0 0).map (fun x => (x.st, x.resp)) == some (.responding, some (.memData 0 true 0)) && n.rd Reg.Allotment.LATE_COUNT == 1 &&
      (n.port 0).late.length == 1) = true := by decide +kernel

theorem test_read_egress_limit_early : gives (.readEgressLimit 4947 0 0) reading true (fun n => (n.tag? 0 0).map (fun x => x.st) == some .accepted) = true := by
  decide +kernel

theorem test_response_sent : gives (.responseSent 1000 0 4095) (up0.setTag 0 4095 { st := .responding, resp := some .cmp, hostTag := 9 }) true
    (fun n => (n.tag? 0 4095).isNone && n.out == [.resp 0 9 .cmp] && n.rd Reg.HostPort.RESP_SENT == 1) = true := by decide +kernel

/-- R64, R90: a conflict at an address that no decoder matches is acknowledged and counted as unmapped. -/
theorem test_biconflict_unmapped : gives (.cxlBiconflict 1000 0 9 (2 ^ 28)) dir0 (dir0.takesReq 0 && (dir0.decode 0 (2 ^ 28)).isNone)
    (fun n => n.out.getLast? == some (.biConflictAck 0 9) && n.rd Reg.HostPort.UNMAPPED_REQ == 1 && tells n .hostPort 0 0x0419) = true := by decide +kernel

/-- R237: a check that fails at egress answers the read poisoned; one that fails before it sends the read to its recovery. -/
theorem test_read_fails_egress : gives (.readDataReturn 1000 0 0 [] false 0 7) reading true
    (fun n => (n.tag? 0 0).map (fun x => x.resp) == some (some poisonData) && n.rd Reg.Levee.INTERNAL_FAILS == 1) = true := by decide +kernel

theorem test_read_fails_inside : gives (.readDataReturn 1000 0 0 [] false 0 4) reading true
    (fun n => n.rd Reg.Levee.INTERNAL_FAILS == 1 && n.lev.chains.length == 1) = true := by decide +kernel

/-! ### The merge buffer and the Data Mover -/

/-- An accepted full write of line 2 with its reserved entry. -/
def writing : Mach :=
  (dir0.setTag 0 0 { st := .accepted, op := .memWr, line := 2, order := 1, data := 77, be := BitVec.allOnes 64 }).setMerge 0 { st := .reserved, line := 2, order := 1 }

theorem test_write_local_commit : gives (.writeLocalCommit 1000 0 0 0) writing (!writing.mirrored 2)
    (fun n => (n.merge? 0).map (fun y => (y.st, y.logs.length)) == some (.held, 1) &&
      (n.tag? 0 0).map (fun x => (x.st, x.resp)) == some (.responding, some .cmp)) = true := by decide +kernel

/-- R236, R237: a check that fails at host ingress poisons the line. -/
theorem test_write_fails_check : gives (.writeLocalCommit 1000 0 0 1) writing true
    (fun n => (n.merge? 0).map (fun y => y.logs.map fun l => l.poison) == some [true] && n.rd Reg.Levee.INTERNAL_FAILS == 1) = true := by decide +kernel

theorem test_merge_drain :
    gives (.mergeDrain 1000 [0] []) merged (merged.mayDrain { st := .held, line := 2, logs := [⟨0, 77, BitVec.allOnes 64, false⟩] } [] && merged.place 2 == .dram 2)
      (fun n => (n.merge? 0).map (fun y => y.st) == some .drain && (n.image 2).ver == 1 && (n.image 2).flg % 2 == 0) = true := by decide +kernel

/-- A drained line, sealed under its tract's key, reads back as it was written. -/
theorem test_drain_reads_back : (match exec (.mergeDrain 1000 [0] []) (box merged) with
    | .next s => (s.m.tryRead 2 [] false).2 == .ok (freshVal 2 77 false) | _ => false) = true := by decide +kernel

theorem test_drain_complete : gives (.drainComplete 1000 [4095] [] []) (dir0.setMerge 4095 { st := .drain, line := 2 }) true
    (fun n => (n.merge? 4095).isNone && n.fsm .levee == 0) = true := by decide +kernel

/-- R251: the old line of a partial write of bytes 0 and 1. -/
def fetching : Mach := dir0.setMerge 0 { st := .fetch, line := 2, logs := [⟨1, 0xFFFFFF, 3, false⟩] }

theorem test_partial_fetch : gives (.partialFetchComplete 1000 0 [] false) fetching (fetching.lev.chains.isEmpty && fetching.translated 2 && !fetching.rsRemote 2)
    (fun n => (n.merge? 0).map (fun y => (y.st, y.value.data)) == some (.held, 0xFFFF)) = true := by decide +kernel

theorem test_internal_op_start : gives (.internalOpStart 1000 0 5 0) m0 ((m0.track 0 5 0).isSome) (fun n => n.mover.tracks.length == 1) = true := by
  decide +kernel

/-- R94: 512 entries of the Furrow's own and 3,072 shared ones in use. -/
theorem test_internal_op_waits :
    let m := { m0 with mover := { m0.mover with tracks := (List.range 3584).map fun n => (n, ⟨1, 5, 0, n < 3072, false⟩) } }
    gives (.internalOpStart 1000 1 5 0) m ((m.trackRoom 1).isNone) (fun n => n.rd Reg.DataMover.TRACK_WAITS == 1) = true := by decide +kernel

theorem test_internal_step_deadline : gives (.internalStepDeadline 1000 1) { m0 with mover := { m0.mover with tracks := [(1, ⟨2, 5, 1000, false, false⟩)] } } true
    (fun n => n.mover.tracks == [] && n.rd Reg.DataMover.LATE_STEPS 0 2 == 1) = true := by decide +kernel

/-- The Data Mover enabled, host memory of port 0 at hand, and a job in slot 63. -/
def moving (j : Job) : Mach := { (sets dir0 [(Reg.Hdr.ENABLE .dataMover, 1, 0, 0)]).modPort 0 fun x => { x with bme := true } with
  mover := { m0.mover with jobs := [(63, j)] } }

def job0 : Job := { dpa := 2, hpa := 0x1000, len := 1, statusEn := true, statusHpa := 0x2000, dir := 0, port := 0, allot := 0, intr := false, tag := 7, state := 2 }

theorem test_job_next_line : gives (.internalOpStart 1000 4 0 63) (moving job0) true
    (fun n => n.out == [.hostRead 0 0x1000 1] && (Tbl.find n.mover.jobs 63).map (fun b => b.readOut) == some (some 1000)) = true := by decide +kernel

theorem test_job_submit : gives (.jobSubmit 1000 5 1 3 15 true 9)
    (sets m0 [(Reg.Hdr.ENABLE .dataMover, 1, 0, 0), (Reg.DataMover.JOB_DPA, 100, 0, 0), (Reg.DataMover.JOB_HPA, 4, 0, 0), (Reg.DataMover.JOB_LEN, 15, 0, 0)]) true
    (fun n => Tbl.find n.mover.jobs 0 == some { dpa := 100, hpa := 256, len := 16, statusEn := false, statusHpa := 0, dir := 1, port := 3, allot := 15, intr := true, tag := 9 } &&
      n.rd Reg.DataMover.LAST_SLOT == 0) = true := by decide +kernel

/-- R115: all 64 slots taken. -/
theorem test_job_submit_full :
    let m := { sets m0 [(Reg.Hdr.ENABLE .dataMover, 1, 0, 0)] with mover := { m0.mover with jobs := (List.range 64).map fun j => (j, job0) } }
    gives (.jobSubmit 1000 5 0 0 0 false 0) m (m.jobSlot.isNone) (fun n => n.rd Reg.DataMover.LAST_SLOT == 0xFF && tells n .dataMover 0 0x4812) = true := by
  decide +kernel

theorem test_job_start : gives (.jobStart 1000) (moving { job0 with state := 1 })
    ((moving { job0 with state := 1 }).jobsRunning < (moving job0).act Reg.DataMover.MAX_ACTIVE)
    (fun n => Tbl.find n.mover.jobs 63 == some job0) = true := by decide +kernel

theorem test_dm_host_read : gives (.dmHostReadCompletion 1000 63 true 5) (moving { job0 with readOut := some 900 }) true
    (fun n => Tbl.find n.mover.waiting 63 == some 5 && Tbl.find n.mover.jobs 63 == some job0) = true := by decide +kernel

theorem test_dm_host_read_fails : gives (.dmHostReadCompletion 1000 63 false 5) (moving { job0 with readOut := some 900 }) true
    (fun n => Tbl.find n.mover.jobs 63 == some { job0 with code := 2 }) = true := by decide +kernel

theorem test_job_end : gives (.jobEnd 1000 63) (moving { job0 with done := 1 }) true
    (fun n => (Tbl.find n.mover.jobs 63).map (fun b => b.state) == some 3 && tells n .dataMover 0 0x4810 && n.out.length == 1) = true := by decide +kernel

theorem test_job_end_failed : gives (.jobEnd 1000 63) (moving { job0 with code := 2 }) true
    (fun n => (Tbl.find n.mover.jobs 63).map (fun b => b.state) == some 3 && tells n .dataMover 0 0x4811) = true := by decide +kernel

theorem test_job_abort : gives (.jobAbort 1000 5 63) (moving job0) true (fun n => Tbl.find n.mover.jobs 63 == some { job0 with code := 6 }) = true := by decide +kernel

theorem test_job_release : gives (.jobRelease 1000 5 63) (moving { job0 with state := 3 }) true (fun n => n.mover.jobs == []) = true := by decide +kernel

theorem test_host_read_timeout : gives (.hostReadCompletionTimeout 1000 (some 63)) (moving { job0 with readOut := some 900 }) true
    (fun n => Tbl.find n.mover.jobs 63 == some { job0 with code := 2 }) = true := by decide +kernel

theorem test_host_read_timeout_mailbox : gives (.hostReadCompletionTimeout 1000 none) { m0 with boot := { m0.boot with mb := some ⟨2, 5, 0, 0, 3⟩ } } true
    (fun n => n.boot.dmaFail) = true := by decide +kernel

/-! ### Tracts, Siphon, Flume -/

theorem test_weir_recompute : gives (.weirRecompute 1000) m0 true
    (fun n => tells n .weir 0 0x0C10 && n.rd Reg.Weir.RECALC_TIDE == 1000) = true := by decide +kernel

theorem test_frame_drained :
    let m := (sets man0 [(Reg.Weir.FB_LEFT, 1, 0, 0)]).modSt fun s => { s with frames := [(4095, { role := 7, order := 5, next := some 3 })], dram := [(2 ^ 24 * 4094 + 1, {}), (2 ^ 24 * 4095, {})] }
    gives (.frameDrainComplete 1000 4095) m ((m.frame 4095).role == 7 && !m.openBefore 5 && m.hasFb 0 && (m.trackRoom 0).isSome && !m.quiet .siphon)
      (fun n => n.rd Reg.Weir.FB_LEFT == 0 && n.st.dram.map (·.1) == [2 ^ 24 * 4094 + 1] && (n.frame 4095).role == 3 && (n.frame 4095).next.isNone) = true := by decide +kernel

/-- R190: one line of the plot table brings in four entries. -/
theorem test_translation_fetch : gives (.translationFetchDone 1000 5 300 false false false []) man0 (tMode (man0.tract 0) == 2 && !man0.st.tc.contains 5)
    (fun n => n.st.tc == [0, 4, 5, 6, 7] && n.rd Reg.TransCache.MISSES == 1 && n.rd Reg.TransCache.MISS_PEAK_NS == 300) = true := by decide +kernel

theorem test_tc_flush : gives (.tcFlush 1000 5) man0 true (fun n => n.fsm .transCache == 1) = true := by decide +kernel

/-- R192: a pinned plot's entry stays. -/
theorem test_tc_flush_done : gives (.tcFlushDone 1000)
    ((man0.modSt fun s => { s with tc := [0, 1], plots := [(1, { tier := 3, pinned := true })] }).setFsm .transCache 1) true
    (fun n => n.st.tc == [1] && n.fsm .transCache == 0) = true := by decide +kernel

/-- R163: without a line of kind 0 the frame waits. -/
theorem test_frame_waits :
    let m := man0.modSt fun s => { s with frames := [(4095, { role := 7, order := 5, next := some 3 })] }
    gives (.frameDrainComplete 1000 4095) m (!m.hasFb 0) (fun n => (n.frame 4095).role == 7) = true := by decide +kernel

/-- The Siphon at the end of the compression of plot 0, which has read 64 blank lines. -/
def compressing : Mach := { man0.modSt fun s => { s with tracts := [(0, 0x22)], plots := [(0, { tier := 1, migrating := true })] } with
  sip := { man0.sip with move := some { op := 3, plot := 0, atLine := 64, vals := List.replicate 64 {} } } }

/-- R197: 64 lines of zeros become a ZERO plot. -/
theorem test_compress_zero : gives (.compressDone 1000 ⟨[], false⟩) compressing (!compressing.islandDown 5 && !compressing.plotWritten 0 0)
    (fun n => (n.plot 0).tier == 0 && !(n.plot 0).migrating && n.sip.move.isNone) = true := by decide +kernel

/-- R222: more than `KEEP_MAX` sectors, here 16 of one row that no stream shortens against 8, stay as they are. -/
theorem test_compress_incompressible :
    let m := { sets compressing [(Reg.Flume.KEEP_MAX.act, 8, 0, 0)] with sip := { man0.sip with
      move := some { op := 3, plot := 0, atLine := 64, vals := List.replicate 3 {} ++ [{ data := 77 }] ++ List.replicate 60 {} } } }
    gives (.compressDone 1000 ⟨[], false⟩) m (!m.plotWritten 0 0)
      (fun n => (n.plot 0).tier == 1 && n.rd Reg.Flume.INCOMPRESSIBLE == 1 && n.sip.move.isNone) = true := by decide +kernel

/-- R222: a plot that was written since its first read is given up, and taken again later. -/
theorem test_compress_written :
    let m := compressing.setMerge 0 { st := .held, line := 3, order := 7, logs := [⟨7, 77, BitVec.allOnes 64, false⟩] }
    gives (.compressDone 1000 ⟨[], false⟩) m (m.plotWritten 0 0)
      (fun n => (n.plot 0).tier == 1 && n.sip.move.isNone) = true := by decide +kernel

/-- R236: a check that fails at Flume's boundary is an internal failure of row 5. -/
theorem test_compress_bad : gives (.compressDone 1000 ⟨[], true⟩) compressing true
    (fun n => (n.plot 0).tier == 1 && n.sip.move.isNone && n.rd Reg.Levee.INTERNAL_FAILS == 1) = true := by decide +kernel

/-- Plot 0 COMPRESSED from sector 100 of frame 0 on: row 0 an LZ stream in two sectors, row 1 LITERAL, rows 2 and 3 ZERO. -/
def comp0 : Mach := man0.modSt fun s => { s with
  frames := [(0, { role := 4 }), (1, { role := 5 })], home := [(0, { frame := 1 })], tracts := [(0, 0x22)]
  plots := [(0, { tier := 2, sectors := 18, loc := 100 })], tc := [0]
  dirs := [(0, { kind := 2, enc := [1, 2, 0, 0], cnt := [2, 16, 0, 0], sectors := 18, loc := 100 })] }

theorem test_dir_fetch : gives (.dirFetchDone 1000 0 true false) comp0 (tMode (comp0.entryOf 0) == 2 && comp0.st.dc == [])
    (fun n => n.st.dc == [0, 1, 2, 3] && n.rd Reg.Flume.DIR_COPY_FETCHES == 1) = true := by decide +kernel

/-- R218: the example's directory word 0, and where its rows start. -/
theorem test_dir_word : let d : Dir := { kind := 2, enc := [1, 0, 1, 2], cnt := [7, 0, 3, 16], version := 5, sectors := 26, loc := 1000 }
    d.word0 = 0x0006800160301E46 ∧ d.start 2 = 1007 ∧ d.start 3 + 50 % 16 = 1012 := by decide +kernel

/-- A read of a line of row 0 with its translation at hand. -/
def decoding : Mach := (comp0.modSt fun s => { s with dc := [0] }).setTag 0 0 { st := .accepted, op := .memRd, line := 5, deadline := 9000 }

theorem test_row_reads : decoding.rowReads 0 0 = [(0, 0, { st := .accepted, op := .memRd, line := 5, deadline := 9000 })] ∧ decoding.inLzRow 0 = true := by
  decide +kernel

theorem test_rewrite_start :
    let m := decoding.setMerge 0 { st := .held, line := 17, logs := [⟨1, 77, BitVec.allOnes 64, false⟩] }
    gives (.rewriteStart 1000 ⟨0, []⟩) m
      (!m.islandDown 5 && m.place 17 == .comp && m.translated 17 && m.sip.rewrites.isEmpty && m.lev.chains.isEmpty && m.lev.done.isEmpty &&
        (m.rowFetch 0 4 0 (m.rowPls 0 1) []).2.isNone)
      (fun n => (n.sip.rewrites.map fun r => (r.plot, r.row, r.entries, r.copy.length)) == [(0, 1, [0], 16)] && (n.merge? 0).map (fun y => y.st) == some .flume) = true := by decide +kernel

/-- R217: one literal byte, 30 copies of 34 bytes and one of 3 at distance 1, the end: 1,024 bytes of 0x4D. -/
def runStream : List Nat := [1, 0x4D] ++ (List.replicate 30 [252, 0]).flatten ++ [128, 0, 0]

theorem test_lz_decode : (lzTokens 200 runStream [] 0) = some (List.replicate 1024 0x4D, [], 65) := by decide +kernel

/-- The read with the two sectors of that stream and its row check in place, sealed under key slot 0. -/
def decodable : Mach := decoding.modSt fun s => { s with dram :=
  [(100, { data := 0x47b1e448458f56f878b4dffba85310adfe11c008e95d68a88fbe7c96f86a7835d81743ea4acfec5fc08bf29e4245005b96a8c15534ab7c1564ee7d15a79bc64e
           lc := 3478922225, mac := 2719591275668104988, ver := 1, flg := 4 }),
   (101, { data := 0x1238d974f3e2b7895cc9dc5e3cb1f75150c29a1d7672f25b36575a3af44a69db8d549e629b598c485ffe502167ec2b26ecc5a5d3f5fb96386e163102b0b23f0a
           lc := 3583788369, mac := 1955209178044301624, ver := 1, flg := 4 })] }

/-- R219: the read of line 5 is answered with its line of the row. -/
theorem test_row_decode : gives (.rowDecodeDone 1000 0 0 7 ⟨[], 0⟩ []) decodable (!decodable.islandDown 5)
    (fun n => n.rd Reg.Flume.ROWS_DECODED == 1 && (n.tag? 0 0).map (fun x => match x.resp with
      | some (.memData d p _) => d == bytesLine (List.replicate 64 0x4D) && !p | _ => false) == some true) = true := by decide +kernel

/-- Row 0 of the plot is rewritten with sixteen lines of that byte. -/
def rewriting : Mach :=
  let d : Line := bytesLine (List.replicate 64 0x4D)
  { comp0.modLev fun y => { y with merge := (List.range 16).map fun k => (k, { st := .flume, line := k, logs := [⟨1, d, BitVec.allOnes 64, false⟩] }) } with
    sip := { comp0.sip with rewrites := [{ plot := 0, row := 0, entries := List.range 16 }] } }

/-- R223: its new stream takes two sectors and is stored in place. -/
theorem test_rewrite_store : gives (.rewriteStore 1000 0 0 ⟨[runStream], false⟩) rewriting
    (!rewriting.islandDown 5 && (rewriting.plot 0).tier == 2 && rewriting.sip.rewrites.length == 1)
    (fun n => n.rd Reg.Flume.RW_INPLACE == 1 && n.sip.rewrites == [] && n.lev.merge.length == 0) = true := by decide +kernel

/-- R221: a plot that is no longer COMPRESSED gets no rewrite: its entries go back. -/
theorem test_rewrite_dropped :
    let m := rewriting.modSt fun s => { s with plots := [(0, { tier := 1 })] }
    gives (.rewriteStore 1000 0 0 ⟨[runStream], false⟩) m ((m.plot 0).tier == 1)
      (fun n => n.sip.rewrites == [] && n.lev.merge.length == 16 && n.rd Reg.Flume.RW_INPLACE == 0) = true := by decide +kernel

/-- The Siphon with a command's registers. -/
def sip0 : Mach := sets man0 [(Reg.Siphon.CMD_PLOT, 2 ^ 34 - 1, 0, 0), (Reg.Siphon.CMD_COUNT, 2, 0, 0)]

def queuedAs (op slot peer mode tag : Nat) (n : Mach) : Bool := n.sip.queue == [⟨op, 2 ^ 34 - 1, 2, slot, peer, mode, tag⟩]

theorem test_siphon_promote : gives (.siphonPromote 1000 5 9) sip0 true (queuedAs 1 0 0 0 9) = true := by decide +kernel
theorem test_siphon_demote : gives (.siphonDemote 1000 5 9) sip0 true (queuedAs 2 0 0 0 9) = true := by decide +kernel
theorem test_siphon_compress : gives (.siphonCompress 1000 5 9) sip0 true (queuedAs 3 0 0 0 9) = true := by decide +kernel
theorem test_siphon_expand : gives (.siphonExpand 1000 5 9) sip0 true (queuedAs 4 0 0 0 9) = true := by decide +kernel
theorem test_siphon_pin : gives (.siphonPin 1000 5 9) sip0 true (queuedAs 5 0 0 0 9) = true := by decide +kernel
theorem test_siphon_unpin : gives (.siphonUnpin 1000 5 9) sip0 true (queuedAs 6 0 0 0 9) = true := by decide +kernel
theorem test_siphon_discard : gives (.siphonDiscard 1000 5 65535) sip0 true (queuedAs 7 0 0 0 65535) = true := by decide +kernel
theorem test_siphon_tract_out : gives (.siphonTractOut 1000 5 7 65535 9) sip0 true (queuedAs 8 7 65535 0 9) = true := by decide +kernel
theorem test_siphon_tract_in : gives (.siphonTractIn 1000 5 7 3 2 9) sip0 true (queuedAs 9 7 3 2 9) = true := by decide +kernel

/-- R207: a second tract move is ignored. -/
theorem test_siphon_tract_second : gives (.siphonTractOut 1000 5 1 0 9) { sip0 with sip := { sip0.sip with queue := [⟨9, 0, 0, 1, 0, 1, 8⟩] } } true
    (fun n => n.sip.queue.length == 1 && n.rd Reg.Siphon.CMD_REJECTS == 1) = true := by decide +kernel

theorem test_siphon_disabled : gives (.siphonPin 1000 5 9) (man0.wr (Reg.Hdr.ENABLE .siphon) 0) true (fun n => n.sip.queue == [] && n.rd Reg.Siphon.CMD_REJECTS == 1) = true := by
  decide +kernel

/-- The Siphon reads line 63 of the plot that it compresses, or takes its next plot. -/
def stepping : Mach := { sets compressing [(Reg.Weir.FB_LEFT, 5, 0, 0)] with sip := { compressing.sip with move := some { op := 3, plot := 0, atLine := 63, vals := List.replicate 63 {} } } }

theorem test_siphon_step : gives (.siphonMoveStep 1000 [] false) stepping
    (!stepping.quiet .siphon && !stepping.inLzRow 63 && match stepping.stepStart 0 63 0 1 with
      | some m => (m.sipRead 63 [] false).2.map (fun v => v.poison) == some false
      | none => false)
    (fun n => n.sip.move.map (fun v => (v.atLine, v.vals.length)) == some (64, 64) && n.rd Reg.Weir.FB_LEFT == 4 && n.mover.tracks == []) = true := by
  decide +kernel

/-- R163: without a line of its kind the step waits. -/
theorem test_siphon_step_waits : gives (.siphonMoveStep 1000 [] false) (stepping.wr Reg.Weir.FB_LEFT 0)
    (((stepping.wr Reg.Weir.FB_LEFT 0).stepStart 0 63 0 1).isNone)
    (fun n => n.sip.move.map (fun v => v.atLine) == some 63) = true := by decide +kernel

/-- R206: a HALTED Siphon does no step. -/
theorem test_siphon_quiet : gives (.siphonMoveStep 1000 [] false) (stepping.wr (Reg.Hdr.HALTED .siphon) 1)
    ((stepping.wr (Reg.Hdr.HALTED .siphon) 1).quiet .siphon) (fun n => n.sip == stepping.sip) = true := by decide +kernel

theorem test_siphon_next : gives (.siphonMoveStep 1000 [] false)
    { sets man0 [(Reg.Weir.FB_LEFT, 5, 0, 0)] with sip := { man0.sip with queue := [⟨7, 0, 0, 0, 0, 0, 9⟩] } } true
    (fun n => (n.plot 0).tier == 0 && n.sip.nextPlot == 1) = true := by decide +kernel

theorem test_tract_move_end : gives (.tractMoveEnd 1000)
    { sets man0 [(Reg.Siphon.TM_ACTIVE, 1, 0, 0)] with sip := { man0.sip with atEnd := true, tmPoison := true } } true (fun n => n.sip.tmEnd == some 6) = true := by
  decide +kernel

theorem test_siphon_disable : gives (.siphonDisable 1000 5) { sip0 with sip := { sip0.sip with queue := [⟨7, 0, 0, 0, 0, 0, 9⟩], auto := [(3, 1, 0)] } } true
    (fun n => !n.enabled .siphon && n.sip.queue == [] && n.sip.auto == []) = true := by decide +kernel

theorem test_decay_epoch : gives (.decayEpochAdvance 1000) { man0 with sip := { man0.sip with decayTurns := 2 ^ 24 } } (man0.act Reg.Siphon.DECAY_TURNS ≤ 2 ^ 24)
    (fun n => n.sip.decayTurns == 0 && n.rd Reg.Siphon.DECAY_EPOCH == 1) = true := by decide +kernel

/-! ### Levee, Furrow -/

/-- The chain of a read of line 2 at a step. -/
def chained (m : Mach) (step : Nat) : Mach := (m.modLev fun y => { y with chains := [(7, { who := .read 0 0, line := 2, pl := 2, step := step, order := 1 })] }).setTag 0 0
  { st := .accepted, op := .memRd, line := 2, deadline := 5000, order := 1 }

/-- R238: the reread passes, and the read is answered at stage 4. -/
theorem test_recovery_reread : gives (.recoveryRereadDone 1000 7 []) (chained dir0 1) (((chained dir0 1).tryRead 2 [] false).2 == .ok { lc := lc32 (lineBytes 0) (dpaWord 2) })
    (fun n => n.lev.chains == [] && n.rd Reg.Levee.REREAD_OK == 1 && (n.tag? 0 0).map (fun x => (x.resp, x.stage)) == some (some (.memData 0 false 0), 4)) = true := by
  decide +kernel

/-- R219, R229: the row check of a compressed plot fails again, so the chain goes on from step 2. -/
theorem test_recovery_reread_row :
    let m := { chained comp0 1 with st := { comp0.st with dc := [0], dirs := [(0, { kind := 2, enc := [1, 0, 0, 0], cnt := [1, 0, 0, 0], sectors := 1, loc := 100 })] } }
    gives (.recoveryRereadDone 1000 7 []) m ((m.tryRead 2 [] false).2 == .row true 100)
      (fun n => n.lev.chains == [] && n.rd Reg.Levee.CHAIN_POISONED == 1) = true := by decide +kernel

/-- Tract 0 striped in the group of frames 0 to 15. -/
def striped0 : Mach := dir0.modSt fun s => { s with tracts := [(0, 5)], home := [(0, { frame := 0, slot := 0 })], groups := [(0, .direct)]
                                                    frames := (List.range 16).map fun f => (f, { role := 2 }) }

/-- R255: the row of a blank line is blank, so the line is recomputed as zeros. -/
theorem test_stripe_recompute :
    let m := (chained striped0 4).modLev fun y => { y with chains := [(7, { who := .read 0 0, line := 2, pl := stripePl 0 0 2, step := 4, order := 1 })] }
    gives (.stripeRecomputeDone 1000 7 []) m (!m.rowInDrain (stripePl 0 0 2) && m.holds (stripePl 0 0 2) == .line 2 && (m.rebuild (stripePl 0 0 2) 2 []).2.isSome)
      (fun n => n.rd Reg.Levee.STRIPE_OK == 1 && (n.tag? 0 0).map (fun x => x.resp) == some (some (.memData 0 false 0))) = true := by decide +kernel

/-- R255: another line of the row does not pass, so step 4 has no line to give. -/
theorem test_stripe_recompute_fails :
    let m := ((chained striped0 4).modLev fun y => { y with chains := [(7, { who := .read 0 0, line := 2, pl := stripePl 0 0 2, step := 4, order := 1 })] }).modSt
      fun s => { s with dram := [(stripePl 0 1 2, { flg := 0x80 })] }
    gives (.stripeRecomputeDone 1000 7 []) m ((m.rebuild (stripePl 0 0 2) 2 []).2.isNone)
      (fun _ => true) = true := by decide +kernel

/-- R256: two lines of one row that are stored together cost one parity read and one parity write. -/
theorem test_row_together :
    (let w := fun slot d => (⟨stripePl 0 slot 2, blankImage (stripePl 0 slot 2), true, { data := d, mac := 7, lc := 0 , flg := 0 }, false⟩ : Drained)
     let n := striped0.rowUpdate [w 0 5, w 1 3] false false
     let p := parityPl 0 2
     ((n.image p).data == 6 && (n.image p).mac == 0 && parityOk p (n.image p) && n.rd Reg.Canal.RD_LINES (canalOf p) == 1 &&
       n.rd Reg.Canal.WR_LINES (canalOf p) == 1)) = true := by decide +kernel

def repairing (q : Repair) : Mach := (sets dir0 [(Reg.Weir.FB_LEFT, 5, 0, 1)]).modLev fun y => { y with repairs := [q] }

theorem test_repair_write :
    let q : Repair := { line := 2, pl := 2, val := {}, ver := 0, flg := 2, order := 1 }
    gives (.repairWrite 1000) (repairing q) ((repairing q).hasFb 1 && (repairing q).canalTakes 2 && !(repairing q).writtenSince 2 2)
      (fun n => n.lev.repairs == [] && n.rd Reg.Levee.REPAIRS == 1) = true := by decide +kernel

theorem test_repair_overtaken :
    let m := (repairing { line := 2, pl := 2, val := {}, ver := 0, flg := 2, order := 1 }).modLev fun y => { y with lastStore := [(2, 2)] }
    gives (.repairWrite 1000) m (m.writtenSince 2 2) (fun n => n.lev.repairs == [] && n.rd Reg.Levee.REPAIRS == 0) = true := by decide +kernel

theorem test_repair_timeout :
    let m := dir0.modLev fun y => { y with repairs := [{ line := 2, pl := 2, val := {}, ver := 0, flg := 2, order := 1, turns := 2 ^ 16 }] }
    gives (.repairTimeout 1000) m true (fun n => n.lev.repairs == [] && n.rd Reg.Levee.REPAIRS_DROPPED == 1) = true := by decide +kernel

theorem test_flip_arm : gives (.flipArm 1000 5) (sets m0 [(Reg.Levee.FLIP_EN, 1, 0, 0), (Reg.Levee.FLIP_COUNT, 3, 0, 0), (Reg.Levee.FLIP_D, 5, 0, 7)]) true
    (fun n => n.flag Reg.Levee.FLIP_ARMED && n.rd Reg.Levee.FLIP_LEFT == 3 && n.lev.flip.map (fun f => f.mask) == some (5 <<< 448)) = true := by decide +kernel

theorem test_flip_disarm : gives (.flipDisarm 1000 5) ((sets m0 [(Reg.Levee.FLIP_ARMED, 1, 0, 0)]).modLev fun y => { y with flip := some ⟨0, 0, 0, false, 0, 0, 0⟩ }) true
    (fun n => n.lev.flip.isNone && !n.flag Reg.Levee.FLIP_ARMED) = true := by decide +kernel

/-- The Furrow enabled, its pass from line 5 to line 5. -/
def furrow0 : Mach := sets dir0 [(Reg.Hdr.ENABLE .furrow, 1, 0, 0), (Reg.Furrow.START_LINE, 5, 0, 0), (Reg.Furrow.END_LINE, 5, 0, 0), (Reg.Weir.FB_LEFT, 9, 0, 1)]

theorem test_furrow_go : gives (.furrowPassGo 1000 5) furrow0 (furrow0.fsm .furrow == 0)
    (fun n => n.fsm .furrow == 1 && n.rd Reg.Furrow.POSITION == 5 && tells n .furrow 0 0x2010) = true := by decide +kernel

theorem test_furrow_stop : gives (.furrowPassStop 1000 5) (furrow0.setFsm .furrow 1) (!furrow0.furrowBusy)
    (fun n => n.fsm .furrow == 0 && n.rd Reg.Furrow.LAST_RESULT == 1 && tells n .furrow 0 0x2011) = true := by decide +kernel

theorem test_furrow_stop_busy : gives (.furrowPassStop 1000 5)
    ((furrow0.setFsm .furrow 1).modLev fun y => { y with chains := [(1, { who := .furrow, line := 5, pl := 5, step := 1 })] }) true
    (fun n => n.lev.stopWant == some 1 && n.fsm .furrow == 1) = true := by decide +kernel

theorem test_furrow_disable : gives (.furrowDisable 1000 5) (furrow0.setFsm .furrow 1) true
    (fun n => !n.enabled .furrow && n.rd Reg.Furrow.LAST_RESULT == 2) = true := by decide +kernel

/-- R263: the step of its last line ends the pass. -/
theorem test_furrow_step : gives (.furrowStepDone 1000 []) (sets (furrow0.setFsm .furrow 1) [(Reg.Furrow.POSITION, 5, 0, 0)])
    (!furrow0.furrowBusy && !furrow0.quiet .furrow && (furrow0.furrowTake 5).isSome && !furrow0.tractHeld 5)
    (fun n => n.rd Reg.Furrow.LINES_READ == 1 && n.fsm .furrow == 0 && n.rd Reg.Weir.FB_LEFT 0 1 == 8) = true := by decide +kernel

/-- R262: without a line of kind 1 the step waits. -/
theorem test_furrow_step_waits : gives (.furrowStepDone 1000 []) (sets (furrow0.setFsm .furrow 1) [(Reg.Furrow.POSITION, 5, 0, 0), (Reg.Weir.FB_LEFT, 0, 0, 1)])
    (((sets furrow0 [(Reg.Weir.FB_LEFT, 0, 0, 1)]).furrowTake 5).isNone)
    (fun n => n.rd Reg.Furrow.LINES_READ == 0 && n.fsm .furrow == 1 && n.rd Reg.Furrow.POSITION == 5) = true := by decide +kernel

/-- R263: a pass whose end lies before its start ends at once with result 3. -/
theorem test_furrow_empty : gives (.furrowPassGo 1000 5) (furrow0.wr Reg.Furrow.START_LINE 6) true
    (fun n => n.fsm .furrow == 0 && n.rd Reg.Furrow.LAST_RESULT == 3 && n.rd Reg.Furrow.PASSES == 1) = true := by decide +kernel

/-- R262: a line of the retry list is read again, and the pass ends with the last of them. -/
theorem test_furrow_retry :
    let m := (sets (furrow0.setFsm .furrow 2) [(Reg.Furrow.POSITION, 6, 0, 0)]).modLev fun y => { y with retry := [5] }
    gives (.furrowStepDone 1000 []) m ((m.furrowTake 5).isSome)
      (fun n => n.rd Reg.Furrow.RETRIED == 1 && n.lev.retry == [] && n.fsm .furrow == 0) = true := by decide +kernel

/-- R242: a repair without a line of kind 1 waits. -/
theorem test_repair_waits :
    let q : Repair := { line := 2, pl := 2, val := {}, ver := 0, flg := 2, order := 1 }
    gives (.repairWrite 1000) ((repairing q).wr Reg.Weir.FB_LEFT 0 0 1) (!((repairing q).wr Reg.Weir.FB_LEFT 0 0 1).hasFb 1)
      (fun n => n.lev.repairs == [q]) = true := by decide +kernel

/-! ### Canals -/

/-- R269: two RDIMMs of 32 GB. -/
def spd0 : Spd := ⟨2, 32, 4, 16, 1, 1⟩

/-- Canal 3 at a state of its FSM, its riser powered and the DDR PHY PLL locked. -/
def canal3 (f : Nat) (up : Bool := true) : Mach := sets (if up then up0 else m0) [(Reg.Hdr.FSM .canal, f, 3, 0), (Reg.Canal.RISER_PG, 1, 3, 0), (Reg.Clock.DDR_LOCK, 1, 0, 0)]

theorem test_training_start : gives (.canalTrainingStart 2000 3) (canal3 0 false)
    ((canal3 0 false).flag Reg.Clock.DDR_LOCK && (canal3 0 false).enabled .canal 3) (fun n => n.fsm .canal 3 == 1 && (n.canal 3).trainStart == 2000) = true := by
  decide +kernel

/-- R177, R269: the raw capacity is 16 Canals of 64 GB, and its last frame is RESERVED. -/
theorem test_training_done : gives (.canalTrainingDone 5001000 3 0 spd0 []) (canal3 1 false) ((canal3 1 false).st.refPop.isNone)
    (fun n => n.fsm .canal 3 == 2 && n.rd Reg.TractTable.RAW_GB == 1024 && (n.frame 1023).role == 6 && n.rd Reg.Canal.CANAL_GB 3 == 64 &&
      n.rd Reg.Canal.RATE_MTS 3 == 6400 && n.rd Reg.Canal.TRAIN_MS 3 == 5 && n.rd Reg.Clock.CANAL_MHZ == 800) = true := by decide +kernel

theorem test_training_fails : gives (.canalTrainingDone 2000 3 2 spd0 []) (canal3 1 false) true
    (fun n => n.fsm .canal 3 == 7 && n.rd Reg.Canal.TRAIN_FAIL 3 == 2 && tells n .canal 3 0x2411) = true := by decide +kernel

theorem test_fill_complete : gives (.canalFillComplete 3001000 3) (canal3 2 false) true (fun n => n.fsm .canal 3 == 4 && tells n .canal 3 0x2410) = true := by
  decide +kernel

theorem test_refresh_issued : gives (.refreshDue 2000 3 1 false false) ((canal3 4).modCanal 3 fun x => { x with owed := [(1, 2)] }) true
    (fun n => (n.canal 3).owed == []) = true := by decide +kernel

theorem test_refresh_postponed : gives (.refreshDue 2000 3 1 true false) (sets (canal3 4) [(Reg.Canal.REF_POSTPONE, 4, 3, 0)])
    (1 < (sets (canal3 4) [(Reg.Canal.REF_POSTPONE, 4, 3, 0)]).act Reg.Canal.REF_POSTPONE 3)
    (fun n => (n.canal 3).owed == [(1, 1)] && n.rd Reg.Canal.REF_OWED 3 == 1) = true := by decide +kernel

/-- R275: above 85 °C the Canal refreshes at the doubled rate. -/
theorem test_thermal : gives (.dimmThermalRead 2000 3 86 (-5)) (sets (canal3 4) [(Reg.Canal.DIMMS_PRESENT, 3, 3, 0)]) true
    (fun n => n.rd Reg.Canal.TEMP0 3 == 86 && n.rd Reg.Canal.TEMP1 3 == 251 && n.flag Reg.Canal.REF_2X 3 && tells n .canal 3 0x2417) = true := by decide +kernel

theorem test_ca_parity : gives (.caParityAlert 2000 3 false) (sets (canal3 4) [(Reg.Canal.CAPAR_LIMIT, 4, 3, 0)]) true
    (fun n => n.rd Reg.Canal.CAPAR_ERRS 3 == 1 && tells n .canal 3 0x2416 && n.fsm .canal 3 == 4) = true := by decide +kernel

theorem test_ca_parity_again : gives (.caParityAlert 2000 3 true) (sets (canal3 4) [(Reg.Canal.CAPAR_LIMIT, 4, 3, 0)]) true
    (fun n => n.fsm .canal 3 == 6 && n.rd Reg.Canal.OOS_CAUSE 3 == 2 && tells n .canal 3 0x2412) = true := by decide +kernel

theorem test_rcd_error : gives (.rcdInternalError 2000 3) (canal3 4) true (fun n => n.fsm .canal 3 == 6 && n.rd Reg.Canal.OOS_CAUSE 3 == 8) = true := by
  decide +kernel

theorem test_oos_force : gives (.oosReq 2000 5 3 true false) (served (canal3 4)) true
    (fun n => n.fsm .canal 3 == 5 && (n.canal 3).leave == some ⟨1, true, 4⟩) = true := by decide +kernel

/-- R283: the unforced request is refused where a DIRECT frame of one copy loses its lines. -/
theorem test_oos_refused :
    let m := sets dir0 [(Reg.Canal.RISER_PG, 1, 3, 0)]
    gives (.oosReq 2000 5 3 false false) m (m.exposed (m.awaySet [3]) == some 0) (fun n => n.fsm .canal 3 == 4 && tells n .canal 3 0x2413) = true := by
  decide +kernel

theorem test_return_go : gives (.returnGo 2000 5 3 false) (canal3 6) ((canal3 6).mayReturn 3) (fun n => n.fsm .canal 3 == 1 && (n.canal 3).returned) = true := by
  decide +kernel

/-- R287: the last line of phase 1 is passed and phase 2 starts. -/
theorem test_rebuild_line :
    let m := sets (dir0.modCanal 3 fun x => { x with returned := true }) [(Reg.Hdr.FSM .canal, 3, 3, 0), (Reg.Canal.BOUNDARY, 5, 3, 0),
      (Reg.Weir.FB_LEFT, 1000, 0, 4)]
    gives (.rebuildLineDone 2000 3) m (m.canPay 3 1 0 && m.lev.chains.isEmpty) (fun n => n.rd Reg.Canal.BOUNDARY 3 == 6) = true := by decide +kernel

/-! ### Key commands, the Rekey engine, IDE -/

/-- Twelve data words 1 to 12 written, slot 5 EMPTY. -/
def keyed : Mach := sets up0 ((List.range 12).map fun d => (Reg.Crypto.KEY_DATA, d + 1, 0, d))

theorem test_key_load : gives (.keyLoad 2000 5 5 true) keyed (keyed.keyRefusal 0 5 5 == 0)
    (fun n => (n.slot 5).state == 1 && (n.slot 5).k2 == 5 + 6 * 2 ^ 64 + 7 * 2 ^ 128 + 8 * 2 ^ 192 && (n.slot 5).epoch == 1 && (n.slot 5).lock &&
      tells n .crypto 0 0x2811) = true := by decide +kernel

/-- R295: slot 0 has a user. -/
theorem test_key_refused : gives (.keyClear 2000 5 0) dir0 (dir0.keyRefusal 2 0 5 == 3)
    (fun n => n.cry.slots == dir0.cry.slots && tells n .crypto 0 0x2816) = true := by decide +kernel

theorem test_key_clear : gives (.keyClear 2000 5 5) (keyed.setSlot 5 { state := 1, k1 := 7, epoch := 3 }) true
    (fun n => (n.slot 5).state == 0 && (n.slot 5).k1 == 0 && (n.slot 5).epoch == 3 && tells n .crypto 0 0x2812) = true := by decide +kernel

theorem test_key_generate : gives (.keyGenerate 2000 5 7 false) keyed true (fun n => (n.slot 7).state == 1 && (n.slot 7).epoch == 1 && (n.slot 7).gen) = true := by
  decide +kernel

theorem test_key_zeroise : gives (.keyZeroise 2000 5 0) keyed (keyed.keyRefusal 3 0 5 == 0)
    (fun n => (n.slot 0).state == 2 && n.rd Reg.Crypto.ALARM_CAUSE == 16) = true := by decide +kernel

/-- One key command has been taken and not yet done. -/
def keyRun : Mach := keyed.modCry fun x => { x with cmd := some ⟨5, 5, 3, 900⟩ }

theorem test_key_busy : gives (.keyLoad 2000 5 6 false) keyRun (keyRun.cry.cmd.isSome) (fun n => (n.slot 6).state == 0 && tells n .crypto 0 0x2816) = true := by
  decide +kernel

/-- R295: a ZEROISE is not refused while another command runs. -/
theorem test_zeroise_busy : gives (.keyZeroise 2000 5 0) keyRun (keyRun.keyWriter 5 && keyRun.cry.cmd.isSome)
    (fun n => (n.slot 0).state == 2 && n.rd Reg.Crypto.KEY_RESULT == 3 && n.cry.cmd.map (fun c => c.code) == some 0) = true := by decide +kernel

theorem test_key_cmd_done : gives (.keyCmdDone 2000) keyRun true
    (fun n => n.cry.cmd.isNone && n.rd Reg.Crypto.KEY_RESULT == 3 && n.rd Reg.Crypto.KEY_RESULT_SLOT == 5 && n.rd Reg.Crypto.KEY_DATA 0 11 == 0) = true := by
  decide +kernel

theorem test_alarm_clear : gives (.alarmCauseClear 2000 5 5) (sets up0 [(Reg.Crypto.ALARM_CAUSE, 7, 0, 0)]) true
    (fun n => n.rd Reg.Crypto.ALARM_CAUSE == 2) = true := by decide +kernel

/-- Tract 0 under slot 0; slot 1 VALID. -/
def rekeyable : Mach := dir0.setSlot 1 { state := 1, k1 := 1, k2 := 2, k3 := 3, epoch := 1 }

theorem test_rekey_go : gives (.rekeyGo 2000 5 0 1) rekeyable (rekeyable.rekeyRefusal 0 1 5 == 0)
    (fun n => n.fsm .rekey == 1 && n.rd Reg.Rekey.RK_NEW == 1 && tells n .rekey 0 0x2820) = true := by decide +kernel

/-- R309: a slot equal modulo 8 to the old one. -/
theorem test_rekey_refused : gives (.rekeyGo 2000 5 0 8) (rekeyable.setSlot 8 { state := 1 }) true
    (fun n => n.fsm .rekey == 0 && n.rd Reg.Rekey.RK_REFUSE == 5 && tells n .rekey 0 0x2816) = true := by decide +kernel

/-- R311: a blank line of a DIRECT tract is skipped. -/
theorem test_rekey_step :
    let m := sets rekeyable [(Reg.Hdr.FSM .rekey, 1, 0, 0), (Reg.Rekey.RK_NEW, 1, 0, 0), (Reg.Rekey.RK_BOUNDARY, 9, 0, 0), (Reg.Weir.FB_LEFT, 100, 0, 3)]
    gives (.rekeyStepDone 2000 [] false) m (m.rkMay && m.cry.rkRead.isNone && (m.linePl 9).isSome)
      (fun n => n.rd Reg.Rekey.RK_BOUNDARY == 10 && n.rd Reg.Rekey.RK_LINES_SKIPPED == 1) = true := by decide +kernel

/-- Set 0 of the memory stream of port A programmed for reception. -/
def ided : Mach := up0.setIde 0 true { rx := [0] }

theorem test_ide_query : gives (.ideQuery 2000 0 true) ided true (fun n => n.out == [.doe 0 2 [0, 1, 0, 0, 1]]) = true := by decide +kernel

theorem test_ide_key_prog : gives (.ideKeyProg 2000 0 true true 0) ided true
    (fun n => (n.ide 0 true).full 0 && n.rd Reg.Crypto.IDE_MEM_STATE 0 0 == 1) = true := by decide +kernel

theorem test_ide_go : gives (.ideKSetGo 2000 0 true 1) (sets (up0.setIde 0 true { rx := [0, 1], tx := [0, 1] }) [(Reg.Crypto.IDE_MEM_STATE, 2, 0, 0)]) true
    (fun n => n.rd Reg.Crypto.IDE_MEM_KSET 0 0 == 1 && n.rd Reg.Crypto.IDE_SWITCHES 0 0 == 1 && tells n .crypto 0 0x2819) = true := by decide +kernel

theorem test_ide_stop : gives (.ideKSetStop 2000 0 true 0) (sets (up0.setIde 0 true { rx := [0], tx := [0] }) [(Reg.Crypto.IDE_MEM_STATE, 2, 0, 0)]) true
    (fun n => n.rd Reg.Crypto.IDE_MEM_STATE 0 0 == 0 && !(n.ide 0 true).full 0) = true := by decide +kernel

/-- R268: the type, ECC and rate codes come first; DIMMs that the mode table does not list fail with code 3, the model's choice. -/
theorem test_training_unlisted : gives (.canalTrainingDone 2000 3 0 ⟨2, 16, 4, 16, 1, 1⟩ []) (canal3 1 false) (trainCode 0 ⟨2, 16, 4, 16, 1, 1⟩ false == 3)
    (fun n => n.fsm .canal 3 == 7 && n.rd Reg.Canal.TRAIN_FAIL 3 == 3) = true := by decide +kernel

/-- R273: an owed refresh that can wait no longer sends the Canal out of service. -/
theorem test_refresh_hard : gives (.refreshDue 2000 3 1 false true) (canal3 4) true
    (fun n => n.fsm .canal 3 == 6 && n.rd Reg.Canal.OOS_CAUSE 3 == 7) = true := by decide +kernel

/-- R163: the engine waits without lines of kind 3. -/
theorem test_rekey_waits :
    let m := sets rekeyable [(Reg.Hdr.FSM .rekey, 1, 0, 0), (Reg.Rekey.RK_NEW, 1, 0, 0), (Reg.Rekey.RK_BOUNDARY, 9, 0, 0)]
    gives (.rekeyStepDone 2000 [] false) m (m.rkMay && !m.rkHas (m.rkLineCost 9 9))
      (fun n => n.rd Reg.Rekey.RK_BOUNDARY == 9) = true := by decide +kernel

/-! ### Culvert links -/

/-- Culvert link 2 at a state of its FSM, four lanes wide, every lane locked. -/
def link2 (st : Nat) : Mach := sets up0 ([(Reg.Hdr.FSM .culvert, st, 2, 0), (Reg.Culvert.WIDTH, 4, 2, 0), (Reg.Culvert.RX_MAP, 1672, 2, 0), (Reg.Culvert.TX_MAP, 1672, 2, 0),
  (Reg.Culvert.ACKED, 2 ^ 20 - 1, 2, 0)] ++ (List.range 5).map fun k => (Reg.Culvert.LANE_LOCK, 1, 2, k))

/-- The same link with its own state changed. -/
def linked (st : Nat) (f : LinkX → LinkX) : Mach := (link2 st).modLink 2 f

/-- A good flit header with a sequence. -/
def hd (seq : Nat) : FlitHdr := ⟨seq, 0, false, 0, true, 0, false⟩

/-- The flit passes its checks. -/
def heardOk (m : Mach) (h : FlitHdr) (data : Bool) : Bool :=
  takesFlit (((box m).now 2000).fsm .culvert 2) data && h.gcm && !h.bad && ((box m).heard 2000 2 h data).fsm .culvert 2 != 5

theorem test_slot_ctrl : gives (.flitSlotSend 2000 2 false) (linked 3 fun x => { x with ctrlQ := [{ op := 1, a := 9 }, { op := 2 }] }) true
    (fun n => (n.link 2).ctrlQ == [{ op := 2 }] && n.out.map (fun o => match o with | .flit l _ b => l == 2 && b == .ctrl { op := 1, a := 9 } | _ => false) == [true]) = true := by
  decide +kernel

theorem test_slot_replay :
    let m := sets (linked 3 fun x => { x with held := [⟨5, 0, .units [], 10, 5, false, 0, false⟩] }) [(Reg.Culvert.REPLAYING, 1, 2, 0), (Reg.Culvert.REPLAY_PTR, 5, 2, 0), (Reg.Culvert.NEXT_TX, 6, 2, 0)]
    gives (.flitSlotSend 2000 2 false) m true (fun n => n.rd Reg.Culvert.FLITS_REPLAYED 2 == 1 && !n.flag Reg.Culvert.REPLAYING 2) = true := by decide +kernel

theorem test_slot_data :
    let m := linked 3 fun x => { x with queue := [{ utype := 7 }] }
    gives (.flitSlotSend 2000 2 false) m (!(m.judgeCap 2).flag Reg.Culvert.AT_CAP 2 && !m.quiet .culvert 2 && ((m.judgeCap 2).newBody 2).2.isSome && (m.link 2).switchSeq.isNone)
      (fun n => n.rd Reg.Culvert.NEXT_TX 2 == 1 && (n.link 2).held.map (fun f => f.seq) == [0]) = true := by decide +kernel

theorem test_slot_halted :
    let m := sets (link2 3) [(Reg.Hdr.HALT .culvert, 1, 2, 0)]
    gives (.flitSlotSend 2000 2 false) m (m.quiet .culvert 2) (fun n => n.out.map (fun o => match o with | .flit _ _ b => b == .idle | _ => false) == [true]) = true := by
  decide +kernel

theorem test_idle_flit : gives (.idleFlitReceived 2000 2 (hd 1)) (link2 3) (heardOk (link2 3) (hd 1) false) (fun n => n.rd Reg.Culvert.CTRL_RX_COUNT 2 == 1) = true := by
  decide +kernel

/-- R317: a failing tag breaks the link with cause 3. -/
theorem test_tag_fails : gives (.idleFlitReceived 2000 2 { hd 1 with gcm := false }) (link2 3) true
    (fun n => n.fsm .culvert 2 == 5 && n.rd Reg.Culvert.BROKEN_CAUSE 2 == 3 && tells n .crypto 0 0x2818 && tells n .culvert 2 0x2C17) = true := by decide +kernel

theorem test_data_flit : gives (.dataFlitReceived 2000 2 (hd 7) .idle) (sets (link2 3) [(Reg.Culvert.NEXT_RX, 7, 2, 0)])
    (heardOk (sets (link2 3) [(Reg.Culvert.NEXT_RX, 7, 2, 0)]) (hd 7) true) (fun n => n.rd Reg.Culvert.NEXT_RX 2 == 8 && n.rd Reg.Culvert.FLITS_RX 2 == 1) = true := by
  decide +kernel

theorem test_data_duplicate : gives (.dataFlitReceived 2000 2 (hd 6) .idle) (sets (link2 3) [(Reg.Culvert.NEXT_RX, 7, 2, 0)]) true
    (fun n => n.rd Reg.Culvert.NEXT_RX 2 == 7 && n.rd Reg.Culvert.DUP_DISCARD 2 == 1) = true := by decide +kernel

theorem test_data_gap : gives (.dataFlitReceived 2000 2 (hd 9) .idle) (sets (link2 3) [(Reg.Culvert.NEXT_RX, 7, 2, 0)]) true
    (fun n => n.rd Reg.Culvert.GAP_DISCARD 2 == 1 && n.rd Reg.Culvert.NAKS_SENT 2 == 1 && (n.link 2).ctrlQ == [{ op := 1, a := 7 }]) = true := by decide +kernel

theorem test_failed_flit : gives (.failedFlit 2000 2 true) (link2 3) true
    (fun n => n.rd Reg.Culvert.FEC_UNCORR 2 == 1 && (n.link 2).ctrlQ == [{ op := 1, a := 0 }]) = true := by decide +kernel

/-- R334: NAK names the first flit to resend; the two before it are freed. -/
theorem test_ctrl_nak :
    let m := sets (linked 3 fun x => { x with held := (List.range 5).map fun s => ⟨s, 0, .units [], 10, s, false, 0, false⟩ }) [(Reg.Culvert.NEXT_TX, 5, 2, 0)]
    gives (.ctrlNak 2000 2 (hd 1) 2) m (heardOk m (hd 1) false)
      (fun n => n.flag Reg.Culvert.REPLAYING 2 && n.rd Reg.Culvert.REPLAY_PTR 2 == 2 && n.rd Reg.Culvert.ACKED 2 == 1 && (n.link 2).held.length == 3) = true := by decide +kernel

theorem test_ctrl_resume : gives (.ctrlResume 2000 2 (hd 1) 0 0 0) (linked 4 fun x => { x with ready := true })
    (heardOk (linked 4 fun x => { x with ready := true }) (hd 1) false) (fun n => n.fsm .culvert 2 == 3 && n.rd Reg.Culvert.PAYLOAD_MBPS 2 == widthMbps 4 && tells n .culvert 2 0x2C10) = true := by
  decide +kernel

theorem test_ctrl_retrain : gives (.ctrlRetrainReq 2000 2 (hd 1) 3) (link2 3) (heardOk (link2 3) (hd 1) false)
    (fun n => n.fsm .culvert 2 == 4 && tells n .culvert 2 0x2C11) = true := by decide +kernel

theorem test_ctrl_spare_req : gives (.ctrlSpareReq 2000 2 (hd 1) 1) (link2 3) (!(link2 3).flag Reg.Culvert.SPARE_USED_TX 2)
    (fun n => ((n.link 2).txSwitch.map fun w => (w.lane, w.back)) == some (1, false) && (n.link 2).ctrlQ.map (fun c => (c.op, c.a)) == [(5, 1)]) = true := by decide +kernel

theorem test_ctrl_spareback_req : gives (.ctrlSparebackReq 2000 2 (hd 1) 1) (sets (link2 3) [(Reg.Culvert.SPARE_USED_TX, 1, 2, 0)]) true
    (fun n => ((n.link 2).txSwitch.map fun w => (w.lane, w.back)) == some (1, true) && (n.link 2).ctrlQ.map (fun c => (c.op, c.a)) == [(8, 1)]) = true := by decide +kernel

theorem test_ctrl_spare_ack : gives (.ctrlSpareAck 2000 2 (hd 1) 1 77) (linked 3 fun x => { x with rxSwitch := some ⟨1, 0, false⟩ }) true
    (fun n => (n.link 2).rxSwitch == some ⟨1, 77, false⟩) = true := by decide +kernel

theorem test_ctrl_spareback_ack : gives (.ctrlSparebackAck 2000 2 (hd 1) 1 77) (linked 3 fun x => { x with rxSwitch := some ⟨1, 0, true⟩ }) true
    (fun n => (n.link 2).rxSwitch == some ⟨1, 77, true⟩) = true := by decide +kernel

theorem test_ctrl_spare_done :
    let m := sets (linked 3 fun x => { x with txSwitch := some ⟨1, 5, false⟩ }) [(Reg.Culvert.SPARE_USED_TX, 1, 2, 0)]
    gives (.ctrlSpareDone 2000 2 (hd 1) 1) m true (fun n => (n.link 2).txSwitch == none && tells n .culvert 2 0x2C12) = true := by decide +kernel

theorem test_ctrl_key_switch : gives (.ctrlKeySwitch 2000 2 (hd 1) 9 1) (link2 3) (heardOk (link2 3) (hd 1) false)
    (fun n => n.rd Reg.Culvert.KEY_PHASE_RX 2 == 1 && (n.link 2).switchRx == some 9 && tells n .culvert 2 0x2C19) = true := by decide +kernel

theorem test_ctrl_broken : gives (.ctrlBroken 2000 2 (hd 1) 5) (link2 3) true
    (fun n => n.fsm .culvert 2 == 5 && n.rd Reg.Culvert.BROKEN_CAUSE 2 == 5 && n.rd Reg.Culvert.PAYLOAD_MBPS 2 == 0) = true := by decide +kernel

theorem test_ctrl_hello : gives (.ctrlHello 2000 2 (hd 1) 0xABC 3 false) (link2 1) (heardOk (link2 1) (hd 1) false)
    (fun n => (n.link 2).peerSerial == 0xABC && !(n.link 2).peerSpare) = true := by decide +kernel

theorem test_nak_retry : gives (.nakRetryTimeout 900000 2) (linked 3 fun x => { x with nak := some 0 }) ((link2 3).rd Reg.Culvert.NAK_RETRY_NS 2 ≤ 900000)
    (fun n => n.rd Reg.Culvert.NAKS_SENT 2 == 1 && (n.link 2).nak == some 900000) = true := by decide +kernel

theorem test_at_cap : gives (.atCapTimeout (2 ^ 40) 2) (sets (link2 3) [(Reg.Culvert.AT_CAP, 1, 2, 0)]) ((link2 3).act Reg.Turnout.CRED_TIMEOUT_US * 1000 < 2 ^ 40)
    (fun n => n.fsm .culvert 2 == 5 && n.rd Reg.Culvert.BROKEN_CAUSE 2 == 2) = true := by decide +kernel

theorem test_lane_fine : gives (.laneDegraded 2000 2 1 0 false) (link2 3) true (fun n => n.rd Reg.Culvert.LANE_CORR 2 1 == 0 && !n.flag Reg.Culvert.LANE_DEGRADED 2 1) = true := by
  decide +kernel

/-- R339: the receiver asks for the spare in the place of lane 1. -/
theorem test_lane_degraded : gives (.laneDegraded 2000 2 1 (2 ^ 23) false) (link2 3) ((link2 3).rd Reg.Culvert.SPARE_THRESH 2 < 2 ^ 23)
    (fun n => n.flag Reg.Culvert.LANE_DEGRADED 2 1 && (n.link 2).rxSwitch == some ⟨1, 0, false⟩ && (n.link 2).ctrlQ == [{ op := 4, a := 1 }]) = true := by decide +kernel

theorem test_spare_degraded : gives (.laneDegraded 2000 2 4 (2 ^ 23) false) (link2 3)
    (!(mapLanes ((link2 3).rd Reg.Culvert.WIDTH 2) ((link2 3).rd Reg.Culvert.RX_MAP 2)).contains 4 && ((link2 3).link 2).rxSwitch.isNone)
    (fun n => n.flag Reg.Culvert.LANE_DEGRADED 2 4 && n.fsm .culvert 2 == 3) = true := by decide +kernel

/-- R339: S carries logical lane 1 once the pair is reached. -/
theorem test_spare_switch_rx : gives (.spareSwitch 2000 2 true) (linked 3 fun x => { x with rxSwitch := some ⟨1, 9, false⟩ }) true
    (fun n => n.rd Reg.Culvert.RX_MAP 2 == 1672 + 3 * 8 && n.flag Reg.Culvert.SPARE_USED_RX 2 && n.flag Reg.Culvert.LANE_RETIRED 2 1) = true := by decide +kernel

theorem test_spare_switch_tx : gives (.spareSwitch 2000 2 false) (linked 3 fun x => { x with txSwitch := some ⟨1, 9, false⟩ }) (!(link2 3).flag Reg.Culvert.SPARE_USED_TX 2)
    (fun n => n.rd Reg.Culvert.TX_MAP 2 == 1672 + 3 * 8 && n.flag Reg.Culvert.SPARE_USED_TX 2) = true := by decide +kernel

theorem test_spareback :
    let m := sets (link2 3) [(Reg.Culvert.SPAREBACK_EN, 1, 2, 0), (Reg.Culvert.SPARE_USED_RX, 1, 2, 0), (Reg.Culvert.LANE_RETIRED, 1, 2, 1)]
    gives (.sparebackQualified 2000 2 1) m ((m.link 2).rxSwitch.isNone) (fun n => (n.link 2).rxSwitch == some ⟨1, 0, true⟩) = true := by decide +kernel

theorem test_alignment_loss : gives (.pairAlignmentLoss 2000 2) (link2 3) true
    (fun n => n.fsm .culvert 2 == 4 && n.rd Reg.Culvert.RETRAINS 2 == 1 && tells n .culvert 2 0x2C11) = true := by decide +kernel

theorem test_retrain_ready : gives (.retrainLanesReady 2000 2 [0, 1, 2, 3] [0, 1, 3, 4]) (link2 4) (!((link2 4).link 2).ready && ((link2 4).chooseLanes 2 [0, 1, 2, 3] [0, 1, 3, 4]).2)
    (fun _ => true) = true := by decide +kernel

/-- R321, R341: S stands in the place of the lane that is not usable; two lanes are the least. -/
theorem test_lane_choice : laneMap (laneChoice false [0, 1, 3, 4]) = 0 + 1 * 8 + 4 * 64 + 3 * 512 ∧ laneChoice true [0, 1, 2, 3] = [3, 2, 1, 0] ∧
    laneChoice false [3, 4, 0] = [3, 4] ∧ laneChoice false [2] = [] := by decide +kernel

theorem test_retrain_fails : gives (.retrainLanesReady 2000 2 [0] [0, 1, 3, 4]) (link2 4) (!((link2 4).chooseLanes 2 [0] [0, 1, 3, 4]).2)
    (fun n => n.fsm .culvert 2 == 5 && n.rd Reg.Culvert.BROKEN_CAUSE 2 == 6) = true := by decide +kernel

theorem test_retrain_timeout : gives (.retrainTimeout 3000000 2) (link2 4) (1 < (link2 4).rd Reg.Culvert.RETRAIN_MAX 2)
    (fun n => n.fsm .culvert 2 == 4 && (n.link 2).retrainAt == 3000000 && n.rd Reg.Culvert.RETRAIN_FAIL_RUN 2 == 1) = true := by decide +kernel

theorem test_restart_timer : gives (.restartTimer 5000000 2) (sets (link2 5) [(Reg.Culvert.RESTART_MS, 5, 2, 0)]) true (fun n => n.fsm .culvert 2 == 1) = true := by
  decide +kernel

theorem test_culvert_trained : gives (.culvertTrainingDone 2000 2 [0, 1, 2, 3] [0, 1, 2, 3]) (link2 1) ((link2 1).chooseLanes 2 [0, 1, 2, 3] [0, 1, 2, 3]).2
    (fun _ => true) = true := by decide +kernel

theorem test_culvert_keyed : gives (.culvertKeyingDone 2000 2) (linked 2 fun x => { x with keyed := true }) true
    (fun n => n.fsm .culvert 2 == 3 && n.rd Reg.Culvert.PAYLOAD_MBPS 2 == widthMbps 4 && tells n .culvert 2 0x2C10) = true := by decide +kernel

theorem test_link_key_ready : gives (.linkKeyReady 2000 2) (linked 3 fun x => { x with rekeyRun := true }) true (fun n => !(n.link 2).rekeyRun) = true := by decide +kernel

theorem test_link_rekey_due : gives (.linkRekeyDue 43200000000000 2) (link2 3) (!(link2 3).coreAway && (link2 3).act Reg.Turnout.LINK_REKEY_S * 1000000000 ≤ 43200000000000)
    (fun n => (n.link 2).queue.length == 1) = true := by decide +kernel

theorem test_culvert_retrain : gives (.culvertRetrain 2000 5 2) (link2 3) true (fun n => n.fsm .culvert 2 == 4 && tells n .culvert 2 0x2C11) = true := by decide +kernel

theorem test_culvert_restart : gives (.culvertRestart 2000 5 2) (link2 5) ((link2 5).enabled .culvert 2) (fun n => n.fsm .culvert 2 == 1 && (n.link 2).helloSent) = true := by
  decide +kernel

theorem test_culvert_disable : gives (.culvertDisable 2000 5 2) (link2 3) (!(link2 3).halted .culvert 2)
    (fun n => n.fsm .culvert 2 == 5 && n.rd Reg.Culvert.BROKEN_CAUSE 2 == 7 && !n.enabled .culvert 2) = true := by decide +kernel

/-! ### The fabric -/

/-- Links 0 and 1 UP, the Turnout FSM at a state, this device's serial number 50. -/
def fab (st : Nat) : Mach := sets { up0 with serial := 50 } [(Reg.Hdr.FSM .culvert, 3, 0, 0), (Reg.Hdr.FSM .culvert, 3, 1, 0), (Reg.Hdr.FSM .turnout, st, 0, 0)]

/-- A message of serial number 60 waits, from link 0. -/
def told0 (st : Nat) (msg : Mgmt) : Mach := (fab st).modTurn fun x => { x with mgmt := [(0, msg, 60, 1)] }

/-- The same on a member with ID 9. -/
def member (st : Nat) (msg : Mgmt) : Mach := sets (told0 st msg) [(Reg.Turnout.MY_ID, 9, 0, 0), (Reg.Turnout.ID_VALID, 1, 0, 0)]

/-- R349: the better claim is kept and forwarded on the other link. -/
theorem test_claim_better :
    let m := (told0 1 (.claim 60 3 7)).modTurn fun x => { x with best := some ⟨50, 2, 0, none⟩ }
    gives (.mgmtClaim 2000) m (!m.coreAway && !m.turn.seen.contains (60, 1))
      (fun n => n.turn.best == some ⟨60, 3, 7, some 0⟩ && n.turn.mgmt == [] && n.turn.seen == [(60, 1)] && (n.link 1).queue.length == 1 && (n.link 0).queue == []) = true := by
  decide +kernel

theorem test_claim_first : gives (.mgmtClaim 2000) (told0 1 (.claim 60 3 7)) true (fun n => n.turn.best == some ⟨60, 3, 7, some 0⟩) = true := by decide +kernel

theorem test_claim_seen : gives (.mgmtClaim 2000) ((told0 1 (.claim 60 3 7)).modTurn fun x => { x with seen := [(60, 1)] }) true
    (fun n => n.turn.best.isNone && n.turn.mgmt == [] && (n.link 1).queue == []) = true := by decide +kernel

theorem test_id_req :
    let m := sets (member 3 (.idReq 60 9)) [(Reg.Turnout.IS_ROOT, 1, 0, 0)]
    let m := m.modTurn fun x => { x with table := [⟨9, 50, false⟩] }
    gives (.mgmtIdReq 2000) m (m.grantFor 60 9 == some 0)
      (fun n => n.turn.table == [⟨9, 50, false⟩, ⟨0, 60, false⟩] &&
        ((n.link 0).queue.getLast?.bind fun u => u.mgmt.map fun g => g.1) == some (.idGrant 60 0 (m.rd Reg.Turnout.FAB_EPOCH))) = true := by decide +kernel

theorem test_id_grant : gives (.mgmtIdGrant 2000) (told0 1 (.idGrant 50 9 4)) true
    (fun n => n.rd Reg.Turnout.MY_ID == 9 && n.flag Reg.Turnout.ID_VALID && n.fsm .turnout == 2 && n.pathUse 9 == 3 && tells n .turnout 0 0x3010) = true := by decide +kernel

theorem test_id_table : gives (.mgmtIdTable 2000) ((member 2 (.idTable [⟨9, 50, false⟩, ⟨3, 60, false⟩])).modTurn fun x => { x with table := [⟨3, 70, true⟩, ⟨4, 80, false⟩] }) true
    (fun n => n.turn.table == [⟨4, 80, false⟩, ⟨9, 50, false⟩, ⟨3, 60, false⟩] && n.fsm .turnout == 2) = true := by decide +kernel

/-- R351: the root's table holds this device's ID for another serial number. -/
theorem test_id_conflict : gives (.mgmtIdTable 2000) (member 2 (.idTable [⟨9, 70, false⟩])) (!(member 2 (.idTable [⟨9, 70, false⟩])).flag Reg.Turnout.IS_ROOT)
    (fun n => n.fsm .turnout == 4 && !n.flag Reg.Turnout.ID_VALID && tells n .turnout 0 0x3017) = true := by decide +kernel

theorem test_mgmt_links : gives (.mgmtLinkState 2000) (member 2 (.linkState 3 [(0, 9, 4)])) true (fun n => Tbl.find n.turn.lsdb 3 == some [(0, 9, 4)] && n.rd Reg.Turnout.LSDB_MSGS == 1) = true := by
  decide +kernel

theorem test_mgmt_leave : gives (.mgmtLeave 2000) ((member 2 (.leave 3 1)).modTurn fun x => { x with table := [⟨3, 60, false⟩], lsdb := [(3, [])] }) true
    (fun n => n.turn.lsdb == [] && n.turn.table == [⟨3, 60, true⟩] && n.turn.seen == [(60, 1)]) = true := by decide +kernel

/-- Link 0 is KEYING. -/
def keying (msg : Mgmt) : Mach := sets (told0 0 msg) [(Reg.Hdr.FSM .culvert, 2, 0, 0)]

theorem test_spdm_last : gives (.mgmtSpdm 2000) (keying (.spdm true true 0)) true (fun n => (n.link 0).keyed) = true := by decide +kernel
theorem test_spdm_first : gives (.mgmtSpdm 2000) (keying (.spdm false true 0)) true (fun n => !(n.link 0).keyed && (n.link 0).queue.length == 1) = true := by decide +kernel
theorem test_spdm_fails : gives (.mgmtSpdm 2000) (keying (.spdm true false 5)) true
    (fun n => !(n.link 0).keyed && n.rd Reg.Turnout.KEY_FAILS == 1 && Tbl.find n.turn.keyFail 0 == some 2000 && tells n .turnout 0 0x301C) = true := by decide +kernel

theorem test_key_update : gives (.mgmtKeyUpdate 2000) (told0 0 (.keyUpdate true)) true (fun n => (n.link 0).rekeyRun) = true := by decide +kernel

theorem test_claim_periodic : gives (.claimPeriodic 2000) ((fab 1).modTurn fun x => { x with best := some ⟨50, 4, 0, none⟩ }) true
    (fun n => (n.link 0).queue.length == 1 && (n.link 1).queue.length == 1) = true := by decide +kernel

/-- R349, R350: the device's own claim has stood for 20 ms: it is the root, with the preferred ID. -/
theorem test_settle_root :
    let m := sets ((fab 1).modTurn fun x => { x with best := some ⟨50, 4, 0, none⟩, topEpoch := 6 }) [(Reg.Turnout.PREF_ID, 12, 0, 0)]
    gives (.electionSettle 20000000) m (!m.turn.settled)
      (fun n => n.flag Reg.Turnout.IS_ROOT && n.fsm .turnout == 3 && n.rd Reg.Turnout.FAB_EPOCH == 7 && n.rd Reg.Turnout.MY_ID == 12 && n.rd Reg.Turnout.ROOT_ID == 12 &&
        tells n .turnout 0 0x3011) = true := by decide +kernel

theorem test_settle_member :
    let m := sets ((fab 1).modTurn fun x => { x with best := some ⟨60, 3, 7, some 0⟩ }) [(Reg.Turnout.MY_ID, 9, 0, 0), (Reg.Turnout.ID_VALID, 1, 0, 0)]
    gives (.electionSettle 20000000) m true (fun n => !n.flag Reg.Turnout.IS_ROOT && n.fsm .turnout == 2 && n.rd Reg.Turnout.FAB_EPOCH == 7) = true := by decide +kernel

theorem test_settle_none : gives (.electionSettle 20000000) (fab 1) ((fab 1).turn.best.isNone) (fun n => n.fsm .turnout == 0 && tells n .turnout 0 0x3016) = true := by decide +kernel

theorem test_links_periodic : gives (.linkStatePeriodic 2000) (sets (fab 2) [(Reg.Turnout.MY_ID, 9, 0, 0), (Reg.Turnout.ID_VALID, 1, 0, 0)]) true
    (fun n => Tbl.find n.turn.lsdb 9 == some [] && (n.link 1).queue.length == 1) = true := by decide +kernel

theorem test_hold_expiry : gives (.idHoldExpiry 2000 3) ((fab 2).modTurn fun x => { x with table := [⟨3, 60, true⟩, ⟨4, 70, false⟩], holds := [⟨3, 1500⟩] }) true
    (fun n => n.turn.table == [⟨4, 70, false⟩] && n.turn.holds == []) = true := by decide +kernel

theorem test_keying_retry : gives (.keyingRetry 1000002000 0) (sets ((fab 0).modTurn fun x => { x with keyFail := [(0, 2000)] }) [(Reg.Hdr.FSM .culvert, 2, 0, 0)]) true
    (fun n => n.turn.keyFail == [] && (n.link 0).queue.length == 1) = true := by decide +kernel

/-- R355: device 3 lies behind link 0, both directions of the edge recorded. -/
theorem test_route_recompute :
    let m := sets (((fab 2).modTurn fun x => { x with table := [⟨9, 50, false⟩, ⟨3, 60, false⟩], lsdb := [(3, [(5, 9, 4)]), (9, [(0, 3, 4)])] }).modLink 0 fun x => { x with peerSerial := 60 })
      [(Reg.Turnout.MY_ID, 9, 0, 0), (Reg.Turnout.ID_VALID, 1, 0, 0), (Reg.Turnout.AUTO_ROUTE, 1, 0, 0)]
    gives (.routeRecompute 2000) m (!m.pagePending ⟨.turnout, 0⟩) (fun n => tells n .turnout 0 0x301B && n.rd Reg.Turnout.ROUTE 0 3 % 16 == 8) = true := by decide +kernel

theorem test_fabric_leave : gives (.fabricLeave 2000 5) (sets (fab 2) [(Reg.Turnout.MY_ID, 9, 0, 0), (Reg.Turnout.ID_VALID, 1, 0, 0)]) true
    (fun n => !n.enabled .turnout && n.fsm .turnout == 0 && !n.flag Reg.Turnout.ID_VALID && (n.link 0).queue.length == 1) = true := by decide +kernel

/-! ### Units and flows -/

/-- Device 9 of a fabric: device 3 is reached over link 0, and a unit has arrived on link 1. -/
def got (u : FUnit) : Mach :=
  let m := served (sets (fab 2) [(Reg.Turnout.MY_ID, 9, 0, 0), (Reg.Turnout.ID_VALID, 1, 0, 0), (Reg.Turnout.PATH_USE_LO, 4 ^ 3 + 3 * 4 ^ 9, 0, 0), (Reg.Turnout.ROUTE.act, 8, 0, 3),
    (Reg.Turnout.REACH_MASK, 2 ^ 3 + 2 ^ 9, 0, 0)])
  (m.modLink 1 fun x => { x with arr := [u] }).setRx 3 0 { known := true, next := 7, granted := 4 }

/-- A request unit of device 3 that is next in its flow. -/
def rd7 : FUnit := { utype := 1, src := 3, dst := 9, fseq := 7, line := 4, xid := 5 }

theorem test_unit_rd : gives (.unitRd 2000 1) (got rd7) true
    (fun n => n.turn.buf == [⟨rd7, 2000⟩] && (n.rxFlow 3 0).next == 8 && (n.rxFlow 3 0).held == 1 && n.rd Reg.Turnout.RX_USED == 1) = true := by decide +kernel

theorem test_unit_wr : gives (.unitWr 2000 1) (got { rd7 with utype := 2 }) true (fun n => n.turn.buf.length == 1) = true := by decide +kernel
theorem test_unit_wrp : gives (.unitWrp 2000 1) (got { rd7 with utype := 3 }) true (fun n => n.turn.buf.length == 1) = true := by decide +kernel

/-- R361: a duplicate is discarded and acknowledged again, a gap is discarded. -/
theorem test_unit_duplicate : gives (.unitRd 2000 1) (got { rd7 with fseq := 6 }) true
    (fun n => n.turn.buf == [] && n.rd Reg.Turnout.DUP_UNITS == 1 && (n.link 0).queue.map (fun u => u.utype) == [7]) = true := by decide +kernel

theorem test_unit_gap : gives (.unitRd 2000 1) (got { rd7 with fseq := 8 }) true (fun n => n.turn.buf == [] && n.rd Reg.Turnout.GAP_UNITS == 1) = true := by decide +kernel

/-- A host read of a line of device 3 waits at tag 5 of port A. -/
def asking (u : FUnit) (op : MemOp) : Mach :=
  ((got u).setTag 0 5 { st := .accepted, op := op, line := 4, order := 1, deadline := 900000, hostTag := 77, guar := true }).owe 3 0 5

theorem test_unit_rdrsp :
    let u : FUnit := { rd7 with utype := 4, data := 99, lc := unitLc 99 4 }
    gives (.unitRdrsp 2000 1) (asking u .memRd) (((asking u .memRd).paid u).2 && ((asking u .memRd).xidTag 5).isSome)
      (fun n => (n.tag? 0 5).map (fun x => (x.st, x.resp)) == some (.responding, some (.memData 99 false 0))) = true := by decide +kernel

theorem test_unit_rdrsp_code :
    let u : FUnit := { rd7 with utype := 4, data := 99, code := 2 }
    gives (.unitRdrsp 2000 1) (asking u .memRd) true (fun n => (n.tag? 0 5).map (fun x => x.resp) == some (some (.memData 99 true 0))) = true := by decide +kernel

theorem test_unit_rdrsp_check :
    let u : FUnit := { rd7 with utype := 4, data := 99, lc := unitLc 98 4 }
    gives (.unitRdrsp 2000 1) (asking u .memRd) (unitLc 99 4 != unitLc 98 4) (fun n => n.rd Reg.Levee.INTERNAL_FAILS == 1 && (n.tag? 0 5).map (fun x => x.resp) == some (some poisonData)) = true := by
  decide +kernel

theorem test_unit_wrcmp :
    let u : FUnit := { rd7 with utype := 5 }
    gives (.unitWrcmp 2000 1) (asking u .memWr) (((asking u .memWr).paid u).2) (fun n => (n.tag? 0 5).map (fun x => x.point) == some true) = true := by decide +kernel

theorem test_unit_demote :
    let m := asking { rd7 with utype := 6 } .memRd
    gives (.unitDemote 2000 1) m ((m.tag? 0 5).map (fun x => decide (2000 ≤ m.egressLimit 0 x)) == some true) (fun n => n.rd Reg.Headgate.DEMOTED 0 == 1) = true := by decide +kernel

theorem test_unit_fack :
    let m := (got { rd7 with utype := 7, fack := 4, fackV := true, credRet := 2 }).setTx 3 0 { st := 1, next := 6, acked := 2, out := 3, cred := 1, held := [rd7, rd7, rd7] }
    gives (.unitFack 2000 1) m true (fun n => (n.txFlow 3 0).acked == 4 && (n.txFlow 3 0).held.length == 1 && (n.txFlow 3 0).cred == 3 && (n.txFlow 3 0).out == 1) = true := by decide +kernel

theorem test_unit_resync :
    let m := (got { rd7 with utype := 8 }).modTurn fun x => { x with slots := [3] }
    gives (.unitResync 2000 1) m (m.turn.slots.contains 3)
      (fun n => (n.rxFlow 3 0).known && (n.rxFlow 3 0).next == 7 && (n.rxFlow 3 0).granted == m.act Reg.Turnout.CRED 0 0 && (n.link 0).queue.map (fun u => (u.utype, u.fseq)) == [(9, 7)]) = true := by
  decide +kernel

/-- R365: the units that the owner has not are sent again, in order. -/
theorem test_unit_resync_ack :
    let m := (got { rd7 with utype := 9, fseq := 4, credRet := 5 }).setTx 3 0 { st := 2, next := 6, acked := 2, epoch := 5, held := [{ rd7 with fseq := 3 }, { rd7 with fseq := 4 }, { rd7 with fseq := 5 }] }
    gives (.unitResyncAck 2000 1) m true
      (fun n => (n.txFlow 3 0).st == 1 && (n.txFlow 3 0).acked == 3 && (n.txFlow 3 0).held.map (fun u => (u.fseq, u.replay)) == [(4, true), (5, true)] && (n.txFlow 3 0).cred == 3) = true := by
  decide +kernel

theorem test_unit_bad : gives (.unitBad 2000 1) (got { rd7 with utype := 13 }) true (fun n => n.rd Reg.Turnout.BAD_UNITS == 1 && (n.link 1).arr == []) = true := by decide +kernel

theorem test_unit_transit : gives (.unitTransit 2000 1) (got { rd7 with dst := 3, hops := 2 }) ((got rd7).pathLink 3 == some 0)
    (fun n => (n.link 0).transit == [{ rd7 with dst := 3, hops := 3 }] && n.rd Reg.Turnout.UNITS_FWD == 1) = true := by decide +kernel

/-- The read unit waits in the receive buffer of a device that serves it. -/
def buffered (u : FUnit) : Mach :=
  let m := (got u).modSt fun s => { s with tracts := [(0, 1)], home := [(0, {})], frames := [(0, { role := 1 })] }
  let m := m.modLink 1 fun x => { x with arr := [] }
  sets (m.modTurn fun x => { x with buf := [⟨u, 1900⟩] }) [(Reg.Weir.BE_LEFT, 100, 0, 0), (poolField false, 100, 0, 0), (poolField true, 100, 0, 0)]

theorem test_fabric_release : gives (.fabricRelease 2000 3 0) (buffered rd7)
    ((buffered rd7).poolOpen (unitTag rd7 1900) && ((buffered rd7).newTag 4).isSome && !(buffered rd7).tractHeld 4)
    (fun n => n.turn.buf == [] && ((n.tag? 4 0).map fun x => (x.st, x.src, x.xid, x.line)) == some (.accepted, 3, 5, 4)) = true := by decide +kernel

theorem test_owner_deadline :
    let m := (got rd7).setTag 4 0 { st := .accepted, op := .memRd, line := 4, order := 1, deadline := 1500, src := 3, xid := 5 }
    gives (.ownerDeadline 2000 0) m true (fun n => (n.link 0).queue.map (fun u => (u.utype, u.code, u.xid)) == [(4, 1, 5)] || (n.txFlow 3 0).wait.map (fun u => (u.utype, u.code)) == [(4, 1)]) = true := by
  decide +kernel

theorem test_fack_timer : gives (.fackTimer 900000 3 0) ((got rd7).setRx 3 0 { known := true, next := 8, due := some 0 }) ((got rd7).rd Reg.Turnout.FACK_NS ≤ 900000)
    (fun n => (n.link 0).queue.map (fun u => (u.utype, u.dst, u.fack)) == [(7, 3, 7)]) = true := by decide +kernel

/-- A flow to device 3 with credits out. -/
def owing (st : Nat) : Mach := (got rd7).setTx 3 0 { st := st, next := 6, acked := 2, out := 3, epoch := 4, held := [rd7] }

theorem test_cred_timeout : gives (.credTimeout (2 ^ 40) 3 0) (owing 1) ((owing 1).act Reg.Turnout.CRED_TIMEOUT_US * 1000 ≤ 2 ^ 40)
    (fun n => (n.txFlow 3 0).timeouts == 1 && n.rd Reg.Turnout.CRED_TIMEOUTS == 1 && tells n .turnout 0 0x3015 && n.pathUse 3 == 0) = true := by decide +kernel

theorem test_resync_timeout : gives (.resyncAckTimeout (2 ^ 40) 3 0) (owing 2) true (fun n => n.pathUse 3 == 0 && tells n .turnout 0 0x3014 && tells n .turnout 0 0x3013) = true := by decide +kernel

/-- R361: the flow numbers its units modulo 2^32. -/
theorem test_pump_wraps :
    let m := (got rd7).setTx 3 0 { st := 1, next := 2 ^ 32 - 1, acked := 2 ^ 32 - 2, cred := 1, wait := [rd7] }
    ((m.pump 3 0 1).txFlow 3 0).next = 0 ∧ ((m.pump 3 0 1).txFlow 3 0).held.map (fun u => u.fseq) = [2 ^ 32 - 1] := by decide +kernel

/-- R350: a member passes a request for an ID on towards the root. -/
theorem test_id_req_passed :
    let m := (member 2 (.idReq 60 9)).modTurn fun x => { x with best := some ⟨70, 3, 7, some 1⟩ }
    gives (.mgmtIdReq 2000) m (!m.flag Reg.Turnout.IS_ROOT && (m.turn.best.bind fun b => b.link) == some 1)
      (fun n => n.turn.back == [(60, 0)] && (n.link 1).queue.length == 1) = true := by decide +kernel

/-- R350: a grant for another device goes back along its request's path. -/
theorem test_id_grant_passed :
    let m := (told0 2 (.idGrant 60 9 4)).modTurn fun x => { x with back := [(60, 1)] }
    gives (.mgmtIdGrant 2000) m (m.serial != 60) (fun n => n.turn.back == [] && (n.link 1).queue.length == 1 && !n.flag Reg.Turnout.ID_VALID) = true := by decide +kernel

/-- R349: the root is another device, and this one has no ID yet. -/
theorem test_settle_joining :
    let m := (fab 1).modTurn fun x => { x with best := some ⟨60, 3, 7, some 0⟩ }
    gives (.electionSettle 20000000) m (!m.flag Reg.Turnout.ID_VALID && !m.turn.settled) (fun n => n.fsm .turnout == 1 && !n.flag Reg.Turnout.IS_ROOT) = true := by decide +kernel

/-- R349: while the Turnout is ALONE a claim is only noted. -/
theorem test_claim_alone : gives (.mgmtClaim 2000) (told0 0 (.claim 60 3 7)) ((told0 0 (.claim 60 3 7)).fsm .turnout == 0)
    (fun n => n.turn.mgmt == [] && n.turn.seen == [(60, 1)]) = true := by decide +kernel

/-- R364: a source without a slot gets one while there is room, and no credits where there is none. -/
theorem test_resync_slot : gives (.unitResync 2000 1) (sets (got { rd7 with utype := 8 }) [(Reg.Turnout.SRC_MAX.act, 2, 0, 0)])
    ((got { rd7 with utype := 8 }).turn.slots == []) (fun n => n.turn.slots == [3]) = true := by decide +kernel

theorem test_resync_refused : gives (.unitResync 2000 1) (sets (got { rd7 with utype := 8 }) [(Reg.Turnout.SRC_MAX.act, 0, 0, 0)]) true
    (fun n => (n.rxFlow 3 0).granted == 0 && tells n .turnout 0 0x3018) = true := by decide +kernel

/-- R365: an answer to an earlier RESYNC is ignored. -/
theorem test_resync_ack_old :
    let m := (got { rd7 with utype := 9, credRet := 5 }).setTx 3 0 { st := 2, next := 6, acked := 2, epoch := 6 }
    gives (.unitResyncAck 2000 1) m true (fun n => (n.txFlow 3 0).st == 2) = true := by decide +kernel

/-- R357: a unit for a device without a path is dropped, and one at its 15th hop. -/
theorem test_transit_no_path : gives (.unitTransit 2000 1) (got { rd7 with dst := 5, hops := 2 }) ((got rd7).pathLink 5).isNone
    (fun n => (n.link 1).arr == [] && (n.link 0).transit == []) = true := by decide +kernel

theorem test_transit_hops : gives (.unitTransit 2000 1) (got { rd7 with dst := 3, hops := 15 }) true
    (fun n => (n.link 1).arr == [] && tells n .turnout 0 0x301A) = true := by decide +kernel

/-- R362: a response without its transaction is late. -/
theorem test_late_response :
    let m := (got { rd7 with utype := 4 }).setTag 0 5 { st := .accepted, op := .memWr, line := 4, order := 1 }
    gives (.unitRdrsp 2000 1) m ((m.xidTag 5).isSome) (fun n => n.rd Reg.Turnout.LATE_RESP == 1) = true := by decide +kernel

/-! ### Shared regions -/

/-- The back half of a COHENCE unit: the operation, the right, the port, the region. -/
def coh (op right port region : Nat) : FUnit := { rd7 with utype := 12, be := op + right * 2 ^ 8 + port * 2 ^ 16 + region * 2 ^ 24, lc := unitLc 0 4 }

/-- Region 2 is HOME at a state, its members port A and port B of device 3; a unit has arrived. -/
def home (st : Nat) (u : FUnit) : Mach := sets (got u) [(Reg.Shared.ROLE.act, 1, 0, 2), (Reg.Shared.REG_STATE, st, 0, 2), (Reg.Shared.MEMBER.act, 1, 0, 32),
  (Reg.Shared.MEMBER.act, 1 + 2 + 3 * 4 + 256, 0, 33)]

/-- Region 5 is PROXY of region 2 of device 3, for port A; tract 0 is REMOTE there. -/
def proxy (st : Nat) (u : FUnit) : Mach := sets (got u) [(Reg.Shared.ROLE.act, 2, 0, 5), (Reg.Shared.REG_STATE, st, 0, 5), (Reg.Shared.HOME_ID.act, 3, 0, 5), (Reg.Shared.HOME_REGION.act, 2, 0, 5),
  (Reg.Shared.PORTS.act, 1, 0, 5)]

theorem test_coh_crd : gives (.cohCrd 2000 1) (home 2 (coh 1 2 1 2)) true (fun n => n.turn.buf == [⟨coh 1 2 1 2, 2000⟩] && (n.rxFlow 3 0).next == 8) = true := by decide +kernel

/-- R380: the member gives its right up, and the entry is FREE. -/
theorem test_coh_evict : gives (.cohEvict 2000 1) ((home 2 (coh 2 0 1 2)).modShared fun x => { x with dir := [(4, { state := 2, region := 2, holders := 2, own := true })] }) true
    (fun n => n.shared.dir == []) = true := by decide +kernel

/-- R389: the snoop of a port that is down is answered at once. -/
theorem test_coh_bisnp : gives (.cohBisnp 2000 1) (proxy 2 (coh 3 2 1 2)) (!(proxy 2 (coh 3 2 1 2)).flag Reg.HostPort.DL_UP 1)
    (fun n => ((n.link 0).queue ++ (n.txFlow 3 0).wait).any fun u => u.utype == 12 && u.be % 256 == 4 || u.utype == 8) = true := by decide +kernel

theorem test_coh_birsp :
    let m := (home 2 (coh 4 2 1 2)).modShared fun x => { x with dir := [(4, { state := 3, region := 2, holders := 2, own := true })], snoops := [⟨4, 1, 2, true, 1500, true⟩] }
    gives (.cohBirsp 2000 1) m true (fun n => n.shared.snoops == [] && n.shared.dir == []) = true := by decide +kernel

/-- R392: an answer that no snoop asked for is a protocol error. -/
theorem test_coh_birsp_error : gives (.cohBirsp 2000 1) (home 2 (coh 4 2 1 2)) true (fun n => tells n .shared 0 0x3414 && tells n .shared 0 0x3411 && (n.reg 2).cause == 3) = true := by
  decide +kernel

/-- A host request of port A at this proxy. -/
def sharing (u : FUnit) (op : MemOp) : Mach :=
  (proxy 2 u).setTag 0 5 { st := .accepted, op := op, line := 4, order := 1, deadline := 900000, coh := some { region := 5, member := 0, right := 2 } }

theorem test_coh_grant_read :
    let u := { coh 5 1 0 2 with data := 99, lc := unitLc 99 4, be := 5 + 1 * 2 ^ 8 + 2 * 2 ^ 24 + 2 ^ 32 }
    gives (.cohGrant 2000 1) (sharing u .memRd) true (fun n => (n.tag? 0 5).map (fun x => x.resp) == some (some (.memData 99 false 1))) = true := by decide +kernel

theorem test_coh_grant_inv : gives (.cohGrant 2000 1) (sharing (coh 5 2 0 2) .memInv) ((coh 5 2 0 2).lc == unitLc (coh 5 2 0 2).data 4)
    (fun n => (n.tag? 0 5).map (fun x => x.resp) == some (some .cmpE)) = true := by decide +kernel

theorem test_coh_grant_write : gives (.cohGrant 2000 1) (sharing (coh 5 2 0 2) .memWr) true
    (fun n => (n.tag? 0 5).map (fun x => x.coh.map fun c => c.granted) == some (some true)) = true := by decide +kernel

theorem test_coh_agent_down : gives (.cohAgentDown 2000 1) (home 2 (coh 6 0 1 2)) ((home 2 (coh 6 0 1 2)).cohMember (unitCoh (coh 6 0 1 2)) == some 1)
    (fun n => n.regState 2 == 4 && (n.reg 2).cause == 4 && (n.reg 2).agent == 1 && tells n .shared 0 0x3411 && tells n .shared 0 0x3412) = true := by decide +kernel

theorem test_coh_fence : gives (.cohFence 2000 1) (proxy 2 (coh 7 0 0 2)) ((proxy 2 (coh 7 0 0 2)).proxyRegion 3 2 == some 5)
    (fun n => n.regState 5 == 4 && (n.reg 5).cause == 7) = true := by decide +kernel

theorem test_coh_ready : gives (.cohReady 2000 1) (proxy 1 (coh 8 0 0 2)) ((proxy 1 (coh 8 0 0 2)).regRole 2 != 1)
    (fun n => n.regState 5 == 2 && tells n .shared 0 0x3410) = true := by decide +kernel

/-- R391: the home counts the proxy, and with the last one it is ACTIVE. -/
theorem test_coh_ready_home : gives (.cohReady 2000 1) (home 1 (coh 8 0 0 2)) true (fun n => n.regState 2 == 2 && tells n .shared 0 0x3410) = true := by decide +kernel

/-- A line owned by member 0, outside its hold, with port A's request waiting. -/
def owned (st : Nat) (tide : Nat) : Mach := { (home 2 rd7).modShared fun x => { x with dir := [(4, { state := st, region := 2, holders := 2, own := st == 2 })] } with tide := tide }

theorem test_hold_end : gives (.holdEnd 1000000 4) (owned 2 1000000) (!(owned 2 1000000).inHold { state := 2, region := 2, holders := 2, own := true }) (fun _ => true) = true := by decide +kernel

theorem test_dir_sweep : gives (.dirSweep 1000000) (owned 2 1000000) true (fun n => (n.dirEnt 4).map (fun e => e.aged) == some true) = true := by decide +kernel

theorem test_bi_timeout :
    let m := (owned 3 1000).modShared fun x => { x with snoops := [⟨4, 0, 2, true, 500, true⟩] }
    gives (.biTimeout (2 ^ 40) 4 0) m (500 + m.act Reg.Shared.BI_TIMEOUT_US 0 2 * 1000 ≤ 2 ^ 40) (fun n => tells n .shared 0 0x3413 && (n.reg 2).cause == 2) = true := by decide +kernel

theorem test_ready_resend : gives (.readyResend 1000000 2) (home 1 rd7) true (fun n => (n.reg 2).readyAt == 1000000) = true := by decide +kernel

theorem test_region_tear : gives (.regionTear 2000 5 2) (home 2 rd7) true (fun n => n.regState 2 == 4 && (n.reg 2).cause == 5 && n.rd Reg.Shared.TEARDOWNS == 1) = true := by decide +kernel

theorem test_region_reform : gives (.regionReform 2000 5 2) (sets (home 4 rd7) [(Reg.Shared.MEMBER.act, 0, 0, 33)]) true (fun n => n.regState 2 == 2) = true := by decide +kernel

/-! ### The twin -/

/-- A device of a pair, first in role, its Twin FSM at a state: tract 0 is DIRECT and mirrored, link 4 is the twin's and UP. -/
def pair (st : Nat) (mir : Bool := true) : Mach :=
  let m := sets dir0 [(Reg.Twin.ROLE, 1, 0, 0), (Reg.Hdr.FSM .twin, st, 0, 0), (Reg.Twin.MIRROR_ACTIVE, mir.toNat, 0, 0), (Reg.Twin.TWIN_LINKS.act, 16, 0, 0), (Reg.Hdr.FSM .culvert, 3, 4, 0),
    (Reg.Twin.RX_NEXT, 7, 0, 0), (Reg.Twin.CREDITS.act, 100, 0, 0)]
  m.modSt fun s => { s with tracts := [(0, 9)] }

/-- The record of the stream that is next. -/
def strm (r : TwRec) (st : Nat := 4) : Mach := (pair st).modTwin fun x => { x with rx := [(7, r)] }

/-- A record outside the sequence has arrived. -/
def loose (r : TwRec) (st : Nat := 4) (mir : Bool := true) : Mach := (pair st mir).modTwin fun x => { x with urx := [r] }

/-- A write record of line 2 with its check word. -/
def wrec (op : Nat) : TwRec := { op := op, line := 2, data := 99, lc := unitLc 99 2 }

theorem test_mirror_write : gives (.twinMirror 2000) (strm (wrec 1)) ((strm (wrec 1)).mirrorOn && recOk (wrec 1))
    (fun n => n.rd Reg.Twin.RX_NEXT == 8 && (n.merge? 0).map (fun y => (y.line, y.logs.map fun l => l.data)) == some (2, [99]) && n.twin.credRet == 1) = true := by decide +kernel

theorem test_fwd_write : gives (.twinFwd 2000) (strm (wrec 3)) true
    (fun n => n.rd Reg.Twin.FWD_WRITES == 1 && n.twin.want.map (fun q => (q.r.op, q.r.line)) == [(6, 2)] && (n.merge? 0).isSome) = true := by decide +kernel

theorem test_mirror_partial : gives (.twinMirrorP 2000) (strm (wrec 2)) true (fun n => n.twin.pend == some (wrec 2) && n.rd Reg.Twin.RX_NEXT == 8) = true := by decide +kernel
theorem test_fwd_partial : gives (.twinFwdP 2000) (strm (wrec 4)) true (fun n => n.twin.pend == some (wrec 4)) = true := by decide +kernel

/-- R402: MASK brings the byte enables of the partial write before it. -/
def masking (op : Nat) : Mach := (strm { op := 5, line := 2, data := 3, lc := unitLc 3 2 }).modTwin fun x => { x with pend := some (wrec op) }

theorem test_mask : gives (.twinMask 2000) (masking 2) true
    (fun n => (n.merge? 0).map (fun y => y.logs.map fun l => (l.data, l.mask)) == some [(99, 3)] && n.twin.pend.isNone && n.twin.want == []) = true := by decide +kernel

theorem test_mask_fwd : gives (.twinMask 2000) (masking 4) true (fun n => n.twin.want.map (fun q => q.r.op) == [6] && n.rd Reg.Twin.FWD_WRITES == 1) = true := by decide +kernel

/-- A forwarded write of port A is ordered. -/
theorem test_ordered :
    let m := (strm { op := 6, line := 2 }).setTag 0 5 { st := .accepted, op := .memWr, line := 2, order := 1, deadline := 900000, data := 99, be := BitVec.allOnes 64, fwd := true }
    let m := (m.setMerge 0 { st := .reserved, line := 2, order := 1 }).modTwin fun x => { x with fwd := [⟨0, 5, 2, 0⟩] }
    gives (.twinOrdered 2000) m true (fun n => n.twin.fwd == [] && (n.tag? 0 5).map (fun x => x.resp) == some (some .cmp) && (n.merge? 0).map (fun y => y.logs.length) == some 1) = true := by
  decide +kernel

/-- The target of a resilver. -/
def target (r : TwRec) : Mach := sets (strm r 3) [(Reg.Twin.RS_SOURCE, 0, 0, 0), (Reg.Weir.FB_LEFT, 100, 0, 2)]

theorem test_copy_blank_here : gives (.twinCopy 2000) (target { wrec 0x0B with arg := 4 }) ((target (wrec 0x0B)).copySeen 2).blank
    (fun n => n.rd Reg.Twin.RS_BOUNDARY == 3 && n.rd Reg.Twin.RS_COPIED == 1 && (n.image 2).ver == 4) = true := by decide +kernel

theorem test_copy_blank : gives (.twinCopyBlank 2000) (target { op := 0x0D, line := 2 }) true (fun n => n.rd Reg.Twin.RS_SKIPPED == 1 && n.rd Reg.Twin.RS_BOUNDARY == 3) = true := by decide +kernel

/-- Line 2 is stored at the target with data 5. -/
def stored (r : TwRec) (ver : Nat) (poison : Bool) : Mach := (target r).storeRaw 2 (dpaWord 2) 2 (freshVal 2 5 poison) ver poison.toNat

theorem test_copy_same : gives (.twinCopy 2000) (stored { op := 0x0B, line := 2, arg := 4, data := 5, lc := unitLc 5 2 } 4 false)
    (let q := (stored (wrec 0x0B) 4 false).copySeen 2; q.ok && !q.blank && q.ver == 4 && !q.val.poison) (fun n => n.rd Reg.Twin.RS_SKIPPED == 1) = true := by decide +kernel

theorem test_copy_poison_good_here : gives (.twinCopyPoison 2000) (stored { op := 0x0C, line := 2, arg := 4 } 4 false) true
    (fun n => n.twin.want.map (fun q => (q.r.op, q.r.data)) == [(0x11, 5)]) = true := by decide +kernel

theorem test_copy_poison_same : gives (.twinCopyPoison 2000) (stored { op := 0x0C, line := 2, arg := 4, data := 5, lc := unitLc 5 2 } 4 true)
    (let q := (stored (wrec 0x0C) 4 true).copySeen 2; q.ok && q.ver == 4 && q.val.poison) (fun n => n.rd Reg.Twin.RS_SKIPPED == 1) = true := by decide +kernel

theorem test_copy_blank_stored : gives (.twinCopyBlank 2000) (let m := stored { op := 0x0D, line := 2 } 4 false; m.putImage 2 { m.image 2 with lc := 1 }) true (fun _ => true) = true := by decide +kernel

/-- R382: the word of an OWNED entry of region 2 with holder 1. -/
theorem test_twin_dir : gives (.twinDir 2000) (strm { op := 0x0E, line := 2, data := BitVec.ofNat 512 (2 * 2 ^ 23 + 2 * 2 ^ 25 + 2 * 2 ^ 30) }) true
    (fun n => (n.dirEnt 2).map (fun e => (e.state, e.region, e.holders, e.own)) == some (2, 2, 2, true)) = true := by decide +kernel

theorem test_twin_dir_free : gives (.twinDir 2000) ((strm { op := 0x0E, line := 2 }).modShared fun x => { x with dir := [(2, { state := 1, region := 2, holders := 2 })] }) true
    (fun n => n.shared.dir == []) = true := by decide +kernel

theorem test_twin_reverse : gives (.twinReverse 2000) (sets (strm { wrec 0x11 with arg := 4 } 3) [(Reg.Twin.RS_SOURCE, 1, 0, 0)]) (((pair 3).linePl 2).isSome)
    (fun n => n.rd Reg.Twin.RS_REVERSE == 1 && (n.image 2).ver == 4) = true := by decide +kernel

theorem test_twin_map : gives (.twinMap 2000) (strm { op := 0x12, line := 0, arg := 8, data := 5 } 3) true (fun n => n.twin.peerAway == [512, 514]) = true := by decide +kernel
theorem test_twin_paired : gives (.twinPaired 2000) (strm { op := 0x13 } 3) true (fun n => n.twin.handover) = true := by decide +kernel

theorem test_twin_coh_wait : gives (.twinCoh 2000) (strm { op := 0x14, arg := 5, data := BitVec.ofNat 512 (2 ^ 24), lc := unitLc (BitVec.ofNat 512 (2 ^ 24)) 0 }) true (fun n => n.twin.pend.isSome) = true := by
  decide +kernel

theorem test_twin_coh : gives (.twinCoh 2000) (strm { op := 0x14, arg := 6, lc := unitLc 0 0 }) (recOk { op := 0x14, arg := 6, lc := unitLc 0 0 }) (fun n => n.rd Reg.Twin.RX_NEXT == 8) = true := by decide +kernel

theorem test_twin_coh_data :
    let m := (strm { op := 0x15, data := 9, lc := unitLc 9 0 }).modTwin fun x => { x with pend := some { op := 0x14, arg := 5, data := BitVec.ofNat 512 (2 ^ 24 + 5), lc := 0 } }
    let m := m.setTag 0 5 { st := .accepted, op := .memRd, line := 2, order := 1, deadline := 900000, coh := some { region := 0, member := 0, right := 1 } }
    gives (.twinCohData 2000) m true (fun n => n.twin.pend.isNone && (n.tag? 0 5).map (fun x => x.resp) == some (some (.memData 9 false 0))) = true := by decide +kernel

/-- R403: FACK 6 frees the records up to 6, and one credit returns. -/
theorem test_twin_ack :
    let m := (loose { op := 7, data := BitVec.ofNat 512 (6 + 2 ^ 32) }).modTwin fun x => { x with held := [⟨0, wrec 1, 5, 4, 10, 1000⟩, ⟨1, wrec 1, 6, 4, 10, 1000⟩, ⟨2, wrec 1, 7, 4, 10, 1000⟩] }
    gives (.twinAck 2000) (sets m [(Reg.Twin.TX_CRED, 3, 0, 0)]) true (fun n => n.twin.held.map (fun h => h.seq) == [7] && n.rd Reg.Twin.TX_ACKED == 6 && n.rd Reg.Twin.TX_CRED == 4) = true := by
  decide +kernel

/-- The merge buffer holds line 2. -/
def serving (poison : Bool) : Mach := (loose { op := 8, line := 2, arg := 12 }).setMerge 0 { st := .held, line := 2, logs := [⟨0, 44, BitVec.allOnes 64, poison⟩] }

theorem test_refetch_req : gives (.twinRefetchReq 2000 [] false) (serving false) ((serving false).twinUp == [4])
    (fun n => (n.link 4).recQ.map (fun q => (q.2.op, q.2.arg, q.2.data)) == [(9, 12, 44)] && n.rd Reg.Twin.REFETCH_SERVED == 1) = true := by decide +kernel

theorem test_refetch_req_poison : gives (.twinRefetchReq 2000 [] false) (serving true) true (fun n => (n.link 4).recQ.map (fun q => (q.2.op, q.2.arg)) == [(10, 12)]) = true := by decide +kernel

/-- R411: a refetch that DRAM would serve after its 140 ns fails. -/
theorem test_refetch_req_late : gives (.twinRefetchReq 2000 [] false) (loose { op := 8, line := 2, arg := 12, came := 1800 }) true
    (fun n => (n.link 4).recQ.map (fun q => (q.2.op, q.2.arg)) == [(10, 12)]) = true := by decide +kernel

/-- Refetch 12 of chain 1 waits for `left` answers. -/
def refetching (r : TwRec) (left : Nat) : Mach := ((loose r).modLev fun x => { x with chains := [(1, { who := .repair, line := 2, pl := 2, step := 3, order := 1, start := 900 })] }).modTwin
  fun x => { x with refetch := [⟨12, 1, 900, left⟩] }

theorem test_refetch_rsp : gives (.twinRefetchRsp 2000) (refetching { wrec 9 with arg := 12 } 1) (recOk (wrec 9)) (fun n => n.twin.refetch == [] && n.rd Reg.Twin.REFETCH_OK == 1) = true := by decide +kernel
theorem test_refetch_fail : gives (.twinRefetchFail 2000) (refetching { op := 10, line := 2, arg := 12 } 1) true (fun n => n.twin.refetch == [] && n.rd Reg.Twin.REFETCH_FAIL == 1) = true := by decide +kernel
theorem test_refetch_fail_more : gives (.twinRefetchFail 2000) (refetching { op := 10, line := 2, arg := 12 } 2) true (fun n => n.twin.refetch == [⟨12, 1, 900, 1⟩]) = true := by decide +kernel
theorem test_refetch_expiry : gives (.refetchBudgetExpiry 1200 12) (refetching { op := 7 } 1) true (fun n => n.twin.refetch == [] && tells n .twin 0 0x381A) = true := by decide +kernel

/-- The HELLO of the other device of the pair. -/
def peerHello (m : Mach) (st : Nat) : Hello := { m.hello with serial := 60, role := 2, st := st }

/-- A HELLO has arrived at a device that is not paired. -/
def greeted (fsm st : Nat) : Mach := let m := pair fsm false; m.modTwin fun x => { x with urx := [{ op := 0x0F, hello := some { peerHello m st with sumOk := true } }] }

theorem test_hello_paired : gives (.twinHello 2000) (let m := pair 4; m.modTwin fun x => { x with urx := [{ op := 0x0F, hello := some (peerHello m 1) }] }) true
    (fun n => !n.flag Reg.Twin.ADM_MISMATCH && n.rd Reg.Twin.PEER_SERIAL == 60) = true := by decide +kernel

/-- R422: both devices claim the first role. -/
theorem test_hello_refused : gives (.twinHello 2000) (let m := pair 1 false; m.modTwin fun x => { x with urx := [{ op := 0x0F, hello := some { peerHello m 1 with role := 1 } }] }) true
    (fun n => n.fsm .twin == 1 && n.rd Reg.Twin.PAIR_REFUSE == 1 && tells n .twin 0 0x3814) = true := by decide +kernel

/-- R404: without mirroring a record of the stream is taken and nothing is written. -/
theorem test_mirror_off : gives (.twinMirror 2000) ((strm (wrec 1)).wr Reg.Twin.MIRROR_ACTIVE 0) (!((strm (wrec 1)).wr Reg.Twin.MIRROR_ACTIVE 0).mirrorOn)
    (fun n => n.lev.merge == [] && n.rd Reg.Twin.RX_NEXT == 8) = true := by decide +kernel

/-- R424: only the target of a resilver acts on COPY. -/
theorem test_copy_ignored : gives (.twinCopy 2000) (strm { wrec 0x0B with arg := 4 }) ((strm (wrec 0x0B)).fsm .twin == 4)
    (fun n => n.rd Reg.Twin.RS_COPIED == 0 && n.rd Reg.Twin.RX_NEXT == 8) = true := by decide +kernel

theorem test_hello_pairing : gives (.twinHello 2000) (greeted 1 1) ((greeted 1 1).pairRefuse (peerHello (pair 1 false) 1) == 0)
    (fun n => n.fsm .twin == 2 && (n.twin.hello.map fun h => h.serial) == some 60 && (n.link 4).recQ.length == 1) = true := by decide +kernel

/-- R422: both FRESH, so they are PAIRED at once. -/
theorem test_hello_fresh : gives (.twinHello 2000) (greeted 2 1) (((greeted 2 1).decidePair (peerHello (pair 2 false) 1)).isNone)
    (fun n => n.fsm .twin == 4 && n.mirrorOn && n.rd Reg.Twin.PAIR_EPOCH == 1 && n.rd Reg.Twin.TX_CRED == 100 && tells n .twin 0 0x3810) = true := by decide +kernel

theorem test_twin_leave : gives (.twinLeave 2000) (loose { op := 0x10 }) true (fun n => n.fsm .twin == 5 && !n.mirrorOn && n.rd Reg.Twin.LOSSES == 1 && tells n .twin 0 0x3813) = true := by decide +kernel
theorem test_twin_bad : gives (.twinBadRecord 2000) (loose { op := 0x20 }) true (fun n => n.twin.urx == [] && n.rd Reg.Turnout.BAD_UNITS == 1) = true := by decide +kernel

theorem test_diverse : gives (.diverseTimeout 90000000) ((pair 4).modTwin fun x => { x with held := [⟨0, wrec 1, 5, 4, 10, 1000⟩] }) true
    (fun n => n.rd Reg.Twin.DIVERTED == 1 && (n.link 4).recQ.map (fun q => q.1) == [5] && tells n .twin 0 0x3819) = true := by decide +kernel

theorem test_loss : gives (.lossTimeout (2 ^ 40) ) (pair 4) ((pair 4).act Reg.Twin.LOSS_US * 1000 ≤ 2 ^ 40) (fun n => n.fsm .twin == 5 && n.twin.soloEpoch == some 0) = true := by decide +kernel
theorem test_hello_periodic : gives (.twinHelloPeriodic 2000) (pair 1 false) (!(pair 1 false).coreAway) (fun n => (n.link 4).recQ.map (fun q => q.2.op) == [0x0F]) = true := by decide +kernel

theorem test_detach : gives (.twinDetach 2000 5 0) (pair 4) (pair 4).mirrorOn (fun n => n.fsm .twin == 6 && !n.mirrorOn && (n.link 4).recQ.map (fun q => q.2.op) == [0x10] && tells n .twin 0 0x3818) = true := by decide +kernel
theorem test_detach_alone : gives (.twinDetach 2000 5 0) (pair 5 false) (!(pair 5 false).mirrorOn) (fun n => n.fsm .twin == 5) = true := by decide +kernel
theorem test_detach_halt : gives (.twinDetach 2000 5 1) (pair 4) true (fun n => n.fsm .twin == 6 && n.halted .twin) = true := by decide +kernel
theorem test_detach_halt_alone : gives (.twinDetach 2000 5 1) (pair 5 false) true (fun n => n.fsm .twin == 5 && n.halted .twin) = true := by decide +kernel
theorem test_detach_off : gives (.twinDetach 2000 5 2) (pair 4) true (fun n => n.fsm .twin == 0 && !n.mirrorOn) = true := by decide +kernel
theorem test_detach_off_alone : gives (.twinDetach 2000 5 2) (pair 5 false) true (fun n => n.fsm .twin == 0 && !n.enabled .twin) = true := by decide +kernel

theorem test_resilver_go : gives (.resilverGo 2000 5) ((pair 3).modTwin fun x => { x with decided := some (1, true) }) true (fun n => n.twin.started && n.rd Reg.Twin.RS_KIND == 1 && tells n .twin 0 0x3811) = true := by
  decide +kernel

theorem test_resilver_full : gives (.resilverFull 2000 5) (pair 5 false) true (fun n => n.twin.full) = true := by decide +kernel
theorem test_unfence : gives (.twinUnfence 2000 5) (pair 7 false) true (fun n => n.fsm .twin == 5 && n.twin.soloEpoch == some 0 && n.rd Reg.Twin.SOLO_TIDE == 2000) = true := by decide +kernel

/-- The source of a FULL resilver. -/
def source (kind : Nat) : Mach := sets ((pair 3).modTwin fun x => { x with started := true }) [(Reg.Twin.RS_SOURCE, 1, 0, 0), (Reg.Twin.RS_KIND, kind, 0, 0), (Reg.Weir.FB_LEFT, 100, 0, 2), (Reg.Twin.RS_BOUNDARY, 9, 0, 0)]

theorem test_resilver_line : gives (.resilverLineSend 2000 [] false) (source 2) ((source 2).hasFb 2 && (source 2).nextMirrored 9 == some 9 && ((source 2).rsRead 9 [] false).2 == .blank)
    (fun n => n.rd Reg.Twin.RS_BOUNDARY == 10 && n.twin.want.map (fun q => (q.r.op, q.r.line)) == [(0x0D, 9)]) = true := by decide +kernel

theorem test_resilver_end : gives (.resilverLineSend 2000 [] false) (source 1) ((source 1).nextMirrored 9).isNone (fun n => n.twin.handover && n.twin.want.map (fun q => q.r.op) == [0x13]) = true := by decide +kernel

theorem test_handover : gives (.pairedHandoverDone 2000) ((sets (source 2) [(Reg.Twin.PAIR_EPOCH, 4, 0, 0), (Reg.Twin.PEER_EPOCH, 6, 0, 0)]).modTwin fun x => { x with handover := true, away := [3] }) true
    (fun n => n.fsm .twin == 4 && n.twin.away == [] && n.rd Reg.Twin.PAIR_EPOCH == 7 && tells n .twin 0 0x3810 && tells n .twin 0 0x3812) = true := by decide +kernel

/-! ### Sluice -/

/-- Channel 3 at a state of its FSM, its gate on or off, with its own state changed. -/
def slu3 (st : Nat) (gate : Bool) (f : SluiceX → SluiceX) : Mach := (sets up0 [(Reg.Hdr.FSM .sluice, st, 3, 0), (Reg.Sluice.GATE_ON, gate.toNat, 3, 0)]).modSlu 3 f

/-- R437, the example: `RSENSE_UOHM` 2,000, `I_CODE` 7,680, `V_MV` 12,040: 12,000 mA and 144,480 mW. -/
theorem test_sample :
    let m := sets (slu3 4 true id) [(Reg.Sluice.RSENSE_UOHM.act, 2000, 3, 0), (Reg.Sluice.CURVE_MA.act, 11000, 3, 0)]
    gives (.sluiceSample 2000 3 true 7680 12040 12000 0 false) m (!m.islandDown 38 && !(m.slu 3).swapWant)
      (fun n => (n.slu 3).i == 12000 && n.rd Reg.Sluice.V_CODE 3 == 12040 && n.flag Reg.Sluice.PRSNT 3 && (n.slu 3).nj == 480 && n.rd Reg.Sluice.ENERGY_UJ 3 == 144 &&
        n.flag Reg.Sluice.FAULT_RUN 3 && n.rd Reg.Sluice.FAULT_US 3 == 0) = true := by decide +kernel

theorem test_sample_fault_runs :
    let m := sets (slu3 4 true id) [(Reg.Sluice.RSENSE_UOHM.act, 2000, 3, 0), (Reg.Sluice.CURVE_MA.act, 11000, 3, 0), (Reg.Sluice.FAULT_RUN, 1, 3, 0), (Reg.Sluice.FAULT_US, 41, 3, 0)]
    gives (.sluiceSample 2000 3 true 7680 12040 12000 0 false) m true (fun n => n.rd Reg.Sluice.FAULT_US 3 == 42) = true := by decide +kernel

theorem test_mean : gives (.sluiceMeanUpdate 2000 3) (slu3 4 true fun x => { x with n := 2, sumI := 24000, sumV := 24080, sumP := 288960 }) true
    (fun n => n.rd Reg.Sluice.I_MA 3 == 12000 && n.rd Reg.Sluice.V_MV 3 == 12040 && n.rd Reg.Sluice.P_MW 3 == 144480 && (n.slu 3).n == 0) = true := by decide +kernel

/-- The fault timer has met point 2 of the curve. -/
def faulted : Mach := sets (slu3 4 true fun x => { x with i := 9000 }) [(Reg.Sluice.FAULT_RUN, 1, 3, 0), (Reg.Sluice.FAULT_US, 100, 3, 0), (Reg.Sluice.PG, 1, 3, 0), (Reg.Sluice.CURVE_MA.act, 1000, 3, 0),
  (Reg.Sluice.CURVE_US.act, 500, 3, 0), (Reg.Sluice.CURVE_MA.act, 5000, 3, 1), (Reg.Sluice.CURVE_US.act, 200, 3, 1), (Reg.Sluice.CURVE_MA.act, 8000, 3, 2), (Reg.Sluice.CURVE_US.act, 100, 3, 2),
  (Reg.Sluice.CURVE_MA.act, 10000, 3, 3), (Reg.Sluice.CURVE_US.act, 50, 3, 3), (Reg.Sluice.CURVE_MA.act, 20000, 3, 4), (Reg.Sluice.CURVE_MA.act, 20000, 3, 5), (Reg.Sluice.CURVE_MA.act, 20000, 3, 6), (Reg.Sluice.CURVE_MA.act, 20000, 3, 7)]

theorem test_curve_trip : gives (.curveTrip 2000 3) faulted (faulted.tripDue 3 == some 1)
    (fun n => n.fsm .sluice 3 == 5 && n.rd Reg.Sluice.TRIP_REASON 3 == 1 && n.rd Reg.Sluice.TRIP_POINT 3 == 2 && n.rd Reg.Sluice.ATTEMPT_US 3 == 100 && !n.flag Reg.Sluice.GATE_ON 3 &&
      !n.flag Reg.Sluice.PG 3 && n.flag Reg.Sluice.RETRY_PENDING 3 && tells n .sluice 3 0x3C11) = true := by decide +kernel

theorem test_uv_trip :
    let m := sets (slu3 4 true fun x => { x with uvRun := 5000000 }) [(Reg.Sluice.PG, 1, 3, 0), (Reg.Sluice.UV_US.act, 50, 3, 0)]
    gives (.uvTrip 2000 3) m (m.tripDue 3 == some 5) (fun n => n.rd Reg.Sluice.TRIP_REASON 3 == 5 && n.rd Reg.Sluice.ATTEMPT_US 3 == 50) = true := by decide +kernel

/-- R448: past `RETRY_MAX` the channel is LATCHED. -/
theorem test_sc_latches :
    let m := sets (slu3 4 true id) [(Reg.Sluice.RETRY_MAX.act, 2, 3, 0), (Reg.Sluice.TRIP_COUNT, 2, 3, 0), (Reg.Sluice.ON_WANTED, 1, 3, 0)]
    gives (.scComparator 2000 3) m (!m.islandDown 38) (fun n => n.fsm .sluice 3 == 6 && n.rd Reg.Sluice.TRIP_COUNT 3 == 3 && !n.flag Reg.Sluice.ON_WANTED 3 && tells n .sluice 3 0x3C12) = true := by
  decide +kernel

theorem test_sc_asleep :
    let m : Mach := { slu3 4 true id with pw := { up0.pw with st := 3 } }
    gives (.scComparator 2000 3) m (m.islandDown 38) (fun n => (n.slu 3).scPend && !n.flag Reg.Sluice.GATE_ON 3 && n.fsm .sluice 3 == 4) = true := by decide +kernel

theorem test_debounce : gives (.debounceComplete (2 ^ 40) 3) (slu3 2 false fun x => { x with debStart := 1000 }) ((slu3 2 false id).coolEnough 3)
    (fun n => n.fsm .sluice 3 == 3 && n.flag Reg.Sluice.GATE_ON 3 && (n.slu 3).gateTide == 2 ^ 40 && n.rd Reg.Sluice.INSERTIONS 3 == 1 && tells n .sluice 3 0x3C14) = true := by decide +kernel

theorem test_inrush : gives (.inrushTimeout 900000 3) (slu3 3 true fun x => { x with regUs := 2 ^ 40 }) ((slu3 3 true id).act Reg.Sluice.INRUSH_MS 3 * 1000 < 2 ^ 40)
    (fun n => n.rd Reg.Sluice.TRIP_REASON 3 == 3 && n.rd Reg.Sluice.ATTEMPT_US 3 == 900) = true := by decide +kernel

theorem test_pg_timeout : gives (.pgTimeout (2 ^ 40) 3) (slu3 3 true id) ((slu3 3 true id).act Reg.Sluice.PG_TIMEOUT_MS 3 * 1000000 ≤ 2 ^ 40) (fun n => n.rd Reg.Sluice.TRIP_REASON 3 == 4) = true := by decide +kernel

theorem test_cooldown_retry : gives (.cooldownEnd 2000 3) (slu3 5 false fun x => { x with cdOn := true, cdEnd := 2000 }) true (fun n => n.fsm .sluice 3 == 3 && !(n.slu 3).cdOn && n.flag Reg.Sluice.GATE_ON 3) = true := by
  decide +kernel

theorem test_cooldown_hold : gives (.cooldownEnd 2000 3) (slu3 7 false fun x => { x with cdOn := true, cdEnd := 2000 }) true (fun n => n.fsm .sluice 3 == 2 && (n.slu 3).debStart == 2000) = true := by decide +kernel

theorem test_removal : gives (.removalDeclared 2000 3) (slu3 4 true fun x => { x with gone := 2 ^ 30 }) ((slu3 4 true id).act Reg.Sluice.REMOVE_US 3 ≤ 2 ^ 30)
    (fun n => n.fsm .sluice 3 == 1 && !n.flag Reg.Sluice.GATE_ON 3 && n.rd Reg.Sluice.REMOVALS 3 == 1 && tells n .sluice 3 0x3C13) = true := by decide +kernel

theorem test_presence : gives (.presenceDetected 2000 3) (sets (slu3 1 false id) [(Reg.Sluice.PRSNT, 1, 3, 0)]) true (fun n => n.fsm .sluice 3 == 2) = true := by decide +kernel

theorem test_good_time :
    let m := sets (slu3 4 true id) [(Reg.Sluice.PG, 1, 3, 0), (Reg.Sluice.TRIP_COUNT, 2, 3, 0)]
    gives (.goodOnTime10s 10000000000 3) m (m.tripDue 3).isNone (fun n => n.rd Reg.Sluice.TRIP_COUNT 3 == 0 && tells n .sluice 3 0x3C18) = true := by decide +kernel

theorem test_on_req : gives (.sluiceOnReq 2000 5 3) (slu3 0 false id) true (fun n => n.fsm .sluice 3 == 1 && n.flag Reg.Sluice.ON_WANTED 3) = true := by decide +kernel
theorem test_off_req_busy : gives (.sluiceOffReq 2000 5 3 false) (sets (slu3 4 true id) [(Reg.Hdr.FSM .canal, 4, 7, 0)]) (((sets (slu3 4 true id) [(Reg.Hdr.FSM .canal, 4, 7, 0)]).busyCanal 3) == some 7)
    (fun n => n.rd Reg.Sluice.OFF_REFUSALS 3 == 1 && tells n .sluice 3 0x3C17 && !(n.slu 3).offWant) = true := by decide +kernel

theorem test_off_req_force : gives (.sluiceOffReq 2000 5 3 true) (sets (slu3 4 true id) [(Reg.Hdr.FSM .canal, 4, 7, 0)]) true (fun n => (n.slu 3).offWant) = true := by decide +kernel
theorem test_unlatch : gives (.sluiceUnlatch 2000 5 3) (sets (slu3 6 false id) [(Reg.Sluice.TRIP_COUNT, 4, 3, 0)]) true (fun n => n.fsm .sluice 3 == 0 && n.rd Reg.Sluice.TRIP_COUNT 3 == 0) = true := by decide +kernel

/-- R435: channel 8 turns a host port's requests away. -/
theorem test_host_turned_away : gives (.sluiceUnlatch 2000 0 8) (sets up0 [(Reg.Hdr.FSM .sluice, 6, 8, 0)]) true (fun n => n.fsm .sluice 8 == 6 && n.rd Reg.Device.BLOCKED_WRITES == 1) = true := by decide +kernel

/-- A shadow curve of rising currents and falling times. -/
def shadow : Mach := sets (slu3 4 true id) ((List.range 8).flatMap fun k => [(Reg.Sluice.CURVE_MA, 11000 + 500 * k, 3, k), (Reg.Sluice.CURVE_US, 700 - 100 * k, 3, k)])

theorem test_swap_accepted : gives (.curveSwap 2000 5 3) (sets shadow [(Reg.Sluice.INRUSH_MA.act, 1000, 3, 0), (Reg.Sluice.SC_MA.act, 20000, 3, 0), (Reg.Sluice.RSENSE_UOHM.act, 2000, 3, 0)])
    ((sets shadow [(Reg.Sluice.INRUSH_MA.act, 1000, 3, 0), (Reg.Sluice.SC_MA.act, 20000, 3, 0), (Reg.Sluice.RSENSE_UOHM.act, 2000, 3, 0)]).swapResult 3 == 0) (fun n => (n.slu 3).swapWant) = true := by decide +kernel

theorem test_swap_refused : gives (.curveSwap 2000 5 3) (sets shadow [(Reg.Sluice.CURVE_MA, 1, 3, 7)]) true
    (fun n => n.rd Reg.Sluice.SWAP_RESULT 3 == 1 && n.rd Reg.Sluice.SWAP_REFUSALS 3 == 1 && tells n .sluice 3 0x3C16) = true := by decide +kernel

theorem test_energy_clr : gives (.energyClr 2000 5 3) (sets (slu3 4 true fun x => { x with nj := 9 }) [(Reg.Sluice.ENERGY_UJ, 144, 3, 0)]) true (fun n => n.rd Reg.Sluice.ENERGY_UJ 3 == 0 && (n.slu 3).nj == 0) = true := by
  decide +kernel

theorem test_sluice_disable : gives (.sluiceDisable 2000 5 3) (slu3 2 false id) true (fun n => n.fsm .sluice 3 == 0 && !n.enabled .sluice 3) = true := by decide +kernel

/-! ### Power states -/

/-- A device without a client that keeps it awake, whose `DEEPEST` is DORMANT. -/
def idle (st : Nat) : Mach := { sets m0 ([(Reg.Power.DEEPEST, 3, 0, 0), (Reg.Power.CLIENT_EN, 0, 0, 0)]) with pw := { m0.pw with st := st } }

theorem test_vote : gives (.voteSet 2000 5 5) (idle 0) true (fun n => n.rd Reg.Power.VOTE 0 0 == 32 && n.rd Reg.Power.VOTE 0 2 == 32 && n.rd Reg.Power.VOTE 0 1 == 0) = true := by decide +kernel
theorem test_vote_clr : gives (.voteClr 2000 5 1) (sets (idle 0) [(Reg.Power.VOTE, 33, 0, 0)]) true (fun n => n.rd Reg.Power.VOTE 0 0 == 1) = true := by decide +kernel

theorem test_slack : gives (.slackEnter 2000) (idle 0) ([6, 7, 8, 9, 10, 11, 16, 17, 18, 19, 20, 21, 22, 23, 24, 25, 27].all fun c => !(idle 0).client c)
    (fun n => n.pw.st == 1 && n.rd Reg.Power.SLACK_ENTRIES == 1) = true := by decide +kernel

theorem test_prep : gives (.stateEntryPrep 2000 3) (idle 0) ((idle 0).blocker 3).isNone (fun n => n.pw.prep == some 3) = true := by decide +kernel

/-- Software source 5 votes for the Sluice domain. -/
def kept (st : Nat) : Mach := sets (idle st) [(Reg.Power.VOTE, 32, 0, 13), (Reg.Power.CLIENT_EN, 63, 0, 0)]

theorem test_prep_blocked : gives (.stateEntryPrep 2000 3) (kept 0) ((kept 0).blocker 3 == some 5) (fun n => n.pw.prep.isNone && n.rd Reg.Power.ENTRY_CLIENT == 5) = true := by decide +kernel

/-- A preparation for DORMANT, before or after the vote commit. -/
def preparing (m : Mach) (c : Option Nat) : Mach := { m with pw := { m.pw with prep := some 3, commit := c } }

theorem test_vote_commit : gives (.voteCommit 2000) (preparing (idle 0) none) ((preparing (idle 0) none).blocker 3).isNone (fun n => n.pw.commit == some 2000 && n.rd Reg.Power.PADS_HELD == 63) = true := by decide +kernel
theorem test_vote_abort : gives (.voteCommit 2000) (preparing (kept 0) none) true (fun n => n.pw.prep.isNone && n.rd Reg.Power.ENTRY_ABORTS == 1 && tells n .power 0 0x4012) = true := by decide +kernel
theorem test_isolation : gives (.isolation 2240) (preparing (idle 0) (some 2000)) true (fun n => n.pw.st == 3 && n.pw.prep.isNone && n.rd Reg.Power.DOMAIN_ON == 0 && tells n .power 0 0x4010) = true := by decide +kernel

/-- Wake source 1 is enabled. -/
def waking (m : Mach) : Mach := sets m [(Reg.Power.WAKE_EN, 1, 0, 0)]

theorem test_wake_slack : gives (.wake 2000 1) (waking (idle 1)) true (fun n => n.pw.st == 0) = true := by decide +kernel
theorem test_wake_prep : gives (.wake 2000 1) (preparing (waking (idle 0)) none) ((waking (idle 0)).wakeActs 1) (fun n => n.pw.prep.isNone && n.rd Reg.Power.ENTRY_ABORTS == 1) = true := by decide +kernel
theorem test_wake_latched : gives (.wake 2000 1) (preparing (waking (idle 0)) (some 1900)) (levelSource 1) (fun n => n.pw.latched == some 1 && n.rd Reg.Power.PENDING_WAKE == 2) = true := by decide +kernel
theorem test_wake_exit : gives (.wake 2000 1) (waking (idle 3)) true (fun n => n.pw.exitAt == some 1 && n.rd Reg.Power.LAST_WAKE_SRC == 1 && n.rd Reg.Power.LAST_STATE == 3 && tells n .power 0 0x4011) = true := by decide +kernel

/-- The wake sequence stands at an entry. -/
def exiting (k : Nat) : Mach := { sets (idle 3) [(Reg.Power.DOMAIN_ON, 0, 0, 0)] with pw := { (idle 3).pw with exitAt := some k } }

theorem test_entry : gives (.wakeSeqEntry 2000) (exiting 1) true (fun n => n.pw.exitAt == some 2 && n.rd Reg.Power.DOMAIN_ON == 2 ^ 13) = true := by decide +kernel

/-- R455, R471: sampling resumes, and the gate that the comparator switched off is a trip. -/
theorem test_entry_sluice : gives (.wakeSeqEntry 2000) ((exiting 2).modSlu 3 fun x => { x with scPend := true }) true
    (fun n => n.pw.exitAt == some 3 && n.rd Reg.Sluice.TRIP_REASON 3 == 2 && n.rd Reg.Sluice.ATTEMPT_US 3 == 1 && tells n .sluice 3 0x3C1A) = true := by decide +kernel

theorem test_entry_last : gives (.wakeSeqEntry 2000) (exiting 15) true (fun n => n.pw.st == 0 && n.pw.exitAt.isNone && n.pw.holdEnd == some (2000 + (idle 3).rd Reg.Power.WAKE_HOLD_MS * 1000000)) = true := by decide +kernel
theorem test_hold_over : gives (.wakeHoldExpiry 2000) { idle 0 with pw := { (idle 0).pw with holdEnd := some 2000 } } true (fun n => n.pw.holdEnd.isNone) = true := by decide +kernel

/-- R439: a waiting exchange comes before the sample, so that 12,000 mA is judged against the new curve. -/
theorem test_sample_swaps :
    let m := sets (slu3 4 true fun x => { x with swapWant := true }) [(Reg.Sluice.RSENSE_UOHM.act, 2000, 3, 0), (Reg.Sluice.CURVE_MA.act, 11000, 3, 0), (Reg.Sluice.CURVE_MA, 20000, 3, 0)]
    gives (.sluiceSample 2000 3 true 7680 12040 12000 0 false) m (!m.islandDown 38)
      (fun n => !n.flag Reg.Sluice.FAULT_RUN 3 && n.act Reg.Sluice.CURVE_MA 3 0 == 20000 && n.rd Reg.Sluice.CURVE_MA 3 0 == 11000 && n.rd Reg.Sluice.SWAPS 3 == 1) = true := by decide +kernel

theorem test_cooldown_over : gives (.cooldownEnd 2000 3) (slu3 4 true fun x => { x with cdOn := true, cdEnd := 2000 }) true
    (fun n => !(n.slu 3).cdOn && n.fsm .sluice 3 == 4) = true := by decide +kernel

/-- R461: FALLOW is not prepared where DORMANT may be entered. -/
theorem test_prep_deeper : gives (.stateEntryPrep 2000 2) (sets (idle 0) [(Reg.Power.DEEPEST, 3, 0, 0)]) (((idle 0).blocker 3).isNone && ((idle 0).blocker 2).isNone)
    (fun n => n.pw.prep.isNone) = true := by decide +kernel

/-- R461: a scrub pass keeps the device out of SLACK. -/
theorem test_slack_blocked : gives (.slackEnter 2000) (sets (idle 0) [(Reg.Hdr.FSM .furrow, 1, 0, 0)]) true
    (fun n => n.pw.st == 0 && n.rd Reg.Power.ENTRY_CLIENT == 6) = true := by decide +kernel

/-! ### The Gauge Book -/

/-- R488, the example: Canal 9 leaves service with cause 5. -/
def rec0 : Rec := { code := 0x2412, seq := 0x12345, p0 := 9, p1 := 5, p2 := 0x3B9ACA00, ops := 0x01234567, cycles := 0x21, rep := 0, sev := severity 0x2412, inst := 9 }

/-- The ring holds that record as the newest. -/
def ring0 (isOpen : Bool) : Mach := sets { m0 with gb := { m0.gb with ring := [(0x12345, rec0)], isOpen := isOpen, lastOcc := 900 } } [(Reg.Gauge.SEQ_HEAD, 0x12345, 0, 0)]

theorem test_read_seq : gives (.readSeq 2000 5 0x12345) (ring0 false) true
    (fun n => n.rd Reg.Gauge.REC_W0 == 0x0000000123452412 && n.rd Reg.Gauge.REC_W1 == 0x0000000500000009 && n.rd Reg.Gauge.REC_W2 == 0x012345673B9ACA00 &&
      n.rd Reg.Gauge.REC_W3 == 0x4D00000000002100 && n.rd Reg.Gauge.READ_STATUS == 1) = true := by decide +kernel

theorem test_read_seq_open : gives (.readSeq 2000 5 0x12345) (ring0 true) true (fun n => n.rd Reg.Gauge.READ_STATUS == 2) = true := by decide +kernel
theorem test_read_seq_above : gives (.readSeq 2000 5 0x12346) (ring0 true) true (fun n => n.rd Reg.Gauge.READ_STATUS == 4 && n.rd Reg.Gauge.REC_W0 == 0) = true := by decide +kernel
theorem test_read_seq_below : gives (.readSeq 2000 5 0x12344) (sets (ring0 true) [(Reg.Gauge.SEQ_FLOOR, 0x12345, 0, 0)]) true (fun n => n.rd Reg.Gauge.READ_STATUS == 3) = true := by decide +kernel

/-- The record is in flash only. -/
def flashed : Mach := sets { m0 with gb := { m0.gb with nBlk := 4, flash := [(2, { recs := [rec0] })] } } [(Reg.Gauge.SEQ_HEAD, 0x12345, 0, 0)]

theorem test_read_seq_flash : gives (.readSeq 2000 5 0x12345) flashed ((flashed.gb.inFlash 0x12345).isSome) (fun n => n.rd Reg.Gauge.READ_STATUS == 0 && n.gb.readWait == some 0x12345) = true := by decide +kernel
theorem test_flash_read_done : gives (.flashReadDone 2000) (flashed.modGb fun g => { g with readWait := some 0x12345 }) true
    (fun n => n.rd Reg.Gauge.READ_STATUS == 1 && n.rd Reg.Gauge.REC_W0 == 0x0000000123452412) = true := by decide +kernel

/-- An event waits for the recorder. -/
def event0 : Event := ⟨0x2412, 9, 9, 5, 0x77, 1900⟩

theorem test_record_merges : gives (.recordWrite 2000) { ring0 true with gb := { (ring0 true).gb with queue := [event0] } } (((ring0 true).mergeInto event0).isSome && !(ring0 true).boot.restoreDue)
    (fun n => n.rd Reg.Gauge.SEQ_HEAD == 0x12345 && n.rd Reg.Gauge.REPEATS == 1 && Tbl.find n.gb.ring 0x12345 == some { rec0 with rep := 1, p2 := 0x77 }) = true := by decide +kernel

theorem test_record_new : gives (.recordWrite 2000) { ring0 true with gb := { (ring0 true).gb with queue := [{ event0 with p1 := 6 }] } } (((ring0 true).mergeInto { event0 with p1 := 6 }).isNone)
    (fun n => n.rd Reg.Gauge.SEQ_HEAD == 0x12346 && n.rd Reg.Gauge.RECORDS == 1 && (Tbl.find n.gb.ring 0x12346).map (fun r => (r.code, r.sev, r.rep, r.p1)) == some (0x2412, 5, 0, 6) && n.gb.queue == []) = true := by
  decide +kernel

theorem test_window : gives (.repeatWindowExpiry (2 ^ 40)) (ring0 true) ((ring0 true).gb.lastOcc + (ring0 true).repeatNs ≤ 2 ^ 40) (fun n => !n.gb.isOpen) = true := by decide +kernel

theorem test_token : gives (.tokenRefill 2000 ⟨.canal, 9⟩ 0x12) { m0 with gb := { m0.gb with bucketUsed := [(bucketKey ⟨.canal, 9⟩ 0x12, 3)] } } true
    (fun n => Tbl.getD n.gb.bucketUsed (bucketKey ⟨.canal, 9⟩ 0x12) 0 == 2) = true := by decide +kernel

theorem test_checkpoint : gives (.checkpoint 3600000000000) m0 true (fun n => n.gb.lastCheck == 3600 && tells n .gauge 0 0x4412) = true := by decide +kernel

/-- A closed record waits for the flash of four blocks. -/
def unflashed : Mach := { ring0 false with gb := { (ring0 false).gb with nBlk := 4, curBlk := 1 } }

theorem test_flash_write : gives (.flashRecordWrite 2000 true) unflashed (unflashed.nextForFlash == some rec0 && !unflashed.islandDown 37)
    (fun n => n.rd Reg.Gauge.SEQ_FLASH == 0x12345 && (n.gb.blk 1).recs == [rec0]) = true := by decide +kernel

theorem test_flash_write_fails : gives (.flashRecordWrite 2000 false) unflashed true (fun n => (n.gb.blk 1).retired && n.gb.curBlk == 2 && n.rd Reg.Gauge.FLASH_RETIRED == 1 && tells n .gauge 0 0x4417) = true := by decide +kernel
theorem test_flash_erase : gives (.flashEraseDone 2000 true) (flashed.modGb fun g => { g with eraseDue := some 2 }) true (fun n => (n.gb.blk 2).recs == [] && (n.gb.blk 2).erases == 1 && n.gb.eraseDue.isNone) = true := by decide +kernel
theorem test_flash_erase_fails : gives (.flashEraseDone 2000 false) (flashed.modGb fun g => { g with eraseDue := some 2 }) true (fun n => (n.gb.blk 2).retired && tells n .gauge 0 0x4417) = true := by decide +kernel

theorem test_clear_req : gives (.clearReq 2000 5) m0 true (fun _ => true) = true := by decide +kernel

/-- A challenge stands. -/
def challenged (k : Nat) : Mach := { sets (ring0 false) [(Reg.Gauge.CLEAR_STATE, k, 0, 0), (Reg.Gauge.CHALLENGE, 7, 0, 0), (Reg.Gauge.CLEAR_FAILS, 2, 0, 0)] with gb := { (ring0 false).gb with chalEnd := 1500, lockEnd := 1500 } }

/-- R489: without a clear key every response is refused; the third refusal locks. -/
theorem test_clear_resp_locks : gives (.clearResp 2000 5 9) (challenged 1) true
    (fun n => n.rd Reg.Gauge.CLEAR_STATE == 2 && n.rd Reg.Gauge.CHALLENGE == 0 && n.gb.lockEnd == 60000002000 && tells n .gauge 0 0x4415) = true := by decide +kernel

theorem test_gb_clear : gives (.gbClear 2000 5 true true true) (ring0 false) (!(ring0 false).boot.anchorBad.contains 0)
    (fun n => n.rd Reg.Gauge.SEQ_FLOOR == 0x12346 && n.gb.ring.map (fun e => (e.1, e.2.code)) == [(0x12346, 0x4410)] && n.rd Reg.Gauge.CLEAR_STATE == 0) = true := by decide +kernel

theorem test_gb_clear_refused : gives (.gbClear 2000 5 true false true) (ring0 false) true (fun n => n.rd Reg.Gauge.SEQ_FLOOR == (ring0 false).rd Reg.Gauge.SEQ_FLOOR && tells n .gauge 0 0x4415) = true := by decide +kernel
theorem test_challenge_over : gives (.challengeExpiry 2000) (challenged 1) true (fun n => n.rd Reg.Gauge.CLEAR_STATE == 0 && n.rd Reg.Gauge.CHALLENGE == 0) = true := by decide +kernel
theorem test_lock_over : gives (.challengeExpiry 2000) (challenged 2) true (fun n => n.rd Reg.Gauge.CLEAR_STATE == 0 && n.rd Reg.Gauge.CLEAR_FAILS == 0) = true := by decide +kernel

/-- A clear erases blocks below the floor. -/
def clearing (more : Bool) : Mach := sets { flashed with gb := { flashed.gb with flash := [(2, { recs := [rec0] })] ++ (if more then [(3, { recs := [rec0] })] else []) } }
  [(Reg.Gauge.CLEAR_STATE, 3, 0, 0), (Reg.Gauge.SEQ_FLOOR, 0x12346, 0, 0)]

theorem test_clear_erase : gives (.clearBlockErase 2000) (clearing true) ((clearing true).belowFloor == [2, 3]) (fun n => n.belowFloor == [3] && n.rd Reg.Gauge.CLEAR_STATE == 3) = true := by decide +kernel
theorem test_clear_erase_last : gives (.clearBlockErase 2000) (clearing false) true (fun n => n.belowFloor == [] && n.rd Reg.Gauge.CLEAR_STATE == 0) = true := by decide +kernel
theorem test_clear_erase_none : gives (.clearBlockErase 2000) (sets m0 [(Reg.Gauge.CLEAR_STATE, 3, 0, 0)]) ((sets m0 [(Reg.Gauge.CLEAR_STATE, 3, 0, 0)]).belowFloor == []) (fun n => n.rd Reg.Gauge.CLEAR_STATE == 0) = true := by decide +kernel

/-- R482: a record closes at its 65,535th repeat. -/
theorem test_record_full :
    let m := { ring0 true with gb := { (ring0 true).gb with ring := (ring0 true).gb.ring.map fun (e : Nat × Rec) => (e.1, { e.2 with rep := 65534 }) } }
    let r := (m.gb.ring.headD (0, rec0)).2
    let e : Event := ⟨r.code, r.inst, r.p0, r.p1, 0, m.gb.lastOcc⟩
    (m.mergeInto e == some r && !(m.record e).gb.isOpen && (m.record e).rd Reg.Gauge.SEQ_HEAD == m.rd Reg.Gauge.SEQ_HEAD) = true := by decide +kernel

/-! ### Bring-up, firmware and the management core -/

/-- An image that passes R498. -/
def img0 : FwImage := { length := 4096, version := 3, security := 2, commit := true, sigOk := true, digestOk := true }

/-- An image whose digest is wrong. -/
def img1 : FwImage := { img0 with version := 4, digestOk := false }

/-- The device at a stage of bring-up, with the good image in slot A and the bad one in slot B. -/
def stage (k : Nat) : Mach := (sets m0 [(Reg.Mailbox.BOOT_STAGE, k, 0, 0)]).modBoot fun b => { b with slotA := { img := some img0 }, slotB := { img := some img1 } }

theorem test_power_on : gives (.powerOn 2000) m0 (m0.boot.vaon && m0.rd Reg.Mailbox.BOOT_STAGE == 0)
    (fun n => n.rd Reg.Mailbox.BOOT_STAGE == 1 && n.rd Reg.Mailbox.RESET_CAUSE == 1 && n.rd Reg.Clock.CORE_MHZ == 3200 && n.rd Reg.HostPort.LAST_RESET 2 == 5 && n.boot.startTide == 2000) = true := by decide +kernel

theorem test_rail_loss : gives (.railLoss 2000) (sets up0 [(Reg.Sluice.GATE_ON, 1, 3, 0), (Reg.Sluice.PG, 1, 3, 0)]) up0.memActive
    (fun n => !n.boot.powered && !n.memActive && !n.flag Reg.Sluice.GATE_ON 3 && !n.flag Reg.Sluice.PG 3 && !n.flag Reg.HostPort.DL_UP 0) = true := by decide +kernel

theorem test_vaon_loss : gives (.vaonLoss 2000) { stage 6 with serial := 77 } (stage 6).boot.vaon
    (fun n => !n.boot.vaon && n.regs == [] && n.boot.slotA.img == some img0 && n.serial == 77) = true := by decide +kernel

theorem test_always_on : gives (.alwaysOnPowerUp 2000 5 (some img1) none 0) { m0 with boot := { m0.boot with slotB := { img := some img0 } } } (m0.rd Reg.Mailbox.BOOT_STAGE == 0)
    (fun n => n.tide == 0 && n.straps == 5 && n.boot.slotA.img == some img1 && n.boot.slotB.img == some img0 && n.boot.restoreDue && !n.boot.powered) = true := by decide +kernel

/-- R498, check by check. -/
theorem test_auth : ([authCode 2 { img := some img0 } false, authCode 3 { img := some img0 } false, authCode 2 { img := some img1 } false,
    authCode 2 { img := some { img0 with sigOk := false } } false, authCode 2 {} false, authCode 2 { img := some img0 } true,
    authCode 0 { img := some { img0 with security := 64 } } false, authCode 0 { img := some { img0 with length := 8388096 } } false,
    authCode 0 { img := some { img0 with length := 8388097 } } false] == [0, 3, 2, 1, 4, 5, 1, 0, 1]) = true := by decide +kernel

theorem test_fw_auth : gives (.fwAuthDone 2000 false false []) (stage 1) ((stage 1).rd Reg.Mailbox.BOOT_STAGE == 1)
    (fun n => n.rd Reg.Mailbox.BOOT_STAGE == 3 && n.rd Reg.Mailbox.BOOT_SLOT == 0 && n.rd Reg.Mailbox.FW_RUNNING == 3 && n.rd Reg.Mailbox.FW_OTHER == 0 && n.rd Reg.Mailbox.BOOT_FAIL == 0) = true := by decide +kernel

theorem test_fw_auth_other : gives (.fwAuthDone 2000 false false [1]) ((stage 1).modBoot fun b => { b with preferred := 1 }) true
    (fun n => n.rd Reg.Mailbox.BOOT_STAGE == 3 && n.rd Reg.Mailbox.BOOT_SLOT == 0 && n.rd Reg.Mailbox.BOOT_FAIL == 2 && n.boot.anchorBad == [1] && tells n .mailbox 0 0x4C11) = true := by decide +kernel

theorem test_fw_auth_none : gives (.fwAuthDone 2000 true false []) (stage 1) true
    (fun n => n.rd Reg.Mailbox.BOOT_STAGE == 7 && n.rd Reg.Mailbox.BOOT_FAIL == 2 && n.boot.running.isNone) = true := by decide +kernel

theorem test_fw_auth_strap : gives (.fwAuthDone 2000 false false []) { stage 1 with straps := 1 } true (fun n => n.rd Reg.Mailbox.BOOT_STAGE == 7 && n.rd Reg.Mailbox.BOOT_FAIL == 0) = true := by decide +kernel

/-- R503: riser 0 at 260 ms. -/
theorem test_riser : gives (.riserOnSchedule 260000000 0) (stage 3) ((Tbl.find (stage 3).boot.riserAt 0).isNone)
    (fun n => n.rd Reg.Mailbox.BOOT_STAGE == 4 && n.flag Reg.Clock.DDR_LOCK && Tbl.find n.boot.riserAt 0 == some 260000000) = true := by decide +kernel

theorem test_riser_early : gives (.riserOnSchedule 284999999 1) (stage 4) true (fun n => n.boot.riserAt == []) = true := by decide +kernel
theorem test_riser_next : gives (.riserOnSchedule 285000000 1) (stage 4) true (fun n => n.boot.riserAt == [(1, 285000000)]) = true := by decide +kernel

theorem test_riser_timeout : gives (.riserPgTimeout 2260000000 0) ((stage 4).modBoot fun b => { b with riserAt := [(0, 260000000)] }) (!(stage 4).memActive && !(stage 4).flag Reg.Sluice.PG 0)
    (fun n => n.fsm .canal 0 == 7 && n.fsm .canal 1 == 7 && n.rd Reg.Canal.TRAIN_FAIL 1 == 1 && n.fsm .canal 2 == 0) = true := by decide +kernel

/-- A device whose management core runs from slot A; the mailbox is free. -/
def ran : Mach := sets (stage 6) [(Reg.Mailbox.MB_ARG0, 0x64160DEF, 0, 0), (Reg.Mailbox.MB_ARG1, 9, 0, 0), (Reg.Mailbox.MB_ARG2, 1, 0, 0)]

/-- The mailbox takes a command of the management core. -/
def takes (op : Nat) (c : Instr) : Bool :=
  gives c ran (ran.mayWrite 5 && ran.rd Reg.Mailbox.MB_STATUS == 0) fun n => n.rd Reg.Mailbox.MB_STATUS == 1 && n.boot.mb == some ⟨op, 5, 0x64160DEF, 9, 1⟩

theorem test_mb_ping : takes 1 (.mbPing 2000 5) = true := by decide +kernel
theorem test_mb_stage : takes 2 (.mbFwStage 2000 5) = true := by decide +kernel
theorem test_mb_activate : takes 3 (.mbFwActivate 2000 5) = true := by decide +kernel
theorem test_mb_reset : takes 4 (.mbDeviceReset 2000 5) = true := by decide +kernel
theorem test_mb_anchor : takes 5 (.mbProvisionAnchor 2000 5) = true := by decide +kernel
theorem test_mb_clear_key : takes 6 (.mbProvisionClearKey 2000 5) = true := by decide +kernel
theorem test_mb_lock : takes 7 (.mbProvisionLock 2000 5) = true := by decide +kernel
theorem test_mb_restart : takes 8 (.mbMgmtRestart 2000 5) = true := by decide +kernel
theorem test_mb_revert : takes 9 (.mbFwRevert 2000 5) = true := by decide +kernel

theorem test_mb_busy : gives (.mbPing 2000 5) (sets ran [(Reg.Mailbox.MB_STATUS, 1, 0, 0)]) true (fun n => n.rd Reg.Mailbox.MB_REFUSED == 1) = true := by decide +kernel

/-- A mailbox command of the management core runs. -/
def inMb (op : Nat) (m : Mach) : Mach := (sets m [(Reg.Mailbox.MB_STATUS, 1, 0, 0)]).modBoot fun b => { b with mb := some ⟨op, 5, 0x64160DEF, 9, 1⟩ }

/-- What a mailbox command that is done leaves: its result and a property. -/
def doneMb (c : Instr) (op r : Nat) (p : Mach → Bool) : Bool :=
  gives c (inMb op ran) (!ran.coreAway) fun n => n.rd Reg.Mailbox.MB_STATUS == 2 && n.rd Reg.Mailbox.MB_RESULT == r && n.boot.mb.isNone && p n

theorem test_mb_done_ping : doneMb (.mbCmdDone 2000 true img0 55) 1 0 (fun _ => true) = true := by decide +kernel
theorem test_mb_done_stage : doneMb (.mbCmdDone 2000 true img0 55) 2 0 (fun n => n.boot.slotB.img == some img0 && n.rd Reg.Mailbox.FW_OTHER == 3) = true := by decide +kernel
theorem test_mb_done_stage_bad : doneMb (.mbCmdDone 2000 false img0 55) 2 5 (fun n => n.rd Reg.Mailbox.FW_OTHER == 0) = true := by decide +kernel
theorem test_mb_done_anchor_bad : doneMb (.mbCmdDone 2000 false img0 55) 5 5 (fun _ => true) = true := by decide +kernel
theorem test_mb_done_bad_op : doneMb (.mbCmdDone 2000 true img0 55) 12 1 (fun n => tells n .mailbox 0 0x4C13) = true := by decide +kernel
theorem test_mb_done_unconfirmed : doneMb (.mbCmdDone 2000 true img0 55) 7 6 (fun n => !n.flag Reg.Mailbox.PROV_LOCKED) = true := by decide +kernel

/-- R502: the anchor's hash is fused once. -/
theorem test_mb_done_anchor : (match exec (.mbCmdDone 2000 true img0 55) (box (inMb 5 ran)) with
    | .next s => s.fuse.anchors == [(1, 55)] && s.m.rd Reg.Mailbox.MB_RESULT == 0 && tells s.m .mailbox 0 0x4C15
    | _ => false) = true := by decide +kernel

/-- A restart of the management core. -/
def restarting (op : Nat) (m : Mach) : Mach := (inMb op m).modBoot fun b => { b with restart := some op }

theorem test_restart : gives (.mgmtRestartDone 2000) (restarting 8 ran) true (fun n => n.rd Reg.Mailbox.MGMT_RESTARTS == 1 && n.rd Reg.Mailbox.MB_RESULT == 0) = true := by decide +kernel
theorem test_restart_new : gives (.mgmtRestartDone 2000) (restarting 3 (ran.modBoot fun b => { b with slotB := { img := some img0 } })) true
    (fun n => n.rd Reg.Mailbox.MB_RESULT == 0 && n.boot.running == some 1 && n.rd Reg.Mailbox.BOOT_SLOT == 1 && tells n .mailbox 0 0x4C12) = true := by decide +kernel
theorem test_restart_bad : gives (.mgmtRestartDone 2000) (restarting 3 ran) true
    (fun n => n.rd Reg.Mailbox.MB_RESULT == 3 && n.rd Reg.Mailbox.BOOT_FAIL == 2 && n.rd Reg.Mailbox.BOOT_SLOT == 0) = true := by decide +kernel

/-- Recovery mode with an update in a state. -/
def recov (st : Nat) : Mach := (stage 7).modBoot fun b => { b with pldm := { st := st, size := 4096, asked := 1000 } }

theorem test_pldm_query : gives (.pldmQueryDeviceIdentifiers 2000) (recov 0) true (fun _ => true) = true := by decide +kernel
theorem test_pldm_params : gives (.pldmGetFirmwareParameters 2000) (recov 0) true (fun n => n.out == [.pldm 0x02 0 [1, 3]]) = true := by decide +kernel
theorem test_pldm_request : gives (.pldmRequestUpdate 2000) (recov 0) true (fun n => n.boot.pldm.st == 1 && n.out == [.pldm 0x10 0 []]) = true := by decide +kernel
theorem test_pldm_pass : gives (.pldmPassComponentTable 2000 true) (recov 1) true (fun n => n.boot.pldm.st == 2) = true := by decide +kernel
theorem test_pldm_update : gives (.pldmUpdateComponent 2000 true 8388608) (recov 2) true (fun n => n.boot.pldm.st == 3 && n.out == [.pldm 0x14 0 [0], .pldm 0x15 0 [0, 1024]]) = true := by decide +kernel
theorem test_pldm_data : gives (.pldmFirmwareData 2000 img0) (recov 3) true (fun n => n.boot.pldm.next == 1024 && n.boot.slotA.img == some { img0 with digestOk := false }) = true := by decide +kernel
theorem test_pldm_data_last : gives (.pldmFirmwareData 2000 img0) ((recov 3).modBoot fun b => { b with pldm := { b.pldm with next := 3072 } }) true
    (fun n => n.boot.pldm.st == 6 && n.boot.preferred == 0 && n.boot.slotA.img == some img0) = true := by decide +kernel
theorem test_pldm_activate : gives (.pldmActivateFirmware 2000) (recov 6) true (fun n => n.boot.pldm.st == 0 && n.out == [.pldm 0x1A 0 [1]]) = true := by decide +kernel
theorem test_pldm_status : gives (.pldmGetStatus 2000) (recov 3) true (fun n => n.out == [.pldm 0x1B 0 [3, 0, 4096]]) = true := by decide +kernel
theorem test_pldm_cancel_component : gives (.pldmCancelUpdateComponent 2000) (recov 4) true (fun n => n.boot.pldm.st == 2) = true := by decide +kernel
theorem test_pldm_cancel : gives (.pldmCancelUpdate 2000) (recov 2) true (fun n => n.boot.pldm.st == 0) = true := by decide +kernel
theorem test_pldm_timeout : gives (.pldmDataTimeout 60000001000) (recov 3) true (fun n => n.boot.pldm.st == 0 && n.boot.pldm.size == 0) = true := by decide +kernel

/-- R500: an image that does not pass stays in slot A, told with its code. -/
theorem test_pldm_data_bad : gives (.pldmFirmwareData 2000 { img0 with sigOk := false }) ((recov 3).modBoot fun b => { b with pldm := { b.pldm with size := 1024, next := 0 } }) true
    (fun n => n.boot.pldm.st == 4 && tells n .mailbox 0 0x4C11) = true := by decide +kernel

/-! ### The spec's worked examples -/

/-- R162: N = 16 at DDR5-8000, `BE_PCT` 85, W = 500,000, ports A to D at levels 0 to 3. -/
theorem test_be_shares :
    (let m := sets m0 ([(Reg.Weir.N_IN, 16, 0, 0), (Reg.Allotment.GUARANTEED.act, 1, 1, 0), (Reg.Allotment.RES_RD.act, 500000, 1, 0)] ++
       (List.range 4).flatMap fun p => [(Reg.HostPort.DL_UP, 1, p, 0), (Reg.Headgate.CALL_USED, p, p, 0)])
     let n := m.splitBe
     (n.rd Reg.Weir.BE_ALLOW :: n.rd Reg.Weir.BE_LEFT :: (List.range 4).map fun p => n.rd Reg.Weir.BE_SHARE_LEFT 0 p) == [11575, 2, 771, 1543, 3086, 6173]) = true := by
  decide +kernel

/-- R163: D = 608,000 at the Reset values. -/
theorem test_freeboard :
    (let n := (sets m0 [(Reg.Weir.D_MBPS, 608000, 0, 0)]).grantFb
     ((List.range 5).map fun k => n.rd Reg.Weir.FB_GRANT 0 k) == [380, 285, 380, 190, 285]) = true := by decide +kernel

/-- R169: the cut of degraded operation, its lines, and what ports C and D get of them. -/
theorem test_degraded :
    (let m := sets m0 [(Reg.Weir.D_MBPS, 570000, 0, 0), (Reg.Allotment.GUARANTEED.act, 1, 1, 0), (Reg.Allotment.GUARANTEED.act, 1, 2, 0),
       (Reg.Allotment.GUARANTEED.act, 1, 3, 0), (Reg.Allotment.RES_RD.act, 200000, 1, 0), (Reg.Allotment.RES_RD.act, 200000, 2, 0),
       (Reg.Allotment.RES_RD.act, 140000, 3, 0), (Reg.Headgate.FLOOR_RD.act, 60000, 2, 3), (Reg.Headgate.FLOOR_RD.act, 80000, 3, 3),
       (Reg.Headgate.CALL_USED, 2, 2, 0), (Reg.Headgate.CALL_USED, 1, 3, 0)]
     let n := m.degrade m
     [n.rd Reg.Weir.AVAIL_LINES, n.rd Reg.Weir.CUT_ALLOT, n.rd Reg.Weir.CUT_LINES, n.cutLeft (some 2), n.cutLeft (some 3), n.cutLeft none] ==
       [16387, 3, 3887, 1875, 2012, 0]) = true := by decide +kernel

/-- R146: port C at 14,175 MB/s is capped at 442 lines. -/
theorem test_cap :
    (let m := sets m0 [(Reg.HostPort.DL_UP, 1, 2, 0), (Reg.HostPort.PAYLOAD_MBPS, 14175, 2, 0), (Reg.Allotment.GUARANTEED.act, 1, 1, 0), (Reg.Headgate.FLOOR_RD.act, 40000, 2, 1)]
     let n := m.portCap m 2
     [n.rd Reg.Headgate.CAPPED 2, n.rd Reg.Headgate.PORT_LEFT_RD 2] == [1, 442]) = true := by decide +kernel

/-- R253: line 0x123 of slot 5 of the group at frame 32 and the parity of its row, with their Canals. -/
theorem test_stripe : ([stripePl 32 5 0x123, canalOf 0x20001236, canalOf 0x20001233] == [0x20001236, 6, 3]) = true := by decide +kernel

/-- An SPD: one 256 GB module. -/
def spd1 : Spd := { dimms := 1, gb := 256, width := 4, dens := 32, pkg := 2, log := 0 }

/-- R290: the freeboard lines of a Canal. -/
theorem test_fb_canal : (sets { m0 with st := { m0.st with refPop := some (0, spd1) } } [(Reg.Weir.FREEBOARD.act, 250, 0, 0)]).fbCanal = 296 := by decide +kernel

/-- R330 and R336. -/
theorem test_unacked : (sets m0 [(Reg.Culvert.ACKED, 0xFFFF0, 0, 0), (Reg.Culvert.NEXT_TX, 0x10, 0, 0)]).unacked 0 = 31 := by decide +kernel
theorem test_window_now : (sets (served m0) [(Reg.Hdr.FSM .canal, 0, 9, 0)]).windowNow = 247808 := by decide +kernel

/-- R71: the LINK row of rate 6 and the length of the records. -/
theorem test_link_row : (linkRow 6 == [6, 0, 24, 0, 46, 0, 34, 0, 0, 0, 1, 0, 0, 90, 0, 0]) = true := by decide +kernel
theorem test_ddt_length : m0.ddtRecords.length = 612 := by decide +kernel

/-! ### Published vectors: CRC-32C and CRC-32 check values, AES-256 of FIPS 197, SHA-256 of "abc" -/

theorem test_crcs : ([crc32c [49, 50, 51, 52, 53, 54, 55, 56, 57], crc32 [49, 50, 51, 52, 53, 54, 55, 56, 57]] == [0xE3069283, 0xCBF43926]) = true := by decide +kernel
theorem test_aes : (aesEnc (List.range 32) ((List.range 16).map fun i => 17 * i) ==
    [0x8e, 0xa2, 0xb7, 0xca, 0x51, 0x67, 0x45, 0xbf, 0xea, 0xfc, 0x49, 0x90, 0x4b, 0x49, 0x60, 0x89]) = true := by decide +kernel
theorem test_sha : ((sha256 [0x61, 0x62, 0x63]).take 8 == [0xba, 0x78, 0x16, 0xbf, 0x8f, 0x01, 0xcf, 0xea]) = true := by decide +kernel

/-! ### What no word spells and what is not well formed -/

theorem test_no_word : decodeTableWord 32 0 = none := rfl
theorem test_word_no_effect : State.reset.withFetchWord 32 7 = State.reset := rfl

theorem test_wf_tide : (Instr.wf (.snapTake (2 ^ 64) 5 ⟨.weir, 0⟩)) = false := by decide +kernel
theorem test_wf_page : ((Instr.wf (.snapTake 0 5 ⟨.canal, 16⟩)) || !(Instr.wf (.snapTake 0 5 ⟨.canal, 15⟩))) = false := by decide +kernel
theorem test_wf_flit : (Instr.wf (.idleFlitReceived 0 0 { seq := 2 ^ 20, ack := 0, ackV := false, phase := 0, gcm := true, corr := 0 })) = false := by decide +kernel
theorem test_wf_width : (Instr.wf (.linkRateChange 0 0 8 16)) = false := by decide +kernel
theorem test_wf_image : (Instr.wf (.pldmFirmwareData 0 { img0 with version := 2 ^ 32 })) = false := by decide +kernel
theorem test_wf_config : (Instr.wf (.flrComplete 0 0 { bme := true, mps := 100, mrrs := 512, bi := false })) = false := by decide +kernel
theorem test_wf_spd : (Instr.wf (.canalTrainingDone 0 0 0 { spd1 with dimms := 3 } [])) = false := by decide +kernel
theorem test_wf_bytes : (Instr.wf (.compressDone 0 ⟨[[256]], false⟩)) = false := by decide +kernel
theorem test_wf_lines : (Instr.wf (.mergeDrain 0 [2 ^ 40] [])) = false := by decide +kernel

end Sys2Proof.Tests
end

section
/-! PROOFS. `CFG_WRITERS` (R31): a register write that it keeps out is counted and has no other effect, whichever row carries it. -/

namespace Sys2Proof.Machine

/-! ### What a write that is kept out does -/

/-- A change of the device that is guarded by `CFG_WRITERS`: of a source that may not write it ends SLACK and is counted, and that is
all (R31). -/
def TurnsAway (src : Nat) (g : Mach → Mach) : Prop :=
  ∀ m : Mach, m.pw.st < 2 → m.mayWrite src = false → g m = m.awake.blocked src

theorem turnsAway_written (src : Nat) (f : Mach → Mach) : TurnsAway src fun m => m.written src f := by
  intro m hp hw
  simp only [Mach.written, if_neg (Nat.not_le.mpr hp), hw, Bool.false_eq_true, if_false]

theorem turnsAway_turnedAway (src : Nat) : TurnsAway src fun m => m.turnedAway src :=
  fun _ hp _ => if_neg (Nat.not_le.mpr hp)

theorem turnsAway_stageWrite (k : PageKind) (i src : Nat) (f : Mach → Mach) : TurnsAway src fun m => m.stageWrite k i src f :=
  turnsAway_written src _

/-- A choice that the device's state does not decide is guarded where both its sides are. -/
theorem TurnsAway.ite {src : Nat} {g h : Mach → Mach} (c : Prop) [Decidable c] (hg : TurnsAway src g) (hh : TurnsAway src h) :
    TurnsAway src fun m => if c then g m else h m := by
  by_cases hc : c
  · simpa only [if_pos hc] using hg
  · simpa only [if_neg hc] using hh

theorem turnsAway_ctlWrite (p : PageId) (src : Nat) (f : Mach → Mach) : TurnsAway src fun m => m.ctlWrite p src f :=
  (turnsAway_turnedAway src).ite _ (turnsAway_written src f)

theorem turnsAway_sluiceWrite (c src : Nat) (f : Mach → Mach) : TurnsAway src fun m => m.sluiceWrite c src f :=
  (turnsAway_turnedAway src).ite _ (turnsAway_stageWrite .sluice c src f)

/-- REG_WRITE is guarded as well, once its access is a good one that meets a page. -/
theorem turnsAway_regWrite {src off size val : Nat} (hs : size = 8 ∨ size = 4) (ha : off % size = 0)
    (hp : (pageAt off).isSome = true) (fu : Fuses) : TurnsAway src (regWrite src off size val fu) := by
  intro m hm hw
  obtain ⟨p, hp⟩ := Option.isSome_iff_exists.mp hp
  have hgood : (!((size = 8 || size = 4) && off % size = 0)) = false := by
    rcases hs with rfl | rfl <;> simp [ha]
  simp only [regWrite, if_neg (Nat.not_le.mpr hm), hgood, Bool.false_eq_true, if_false, hp]
  exact turnsAway_ctlWrite p src _ m hm hw

/-- A command with a guarded meaning, of a source that is kept out, completes with the count. -/
theorem run_turnsAway {s : State} {src : Nat} (h : s.keptOut src) (t : Nat) {g : Mach → Mach} (hg : TurnsAway src g) :
    s.run t g = s.done ((s.woken t).blocked src) := by
  obtain ⟨hlive, hp, hw⟩ := h
  rw [run_live hlive]
  exact congrArg s.done (hg (s.now t) hp hw)

/-- A command that hands the fuses on as they were is one that changes the device only. -/
theorem runFuse_same (s : State) (t : Nat) (g : Fuses → Mach → Mach) :
    s.runFuse t (fun f m => (f, g f m)) = s.run t (g s.fuse) := by
  by_cases h : s.live
  · rw [runFuse_live h, run_live h]; rfl
  · rw [runFuse_dead h, run_dead h]

/-- The rows that are register writes, by the way in which each is guarded. -/
theorem exec_writerOf {c : Instr} {src : Nat} (h : writerOf c = some src) (s : State) :
    ∃ g, exec c s = s.run c.tide g ∧ TurnsAway src g := by
  cases c with
  | commitGo | pageHaltRequest | softClear | pageLock | snapTake | evtStatusClear | sluiceDisable =>
    obtain rfl := Option.some.inj h
    exact ⟨_, rfl, turnsAway_ctlWrite _ _ _⟩
  | deviceSnapTake | portDisable | siphonDisable | furrowDisable | alarmCauseClear | culvertDisable | fabricLeave =>
    obtain rfl := Option.some.inj h
    exact ⟨_, rfl, turnsAway_written _ _⟩
  | sluiceOnReq | sluiceOffReq | sluiceUnlatch | curveSwap | energyClr =>
    obtain rfl := Option.some.inj h
    exact ⟨_, rfl, turnsAway_sluiceWrite _ _ _⟩
  | twinDetach =>
    obtain rfl := Option.some.inj h
    exact ⟨_, rfl, (turnsAway_stageWrite _ _ _ _).ite _ (turnsAway_written _ _)⟩
  | lockAll | linkRetrain | eq128Retry | latePop | jobSubmit | jobAbort | jobRelease | tcFlush
  | siphonPromote | siphonDemote | siphonCompress | siphonExpand | siphonPin | siphonUnpin | siphonDiscard
  | siphonTractOut | siphonTractIn | flipArm | flipDisarm | furrowPassGo | furrowPassStop | oosReq | returnGo
  | keyLoad | keyGenerate | keyClear | keyZeroise | rekeyGo | culvertRetrain | culvertRestart | regionTear | regionReform
  | resilverGo | resilverFull | twinUnfence | voteSet | voteClr | readSeq | clearReq | clearResp
  | mbPing | mbFwStage | mbFwActivate | mbDeviceReset | mbProvisionAnchor | mbProvisionClearKey | mbProvisionLock
  | mbMgmtRestart | mbFwRevert =>
    obtain rfl := Option.some.inj h
    exact ⟨_, rfl, turnsAway_stageWrite _ _ _ _⟩
  | _ => exact nomatch h

theorem exec_regWrite_keptOut {s : State} {src : Source} {off size : Nat} (h : s.keptOut src) (hs : size = 8 ∨ size = 4)
    (ha : off % size = 0) (hp : (pageAt off).isSome = true) (t : Nat) (val : BitVec 64) :
    exec (.regWrite t src off size val) s = s.done ((s.woken t).blocked src) :=
  (runFuse_same s t (regWrite src off size val.toNat)).trans (run_turnsAway h t (turnsAway_regWrite hs ha hp s.fuse))

/-! ### The count -/

theorem rd_blocked_src (m : Mach) {src : Nat} (h : src < 6) : (m.blocked src).rd Reg.Device.BLOCKED_SRC = src := by
  rw [Mach.blocked, rd_wr_same]
  exact Nat.mod_eq_of_lt (Nat.lt_trans h (by decide))

theorem rd_blocked_writes (m : Mach) (src : Nat) :
    (m.blocked src).rd Reg.Device.BLOCKED_WRITES = min (m.rd Reg.Device.BLOCKED_WRITES + 1) (2 ^ 32 - 1) := by
  rw [Mach.blocked, rd_wr_ne _ _ _ _ _ _ _ _ (by decide)]
  exact inc_stops m Reg.Device.BLOCKED_WRITES 0 0 1 rfl

/-! ### Who may write -/

theorem mayWrite_port (m : Mach) {src : Nat} (h : src < 4) : m.mayWrite src = (m.rd Reg.Device.PORT_WR).testBit src := by
  rw [Mach.mayWrite, if_neg (by omega), if_neg (by omega)]

theorem testBit_setBit_same (v i : Nat) : (setBit v i true).testBit i = true := by
  unfold setBit
  split
  case isTrue h => exact h
  case isFalse h => rw [if_pos rfl, Nat.add_comm, Nat.testBit_two_pow_add_eq, Bool.eq_false_iff.mpr h, Bool.not_false]

/-- A port's write of `CFG_WRITERS` leaves its own bit set (R31). -/
theorem putRw_keeps_own_port (m : Mach) {src : Nat} (v : Nat) (h : src < 4) :
    ((m.putRw ⟨.device, 0⟩ src Reg.Device.PORT_WR 0 v).rd Reg.Device.PORT_WR).testBit src = true := by
  have hput : m.putRw ⟨.device, 0⟩ src Reg.Device.PORT_WR 0 v = m.wr Reg.Device.PORT_WR (setBit v src true) := by
    have hset : m.putRw ⟨.device, 0⟩ src Reg.Device.PORT_WR 0 v =
        m.wr Reg.Device.PORT_WR (if src < 4 then setBit v src true else v) := rfl
    rw [hset, if_pos h]
  rw [hput, rd_wr_same, show Reg.Device.PORT_WR.lim = 2 ^ 4 from rfl, Nat.testBit_mod_two_pow, testBit_setBit_same]
  simpa using h

/-- The BMC's write of `CFG_WRITERS` leaves its own bit set (R31). -/
theorem putRw_keeps_own_bmc (m : Mach) (v : Nat) :
    (m.putRw ⟨.device, 0⟩ 4 Reg.Device.BMC_WR 0 v).flag Reg.Device.BMC_WR = true := by
  have hput : m.putRw ⟨.device, 0⟩ 4 Reg.Device.BMC_WR 0 v = m.wr Reg.Device.BMC_WR 1 := rfl
  rw [hput, flag_wr_same]
  rfl

/-! ### A register read -/

/-- Ending SLACK changes no register field but the state machines of the host ports. -/
theorem rd_awake (m : Mach) (f : Field) (i n : Nat) (h : ∀ p, f.addr i n ≠ (Reg.Hdr.FSM .hostPort).addr p 0) :
    m.awake.rd f i n = m.rd f i n := by
  unfold Mach.awake
  split
  · refine each_keeps (fun m => m.rd f i n) _ (fun m p => ?_) (m.enterPower 0) _
    split
    · exact rd_wr_ne m _ _ _ _ _ _ _ (h p)
    · rfl
  · rfl

/-- A read of `LATE_W0` changes no register field but the two of the FIFO's head. -/
theorem rd_lateW0Read (m : Mach) (p : Nat) (f : Field) (i n : Nat) (h0 : f.addr i n ≠ Reg.Headgate.LATE_W0.addr p 0)
    (h1 : f.addr i n ≠ Reg.Headgate.LATE_W1.addr p 0) : (lateW0Read p m).rd f i n = m.rd f i n := by
  unfold lateW0Read
  split
  · rw [rd_wr_ne _ _ _ _ _ _ _ _ h1, rd_wr_ne _ _ _ _ _ _ _ _ h0]
  · exact rd_wr_ne _ _ _ _ _ _ _ _ h0

/-- The Device page is the lowest. -/
theorem pageBase_pos {k : PageKind} (h : k ≠ .device) : 0 < pageBase k := by
  cases k with
  | device => exact absurd rfl h
  | _ => decide

theorem blocked_writes_addr_ne {f : Field} (h : f.page ≠ .device) (i n : Nat) : Reg.Device.BLOCKED_WRITES.addr 0 0 ≠ f.addr i n := by
  have hdev : Reg.Device.BLOCKED_WRITES.addr 0 0 < 32768 := by decide
  have hbase := pageBase_pos h
  have hf : 32768 ≤ f.addr i n := by unfold Field.addr; omega
  omega

/-- The one read that is a command is not counted in `BLOCKED_WRITES`. -/
theorem lateW0Read_keeps_blocked_writes (t : Nat) (p : Port) (s : State) :
    s.yields (exec (.lateW0Read t p) s) fun m => m.rd Reg.Device.BLOCKED_WRITES = s.m.rd Reg.Device.BLOCKED_WRITES := by
  have hrun : exec (.lateW0Read t p) s = s.run t fun m => if 2 ≤ m.pw.st then m else lateW0Read p m.awake := rfl
  by_cases hlive : s.live
  · refine ⟨_, hrun.trans (run_live hlive t _), ?_⟩
    split
    · rfl
    · rw [rd_lateW0Read _ _ _ _ _ (blocked_writes_addr_ne (by decide) _ _) (blocked_writes_addr_ne (by decide) _ _),
        rd_awake _ _ _ _ fun _ => blocked_writes_addr_ne (by decide) _ _]
      rfl
  · exact ⟨_, hrun.trans (run_dead hlive t _), rfl⟩

/-- Settles O8: every row of a register write goes through one of the four guarded forms of a write, and each of them turns a source
that `CFG_WRITERS` keeps out away with the count alone. -/
theorem blockedWrites : Obligations.BlockedWrites := by
  unfold Obligations.BlockedWrites
  refine ⟨fun c src s hw hout => ?_, fun t src off size val s hout hs ha hp => exec_regWrite_keptOut hout hs ha hp t val,
    fun m src hsrc => ⟨rd_blocked_src m hsrc, rd_blocked_writes m src⟩,
    fun m => ⟨rfl, rfl, fun _ hsrc => mayWrite_port m hsrc⟩,
    fun m src v => ⟨putRw_keeps_own_port m v, ?_⟩, lateW0Read_keeps_blocked_writes⟩
  · obtain ⟨g, hexec, hg⟩ := exec_writerOf hw s
    exact hexec.trans (run_turnsAway hout c.tide hg)
  · rintro rfl
    exact putRw_keeps_own_bmc m v

end Sys2Proof.Machine
end

section
/-! PROOFS. The Late FIFO of a port (R101): what a read of `LATE_W0` and a pop do to its entries and to the two fields of its head. -/

namespace Sys2Proof.Machine

/-! ### The state of a port -/

theorem port_modPort_same (m : Mach) (p : Nat) (f : PortX → PortX) : (m.modPort p f).port p = f (m.port p) :=
  Tbl.getD_put_same ..

theorem port_modPort_ne (m : Mach) {p q : Nat} (f : PortX → PortX) (h : q ≠ p) : (m.modPort p f).port q = m.port q :=
  Tbl.getD_put_ne _ _ _ h

/-- A vector that goes out, or stays pending, takes no entry out of a Late FIFO. -/
theorem late_sendVec (m : Mach) (p q v : Nat) : ((m.sendVec p v).port q).late = (m.port q).late := by
  unfold Mach.sendVec
  split
  case isTrue => rfl
  case isFalse =>
    split
    case isTrue => rfl
    case isFalse =>
      by_cases hq : q = p
      · subst hq
        rw [port_modPort_same]
        split <;> rfl
      · rw [port_modPort_ne m _ hq]

/-! ### A read of `LATE_W0` -/

theorem lateW0Read_cons {m : Mach} {p : Nat} {e : LateEnt} {l : List LateEnt} (h : (m.port p).late = e :: l) :
    lateW0Read p m = (m.wr Reg.Headgate.LATE_W0 e.w0 p).wr Reg.Headgate.LATE_W1 e.w1 p := by
  rw [lateW0Read, h]

theorem lateW0Read_nil {m : Mach} {p : Nat} (h : (m.port p).late = []) : lateW0Read p m = m.wr Reg.Headgate.LATE_W0 0 p := by
  rw [lateW0Read, h]

/-- Reading `LATE_W0` leaves every FIFO as it was: only LATE_POP removes an entry. -/
theorem port_lateW0Read (m : Mach) (p q : Nat) : (lateW0Read p m).port q = m.port q := by
  unfold lateW0Read
  split <;> rfl

theorem rd_lateW0Read_w0 {m : Mach} {p : Nat} {e : LateEnt} {l : List LateEnt} (h : (m.port p).late = e :: l) :
    (lateW0Read p m).rd Reg.Headgate.LATE_W0 p = e.w0 % 2 ^ 64 := by
  have haddr : Reg.Headgate.LATE_W0.addr p 0 ≠ Reg.Headgate.LATE_W1.addr p 0 :=
    addr_same_page Reg.Headgate.LATE_W1 Reg.Headgate.LATE_W0 p 0 0 rfl (by decide)
  rw [lateW0Read_cons h, rd_wr_ne _ _ _ _ _ _ _ _ haddr, rd_wr_same]
  rfl

theorem rd_lateW0Read_w1 {m : Mach} {p : Nat} {e : LateEnt} {l : List LateEnt} (h : (m.port p).late = e :: l) :
    (lateW0Read p m).rd Reg.Headgate.LATE_W1 p = e.w1 % 2 ^ 64 := by
  rw [lateW0Read_cons h, rd_wr_same]
  rfl

theorem rd_lateW0Read_empty {m : Mach} {p : Nat} (h : (m.port p).late = []) :
    (lateW0Read p m).rd Reg.Headgate.LATE_W0 p = 0 := by
  rw [lateW0Read_nil h, rd_wr_same, Nat.zero_mod]

/-- While the rails are present and BAR0 is reachable (R459), the read happens on the woken device. -/
theorem exec_lateW0Read {s : State} (hlive : s.live) (hp : s.m.pw.st < 2) (t : Nat) (p : Port) :
    exec (.lateW0Read t p) s = s.done (lateW0Read p (s.woken t)) := by
  have hrun : exec (.lateW0Read t p) s = s.run t fun m => if 2 ≤ m.pw.st then m else lateW0Read p m.awake := rfl
  rw [hrun, run_live hlive]
  exact congrArg s.done (if_neg (Nat.not_le.mpr hp))

/-! ### A pop -/

theorem latePop_nil {m : Mach} {p : Nat} (h : (m.port p).late = []) : latePop p m = m := by
  rw [latePop, h]

/-- A pop takes the head off, and nothing where there is none. -/
theorem late_latePop (m : Mach) (p : Nat) : ((latePop p m).port p).late = (m.port p).late.tail := by
  cases h : (m.port p).late with
  | nil => rw [latePop_nil h, h, List.tail_nil]
  | cons e l =>
    simp only [latePop, h]
    split
    case isTrue => rw [port_modPort_same, List.tail_cons]
    case isFalse => rw [late_sendVec, port_modPort_same, List.tail_cons]

/-- A pop that is let in happens on the woken device once the page has noted the source. -/
theorem exec_latePop_can {s : State} {src : Source} (h : s.canWrite src) (t : Nat) (p : Port) :
    exec (.latePop t src p) s = s.done (latePop p (s.noted t .headgate p src)) := by
  have hrun : exec (.latePop t src p) s = s.run t fun m => m.stageWrite .headgate p src (latePop p) := rfl
  rw [hrun, run_live h.left, stageWrite_can h]

/-! ### `VIEW` -/

/-- A field on the list of R101, R488 and R510 shows its live value, frozen copy or not. -/
theorem shown_of_viewLive (m : Mach) {f : Field} (hread : f.access ≠ .wo) (hlive : f ∈ viewLive) (i n : Nat) :
    m.shown f i n = m.live f i n := by
  simp [Mach.shown, hread, hlive]

theorem lateWords_viewLive {f : Field} (h : f ∈ [Reg.Headgate.LATE_W0, Reg.Headgate.LATE_W1]) : f.access ≠ .wo ∧ f ∈ viewLive := by
  simp only [List.mem_cons, List.not_mem_nil, or_false] at h
  rcases h with rfl | rfl
  · exact ⟨by decide, by simp only [viewLive, List.mem_append, List.mem_cons, true_or]⟩
  · exact ⟨by decide, by simp only [viewLive, List.mem_append, List.mem_cons, true_or, or_true]⟩

/-- Settles O34: the read is `lateW0Read` and the pop `latePop` on the woken device, and both words of the head are exempt from `VIEW`. -/
theorem lateFifo : Obligations.LateFifo := by
  unfold Obligations.LateFifo
  intro t src p s hlive
  refine ⟨fun hp => ⟨fun e l hl => ?_, fun hl => ?_⟩, fun hw => ?_, fun hw hl => ?_, fun f hf => ?_⟩
  · exact ⟨_, exec_lateW0Read hlive hp t p, rd_lateW0Read_w0 hl, rd_lateW0Read_w1 hl, by rw [port_lateW0Read, hl]⟩
  · exact ⟨_, exec_lateW0Read hlive hp t p, rd_lateW0Read_empty hl, by rw [port_lateW0Read, hl]⟩
  · exact ⟨_, exec_latePop_can hw t p, late_latePop _ _⟩
  · exact (exec_latePop_can hw t p).trans (congrArg s.done (latePop_nil hl))
  · obtain ⟨hread, hview⟩ := lateWords_viewLive hf
    exact shown_of_viewLive s.m hread hview p 0

end Sys2Proof.Machine
end
